-- ==== Sys2Proof/Word.lean ====
section
/-! DEFINITION. The byte type of the link and the plainest arithmetic the rules name: clamping and the two roundings. -/

namespace Sys2Proof

/-- One byte on the link. -/
abbrev Byte := BitVec 8

/-- A two-byte field of a request. -/
abbrev Half := BitVec 16

/-- `v` moved to the nearer end of `lo..hi` where it lies outside (R87, R186). -/
def clampInt (lo hi v : Int) : Int :=
  if v < lo then lo else if hi < v then hi else v

/-- "Floor" of 00_scope.md: rounding towards minus infinity. -/
def floorDiv (a b : Int) : Int := Int.fdiv a b

/-- A counter that saturates at `top`. -/
def satAdd (top n k : Nat) : Nat := min top (n + k)

end Sys2Proof
end

