-- ==== Sys2Proof/Syntax.lean ====
section
/-! DEFINITION. The names of the spec (channels, jacks, drivers, codes) and the commands: one constructor of `Instr` per row of spec/opcode_table.json. -/

namespace Sys2Proof

/-- The four slide-out rooms. -/
inductive Room where
  | a | b | c | d
  deriving DecidableEq, Repr

/-- The six channels (00_scope.md), in the order of their codes. -/
inductive Ch where
  | level
  | room (r : Room)
  | awning
  deriving DecidableEq, Repr

/-- Jack positions in jack order. -/
inductive Jack where
  | lf | rf | lr | rr | lm | rm
  deriving DecidableEq, Repr

/-- Drive side of an electric room: end A or end B. -/
inductive Side where
  | endA | endB
  deriving DecidableEq, Repr

/-- The eleven drivers of R154. -/
inductive Driver where
  | pump
  | roomEnd (r : Room) (e : Side)
  | awning
  | spare
  deriving DecidableEq, Repr

/-- Operations of every channel (12.4). -/
inductive Op where
  | autoLevel | stabilise | stow | jog | captureZero | extend | retract | learn | autoRetract
  deriving DecidableEq, Repr

/-- The twelve alerts in alert order (12.4). -/
inductive Alert where
  | driveAway | windRetract | supplySag | supplyBrown | levelDisturbed | jackSensor
  | hallFault | overcurrent | pumpHot | storeFault | positionUncertain | inclinometerLost
  deriving DecidableEq, Repr

/-- The eleven report sources (12.4). -/
inductive Source where
  | chan (c : Ch)
  | alerts | inputs | posture | store | telemetry
  deriving DecidableEq, Repr

/-- The two kinds of sensor fault flag (R170). -/
inductive SensorFlag where
  | jack (j : Jack)
  | line
  deriving DecidableEq, Repr

/-- One value for each room. -/
structure PerRoom (α : Type) where
  a : α
  b : α
  c : α
  d : α
  deriving DecidableEq, Repr

/-- One value for each jack position. -/
structure PerJack (α : Type) where
  lf : α
  rf : α
  lr : α
  rr : α
  lm : α
  rm : α
  deriving DecidableEq, Repr

/-- One value for each end of a room. -/
structure PerSide (α : Type) where
  endA : α
  endB : α
  deriving DecidableEq, Repr

/-- One value for each channel. -/
structure PerCh (α : Type) where
  level : α
  rooms : PerRoom α
  awning : α
  deriving DecidableEq, Repr

/-- One value for each driver of R154. -/
structure PerDriver (α : Type) where
  pump : α
  ends : PerRoom (PerSide α)
  awning : α
  spare : α
  deriving DecidableEq, Repr

/-- What one analog scan reads (R169): the transducers in 0.01 % of the converter span, the driver currents in
0.1 A, the supply in 10 mV. [log 6, DESIGN CHOICE.] -/
structure Analog where
  strokes : PerJack Nat
  pressures : PerJack Nat
  line : Nat
  currents : PerDriver Nat
  supply : Nat
  deriving DecidableEq, Repr

/-- The uncorrected pair of a good inclinometer read (R87). -/
structure RawGrad where
  pitch : Int
  roll : Int
  deriving DecidableEq, Repr

/-- What start-up reads from outside the part (R192): whether the memory answers in step 1 and in step 2, the first
analog scan with the seven supply samples that follow it, the first inclinometer poll, and every line's first level. -/
structure StartUpReads where
  settingsAnswer : Bool
  snapshotAnswer : Bool
  scan : Analog
  moreSupply : List Nat
  poll : Option RawGrad
  inputs : Vector Bool 16
  stowed : PerJack Bool
  roomIn : PerRoom Bool
  awningIn : Bool
  faultSense : PerDriver Bool
  deriving DecidableEq, Repr

/-- The commands: one constructor per row of spec/opcode_table.json, in its order. -/
inductive Instr where
  | start (tag : Byte) (ch : Ch) (op : Op) (hold : Bool) (operand : Half)
  | hold (tag : Byte) (ch : Ch)
  | stop (tag : Byte) (ch : Ch)
  | clear (tag : Byte) (ch : Ch)
  | readInputs (tag : Byte)
  | setLinkOutputs (tag : Byte) (mask : Byte)
  | readSupply (tag : Byte)
  | get (tag : Byte) (group index : Byte)
  | set (tag : Byte) (group index : Byte) (value : BitVec 32)
  | save (tag : Byte)
  | loadDefaults (tag : Byte)
  | enterWatch (tag : Byte)
  | enterSleep (tag : Byte)
  | resetPart (tag : Byte)
  | pauseReports (tag : Byte)
  | resumeReports (tag : Byte)
  | requestReport (tag : Byte) (source : Source)
  | ackAlert (tag : Byte) (mask : Half)
  | getIdentity (tag : Byte)
  | badRequest (tag : Byte) (kind : Byte)
  | frameBadCheck
  | frameTooLong
  | linkByte (b : Byte)
  | syncAtRest
  | assemblyGapTimeout
  | drainQuietTimeout
  | heldRequestServed
  | frameSent
  | telemetryTimerExpiry
  | idleFillSpacingExpiry
  | powerOnReset
  | pinReset
  | requestReset
  | startUpEnd (reads : StartUpReads)
  | imageWriteEnd (ok : Bool)
  | markerClearEnd (ok : Bool)
  | snapshotWriteEnd (ok : Bool)
  | admissionScan
  | waitExpired (ch : Ch)
  | holdExpiry (ch : Ch)
  | stoppingEnd (ch : Ch)
  | inputRawChange (t : Fin 16) (high : Bool)
  | inputDebounceExpiry (t : Fin 16)
  | speedPulse (width : Nat)
  | speedWindowExpiry
  | stowedSwitchChange (j : Jack) (active : Bool)
  | roomInSwitchChange (r : Room) (active : Bool)
  | awningInSwitchChange (active : Bool)
  | analogScan (reads : Analog)
  | sensorFlagClear (flag : SensorFlag)
  | tripTimerExpiry (d : Driver)
  | faultSenseChange (d : Driver) (active : Bool)
  | inclinometerPoll (read : Option RawGrad)
  | settleGiveUp
  | groundTimeLimit
  | liftTimeLimit
  | levelStall
  | trimWaitEnd
  | trimTimeLimit
  | stowTimeLimit
  | driftTimerExpiry
  | cooldownEnd
  | pumpDutyLimit
  | hydraulicDeadheadEnd (r : Room)
  | hydraulicTravelTime (r : Room)
  | roomHallPulse (r : Room) (e : Side)
  | roomPulseLateExpiry (r : Room) (e : Side)
  | roomStall (r : Room) (e : Side)
  | learnReversalEnd (r : Room)
  | awningHallPulse
  | awningPulseLateExpiry
  | awningStall
  | anemometerPulse
  | windBinEnd
  | lockoutEnd
  deriving DecidableEq, Repr

/-! ### Reading and writing one place of a record of like things -/

def PerRoom.get {α : Type} (p : PerRoom α) : Room → α
  | .a => p.a
  | .b => p.b
  | .c => p.c
  | .d => p.d

def PerRoom.set {α : Type} (p : PerRoom α) (r : Room) (v : α) : PerRoom α :=
  match r with
  | .a => { p with a := v }
  | .b => { p with b := v }
  | .c => { p with c := v }
  | .d => { p with d := v }

def PerJack.get {α : Type} (p : PerJack α) : Jack → α
  | .lf => p.lf
  | .rf => p.rf
  | .lr => p.lr
  | .rr => p.rr
  | .lm => p.lm
  | .rm => p.rm

def PerJack.set {α : Type} (p : PerJack α) (j : Jack) (v : α) : PerJack α :=
  match j with
  | .lf => { p with lf := v }
  | .rf => { p with rf := v }
  | .lr => { p with lr := v }
  | .rr => { p with rr := v }
  | .lm => { p with lm := v }
  | .rm => { p with rm := v }

def PerSide.get {α : Type} (p : PerSide α) : Side → α
  | .endA => p.endA
  | .endB => p.endB

def PerSide.set {α : Type} (p : PerSide α) (e : Side) (v : α) : PerSide α :=
  match e with
  | .endA => { p with endA := v }
  | .endB => { p with endB := v }

def PerCh.get {α : Type} (p : PerCh α) : Ch → α
  | .level => p.level
  | .room r => p.rooms.get r
  | .awning => p.awning

def PerCh.set {α : Type} (p : PerCh α) (c : Ch) (v : α) : PerCh α :=
  match c with
  | .level => { p with level := v }
  | .room r => { p with rooms := p.rooms.set r v }
  | .awning => { p with awning := v }

def PerDriver.get {α : Type} (p : PerDriver α) : Driver → α
  | .pump => p.pump
  | .roomEnd r e => (p.ends.get r).get e
  | .awning => p.awning
  | .spare => p.spare

def PerDriver.set {α : Type} (p : PerDriver α) (d : Driver) (v : α) : PerDriver α :=
  match d with
  | .pump => { p with pump := v }
  | .roomEnd r e => { p with ends := p.ends.set r ((p.ends.get r).set e v) }
  | .awning => { p with awning := v }
  | .spare => { p with spare := v }

/-- The same value for every room. -/
def PerRoom.all {α : Type} (v : α) : PerRoom α := ⟨v, v, v, v⟩

/-- The same value for every jack position. -/
def PerJack.all {α : Type} (v : α) : PerJack α := ⟨v, v, v, v, v, v⟩

/-- The same value for every channel. -/
def PerCh.all {α : Type} (v : α) : PerCh α := ⟨v, PerRoom.all v, v⟩

/-- The same value for every driver. -/
def PerDriver.all {α : Type} (v : α) : PerDriver α := ⟨v, PerRoom.all ⟨v, v⟩, v, v⟩

/-! ### Lists in the orders of the spec -/

/-- ROOM_A to ROOM_D. -/
def allRooms : List Room := [.a, .b, .c, .d]

/-- Jack order: LF, RF, LR, RR, LM, RM. -/
def allJacks : List Jack := [.lf, .rf, .lr, .rr, .lm, .rm]

/-- Channel order: LEVEL, ROOM_A to ROOM_D, AWNING. -/
def allChs : List Ch := [.level, .room .a, .room .b, .room .c, .room .d, .awning]

/-- Latch order: pump, the ends of rooms A to D, awning, spare (R154). -/
def allDrivers : List Driver :=
  [.pump, .roomEnd .a .endA, .roomEnd .a .endB, .roomEnd .b .endA, .roomEnd .b .endB,
   .roomEnd .c .endA, .roomEnd .c .endB, .roomEnd .d .endA, .roomEnd .d .endB, .awning, .spare]

/-- Alert order (12.4). -/
def allAlerts : List Alert :=
  [.driveAway, .windRetract, .supplySag, .supplyBrown, .levelDisturbed, .jackSensor,
   .hallFault, .overcurrent, .pumpHot, .storeFault, .positionUncertain, .inclinometerLost]

/-! ### Codes of 12.4 -/

def Room.idx : Room → Nat
  | .a => 0
  | .b => 1
  | .c => 2
  | .d => 3

def Jack.idx : Jack → Nat
  | .lf => 0
  | .rf => 1
  | .lr => 2
  | .rr => 3
  | .lm => 4
  | .rm => 5

def Side.idx : Side → Nat
  | .endA => 0
  | .endB => 1

def Side.other : Side → Side
  | .endA => .endB
  | .endB => .endA

def Ch.code : Ch → Nat
  | .level => 0
  | .room r => 1 + r.idx
  | .awning => 5

def Op.code : Op → Nat
  | .autoLevel => 0
  | .stabilise => 1
  | .stow => 2
  | .jog => 3
  | .captureZero => 4
  | .extend => 5
  | .retract => 6
  | .learn => 7
  | .autoRetract => 8

def Source.code : Source → Nat
  | .chan c => c.code
  | .alerts => 6
  | .inputs => 7
  | .posture => 8
  | .store => 9
  | .telemetry => 10

def Alert.idx : Alert → Nat
  | .driveAway => 0
  | .windRetract => 1
  | .supplySag => 2
  | .supplyBrown => 3
  | .levelDisturbed => 4
  | .jackSensor => 5
  | .hallFault => 6
  | .overcurrent => 7
  | .pumpHot => 8
  | .storeFault => 9
  | .positionUncertain => 10
  | .inclinometerLost => 11

/-- A driver's number in latch order. -/
def Driver.idx : Driver → Nat
  | .pump => 0
  | .roomEnd r e => 1 + 2 * r.idx + e.idx
  | .awning => 9
  | .spare => 10

/-- Every report source, in the order of the codes. -/
def allSources : List Source :=
  allChs.map Source.chan ++ [.alerts, .inputs, .posture, .store, .telemetry]

/-- Every operation, in the order of the codes. -/
def allOps : List Op :=
  [.autoLevel, .stabilise, .stow, .jog, .captureZero, .extend, .retract, .learn, .autoRetract]

def Ch.ofCode (n : Nat) : Option Ch := allChs.find? (fun c => c.code == n)

def Op.ofCode (n : Nat) : Option Op := allOps.find? (fun o => o.code == n)

def Source.ofCode (n : Nat) : Option Source := allSources.find? (fun x => x.code == n)

def Jack.ofIdx (n : Nat) : Option Jack := allJacks.find? (fun j => j.idx == n)

end Sys2Proof
end

