-- ==== Sys2Proof/Decode.lean ====
section
/-! DEFINITION. The decoder over the opcode table's bits: no row of the table gives bits, so no word spells a command. The frames of chapter 12 are decoded in Machine/Formats.lean. -/

namespace Sys2Proof

/-- The command that a word spells by the table's bits: none, because the table gives its rows no bits. [log 9, DESIGN CHOICE.] -/
def decodeTableWord (_nbits _w : Nat) : Option Instr := none

end Sys2Proof
end

