-- ==== Sys2Proof/Config.lean ====
section
/-! DEFINITION. The fixed quantities of the part, and the free values: numbers that the spec uses or sends and never states (logs 7, 23, 55). -/

namespace Sys2Proof

/-! ### Free values (DESIGN CHOICE, logs 7, 23, 55): the spec states no number for them -/

/-- The reply kind to a well-formed frame whose KIND is no request kind: 12.1 gives a reply kind to requests only. -/
opaque Config.badKindReply : Byte → Byte

/-- The code of the phase that stands `n`th in R67's list; 12.4 lists none. -/
opaque Config.phaseCode : Nat → Byte

/-- The two bits of the drive that stands `n`th in R102's list; 12.3 and 12.4 list none. -/
opaque Config.driveCode : Nat → BitVec 2

/-- The two bits of the run state that stands `n`th in R41's list; 12.3 and 12.4 list none. -/
opaque Config.runStateCode : Nat → BitVec 2

/-- The pump record's direction byte, EXTEND 0th and RETRACT 1st in R41's list; 12.3 and 12.4 list none. -/
opaque Config.pumpDirCode : Nat → Byte

/-- A jack's valve byte in TELEMETRY, OPEN 0th and CLOSED 1st in R42's list; 12.3 gives its width and 12.4 lists none. -/
opaque Config.jackValveCode : Nat → Byte

/-- The plan record's outcome byte for the outcome that stands `n`th in R67's list; 12.4 lists none. -/
opaque Config.outcomeCode : Nat → Byte

/-- The awning's byte of drive and in-switch in TELEMETRY; 12.3 gives its place and no layout. -/
opaque Config.awningDriveByte : Nat → Bool → Byte

/-- The design revision number of GET_IDENTITY; R183 names it and 12.2 gives its width only. -/
opaque Config.designRevision : Byte

/-- The link protocol version of GET_IDENTITY; R183 names it and 12.2 gives its width only. -/
opaque Config.protocolVersion : Byte

/-- The ground stroke that the lift plan takes for the jack that stands `n`th in jack order and has none: R71 says that
the case cannot arise and states no value, yet a stowed switch closing under a grounded jack makes it arise (log 23). -/
opaque Config.missingGround : Nat → Nat

/-- The settled gradients that R70 takes from an empty settle window, 0th the pitch and 1st the roll, before they are kept in
the range of R87: R70 says that the window cannot be empty and states no value, yet it is empty where no poll is sent for the 5 s
(log 55). -/
opaque Config.emptyWindow : Nat → Int

/-! ### Fixed quantities -/

/-- Ageing of a current wait: 5 s (R10). -/
def Config.agingMs : Nat := 5000

/-- Stopping interval of LEVEL and of HYDRAULIC rooms (R18). -/
def Config.stopHydraulicMs : Nat := 300

/-- Stopping interval of TWIN and SINGLE rooms and of AWNING (R18). -/
def Config.stopElectricMs : Nat := 150

/-- Duty limit of one continuous run (R49). -/
def Config.dutyLimitMs : Nat := 180000

/-- Least cooldown (R48). -/
def Config.minCooldownMs : Nat := 10000

/-- Entries of the settle window (R70). -/
def Config.ringSize : Nat := 20

/-- Largest LENGTH of a frame (R173). -/
def Config.maxLength : Nat := 120

/-- Replies that the reply buffer holds (R175). -/
def Config.maxReplies : Nat := 4

/-- The fixed start byte (12.1). -/
def Config.sync : Byte := 0xA5#8

end Sys2Proof
end

