-- ==== Sys2Proof/Machine/Table.lean ====
section
/-! DEFINITION. The working configuration: its groups and entries with range, default and owning channel (R185, 12.4 and the chapters of the owners). -/

namespace Sys2Proof.Machine

/-- The ten groups in the order of their codes (12.4). -/
inductive Group where
  | geometry | level | rooms | awning | wind | supply | interlock | terminals | reporting | learned
  deriving DecidableEq, Repr

/-- The working configuration: one value per entry. 0 stands for the absent value of an entry that may be absent. -/
structure Cfg where
  geometry : List Int
  level : List Int
  rooms : List Int
  awning : List Int
  wind : List Int
  supply : List Int
  interlock : List Int
  terminals : List Int
  reporting : List Int
  learned : List Int
  deriving DecidableEq, Repr

/-- What R185 keeps of an entry beside its value. `codes` lists the codes of an enumerated entry (R194);
`zeroAbsent` marks the entries that a SET to 0 makes absent (R101, R125); `step` is 100 for the telemetry interval. -/
structure EntrySpec where
  lo : Int
  hi : Int
  dflt : Int
  owner : Option Ch
  codes : Option (List Int) := none
  zeroAbsent : Bool := false
  step : Int := 1
  deriving DecidableEq, Repr

def Group.ofCode : Nat → Option Group
  | 0 => some .geometry
  | 1 => some .level
  | 2 => some .rooms
  | 3 => some .awning
  | 4 => some .wind
  | 5 => some .supply
  | 6 => some .interlock
  | 7 => some .terminals
  | 8 => some .reporting
  | 9 => some .learned
  | _ => none

/-- Number of entries of a group (12.4). -/
def Group.size : Group → Nat
  | .geometry => 19
  | .level => 6
  | .rooms => 33
  | .awning => 4
  | .wind => 5
  | .supply => 13
  | .interlock => 29
  | .terminals => 83
  | .reporting => 24
  | .learned => 22

/-- A numeric entry with its range, default and owner. -/
def numEntry (lo hi d : Int) (o : Option Ch) : EntrySpec := { lo := lo, hi := hi, dflt := d, owner := o }

/-- A set-or-clear or on-or-off entry (12.4: sent as 1 or 0). -/
def flagEntry (d : Int) (o : Option Ch) : EntrySpec :=
  { lo := 0, hi := 1, dflt := d, owner := o, codes := some [0, 1] }

/-- An entry whose values are codes (R194). [log 73, DESIGN CHOICE.] -/
def enumEntry (codes : List Int) (hi d : Int) (o : Option Ch) : EntrySpec :=
  { lo := 0, hi := hi, dflt := d, owner := o, codes := some codes }

/-- A LEARNED entry that may be absent (R101, R125). -/
def absentEntry (lo hi : Int) (o : Option Ch) : EntrySpec :=
  { lo := lo, hi := hi, dflt := 0, owner := o, zeroAbsent := true }

/-- The room that stands `n`th. -/
def roomOfIdx : Nat → Room
  | 0 => .a
  | 1 => .b
  | 2 => .c
  | _ => .d

/-- GEOMETRY entries (R89). -/
def geometrySpec (i : Nat) : EntrySpec :=
  if i = 0 then enumEntry [0, 4, 6] 6 0 (some .level)
  else match (i - 1) % 3 with
    | 0 => numEntry (-1000) 1000 0 (some .level)
    | 1 => numEntry (-300) 300 0 (some .level)
    | _ => numEntry 50 400 300 (some .level)

/-- LEVEL entries (R89, R61, R51). -/
def levelSpec : Nat → EntrySpec
  | 0 => numEntry 2 50 5 (some .level)
  | 1 => numEntry 100 1000 600 (some .level)
  | 2 => numEntry 20 300 200 (some .level)
  | 3 => numEntry 1 4 3 (some .level)
  | 4 => numEntry 5 60 15 (some .level)
  | _ => numEntry 80 220 180 none

/-- ROOMS entries (R101, R55, R8). -/
def roomsSpec (i : Nat) : EntrySpec :=
  if i = 0 then numEntry 1 4 2 none
  else
    let o := some (Ch.room (roomOfIdx ((i - 1) / 8)))
    match (i - 1) % 8 with
    | 0 => flagEntry 0 o
    | 1 => enumEntry [0, 1, 2] 2 1 o
    | 2 => flagEntry 1 o
    | 3 => flagEntry 0 o
    | 4 => numEntry 5 40 18 o
    | 5 => numEntry 10 100 30 o
    | 6 => numEntry 20 500 80 o
    | _ => numEntry 5 120 45 o

/-- AWNING entries (R125). -/
def awningSpec : Nat → EntrySpec
  | 0 => flagEntry 0 (some .awning)
  | 1 => numEntry 1 50 10 (some .awning)
  | 2 => numEntry 3 30 10 (some .awning)
  | _ => numEntry 20 500 80 (some .awning)

/-- WIND entries (R125). -/
def windSpec : Nat → EntrySpec
  | 0 => flagEntry 0 (some .awning)
  | 1 => numEntry 100 2000 700 none
  | 2 => numEntry 50 300 120 none
  | 3 => numEntry 30 250 80 none
  | _ => numEntry 1 60 15 none

/-- SUPPLY entries (R151, R154). -/
def supplySpec (i : Nat) : EntrySpec :=
  match i with
  | 0 => numEntry 40 400 150 none
  | 1 => numEntry 20 300 110 none
  | 2 => numEntry 0 50 0 none
  | 3 => numEntry 2 100 28 none
  | 4 => numEntry 2 100 16 none
  | 5 => numEntry 2 30 12 none
  | 6 => numEntry 50 400 220 none
  | 11 => numEntry 6 60 20 (some .awning)
  | 12 => numEntry 1 10 4 none
  | _ => numEntry 10 80 36 (some (.room (roomOfIdx (i - 7))))

/-- The fixed minimum of role cell `i` = 4k + q (R26): 0 ANY, 1 REQUIRED_ON, 2 REQUIRED_OFF. -/
def cellMinimum (i : Nat) : Int :=
  if i = 0 ∨ i = 1 ∨ i = 8 ∨ i = 9 then 1
  else if i % 4 = 3 ∧ i < 20 then 2
  else 0

/-- INTERLOCK entries (R26, R5, R12, R37, R38). [log 73, DESIGN CHOICE.] -/
def interlockSpec (i : Nat) : EntrySpec :=
  match i with
  | 24 => numEntry 100 1000 300 none
  | 25 => numEntry 5 120 30 none
  | 26 => flagEntry 1 none
  | 27 => flagEntry 0 none
  | 28 => flagEntry 1 none
  | _ => enumEntry [0, 1, 2] 2 (cellMinimum i) none

/-- The default role code of input terminal `t` (R160). -/
def defaultInputRole (t : Nat) : Int :=
  match t with
  | 0 => 1
  | 1 => 2
  | 2 => 3
  | 3 => 17
  | 4 => 5
  | 5 => 6
  | 6 => 7
  | 7 => 8
  | 8 => 13
  | 9 => 14
  | 10 => 15
  | 11 => 16
  | _ => 0

/-- Role codes that a general input may hold: none and every role but SPEED (R160). -/
def generalRoleCodes : List Int :=
  [0, 1, 2, 3, 5, 6, 7, 8, 9, 10, 11, 12, 13, 14, 15, 16, 17, 18, 19, 20, 21, 22, 23, 24, 25]

/-- TERMINALS entries (R160, 12.4). -/
def terminalsSpec (i : Nat) : EntrySpec :=
  if i < 64 then
    match i % 4 with
    | 0 => enumEntry generalRoleCodes 25 (defaultInputRole (i / 4)) none
    | 1 => enumEntry [0, 1] 1 1 none
    | 2 => enumEntry [0, 1, 2] 2 0 none
    | _ => numEntry 5 200 20 none
  else if i = 64 then enumEntry [0, 4] 4 4 none
  else if i = 65 then enumEntry [0, 1] 1 1 none
  else if i = 66 then enumEntry [0, 1, 2] 2 0 none
  else if (i - 67) % 2 = 0 then
    enumEntry [0, 1, 2, 3, 4, 5, 6, 7, 8] 8 (((i - 67) / 2 + 1 : Nat) : Int) none
  else enumEntry [0, 1] 1 0 none

/-- REPORTING entries (R177, R180, R181). -/
def reportingSpec : Nat → EntrySpec
  | 22 => enumEntry [0, 1, 2] 2 0 none
  | 23 => { lo := 100, hi := 10000, dflt := 1000, owner := none, step := 100 }
  | _ => flagEntry 1 none

/-- LEARNED entries (R87, R99, R101, R125). -/
def learnedSpec (i : Nat) : EntrySpec :=
  if i < 2 then numEntry (-1000) 1000 0 (some .level)
  else if i < 8 then numEntry 0 8 0 (some .level)
  else if i < 12 then absentEntry 200 4000 (some (.room (roomOfIdx (i - 8))))
  else if i < 20 then numEntry 0 20 0 (some (.room (roomOfIdx ((i - 12) / 2))))
  else if i = 20 then absentEntry 50 800 (some .awning)
  else numEntry 0 30 0 (some .awning)

/-- The properties of entry `i` of a group, none where the index does not exist. -/
def entrySpec (g : Group) (i : Nat) : Option EntrySpec :=
  if g.size ≤ i then none
  else some <| match g with
    | .geometry => geometrySpec i
    | .level => levelSpec i
    | .rooms => roomsSpec i
    | .awning => awningSpec i
    | .wind => windSpec i
    | .supply => supplySpec i
    | .interlock => interlockSpec i
    | .terminals => terminalsSpec i
    | .reporting => reportingSpec i
    | .learned => learnedSpec i

/-- The default values of a group's entries. -/
def groupDefaults (g : Group) : List Int :=
  (List.range g.size).map (fun i => match entrySpec g i with | some e => e.dflt | none => 0)

/-- The table in DEFAULT configuration and after LOAD_DEFAULTS (R188). -/
def Cfg.default : Cfg where
  geometry := groupDefaults .geometry
  level := groupDefaults .level
  rooms := groupDefaults .rooms
  awning := groupDefaults .awning
  wind := groupDefaults .wind
  supply := groupDefaults .supply
  interlock := groupDefaults .interlock
  terminals := groupDefaults .terminals
  reporting := groupDefaults .reporting
  learned := groupDefaults .learned

/-- The values of one group. -/
def Cfg.group (c : Cfg) : Group → List Int
  | .geometry => c.geometry
  | .level => c.level
  | .rooms => c.rooms
  | .awning => c.awning
  | .wind => c.wind
  | .supply => c.supply
  | .interlock => c.interlock
  | .terminals => c.terminals
  | .reporting => c.reporting
  | .learned => c.learned

/-- The table with one group's values replaced. -/
def Cfg.setGroup (c : Cfg) (g : Group) (l : List Int) : Cfg :=
  match g with
  | .geometry => { c with geometry := l }
  | .level => { c with level := l }
  | .rooms => { c with rooms := l }
  | .awning => { c with awning := l }
  | .wind => { c with wind := l }
  | .supply => { c with supply := l }
  | .interlock => { c with interlock := l }
  | .terminals => { c with terminals := l }
  | .reporting => { c with reporting := l }
  | .learned => { c with learned := l }

/-- The value of an entry. -/
def Cfg.entry (c : Cfg) (g : Group) (i : Nat) : Int := (c.group g).getD i 0

/-- The value of an entry that is never negative. -/
def Cfg.nat (c : Cfg) (g : Group) (i : Nat) : Nat := (c.entry g i).toNat

/-- The table with one entry's value replaced. -/
def Cfg.put (c : Cfg) (g : Group) (i : Nat) (v : Int) : Cfg := c.setGroup g ((c.group g).set i v)

/-- The value that a SET of `v` stores (R186 step 2, with the interlock minimums of R26, the values that become
absent at 0 of R101 and R125, and the interval's steps of R180). -/
def storedValue (g : Group) (i : Nat) (e : EntrySpec) (v : Int) : Int :=
  if g = .interlock ∧ i < 24 ∧ cellMinimum i ≠ 0 then cellMinimum i
  else if e.codes.isSome then v
  else if e.zeroAbsent ∧ v = 0 then 0
  else
    let c := clampInt e.lo e.hi v
    c - c % e.step

/-- The value has a meaning in the entry's list of codes, or the entry is numeric (R194). -/
def codeAllowed (e : EntrySpec) (v : Int) : Bool :=
  match e.codes with
  | some l => l.contains v
  | none => true

/-! ### The entries by their names -/

/-- Drive kinds of a room (R101). -/
inductive Kind where
  | twin | single | hydraulic
  deriving DecidableEq, Repr

def Cfg.jackCount (c : Cfg) : Nat := c.nat .geometry 0
def Cfg.jackX (c : Cfg) (j : Jack) : Int := c.entry .geometry (1 + 3 * j.idx)
def Cfg.jackY (c : Cfg) (j : Jack) : Int := c.entry .geometry (2 + 3 * j.idx)
def Cfg.maxStroke (c : Cfg) (j : Jack) : Nat := c.nat .geometry (3 + 3 * j.idx)
def Cfg.tolerance (c : Cfg) : Int := c.entry .level 0
def Cfg.excessLimit (c : Cfg) : Int := c.entry .level 1
def Cfg.liftCap (c : Cfg) : Nat := c.nat .level 2
def Cfg.passes (c : Cfg) : Nat := c.nat .level 3
def Cfg.groundContact (c : Cfg) : Nat := c.nat .level 4
def Cfg.relief (c : Cfg) : Nat := c.nat .level 5
def Cfg.roomLimit (c : Cfg) : Nat := c.nat .rooms 0
/-- Entry `e` of room `r` (12.4). -/
def Cfg.roomEntry (c : Cfg) (r : Room) (e : Nat) : Int := c.entry .rooms (1 + 8 * r.idx + e)
def Cfg.roomFitted (c : Cfg) (r : Room) : Bool := c.roomEntry r 0 == 1
def Cfg.roomKind (c : Cfg) (r : Room) : Kind :=
  if c.roomEntry r 1 = 0 then .twin else if c.roomEntry r 1 = 2 then .hydraulic else .single
def Cfg.needsJacks (c : Cfg) (r : Room) : Bool := c.roomEntry r 2 == 1
def Cfg.underAwning (c : Cfg) (r : Room) : Bool := c.roomEntry r 3 == 1
def Cfg.roomStall (c : Cfg) (r : Room) : Nat := (c.roomEntry r 4).toNat
def Cfg.rackLimit (c : Cfg) (r : Room) : Nat := (c.roomEntry r 5).toNat
def Cfg.roomLate (c : Cfg) (r : Room) : Nat := (c.roomEntry r 6).toNat
def Cfg.travelTime (c : Cfg) (r : Room) : Nat := (c.roomEntry r 7).toNat
def Cfg.awningFitted (c : Cfg) : Bool := c.entry .awning 0 == 1
def Cfg.pulsesPerCm (c : Cfg) : Nat := c.nat .awning 1
def Cfg.awningStall (c : Cfg) : Nat := c.nat .awning 2
def Cfg.awningLate (c : Cfg) : Nat := c.nat .awning 3
def Cfg.windFitted (c : Cfg) : Bool := c.entry .wind 0 == 1
def Cfg.windFactor (c : Cfg) : Nat := c.nat .wind 1
def Cfg.gustThreshold (c : Cfg) : Nat := c.nat .wind 2
def Cfg.avgThreshold (c : Cfg) : Nat := c.nat .wind 3
/-- Lockout length in minutes (R125). -/
def Cfg.lockoutLength (c : Cfg) : Nat := c.nat .wind 4
def Cfg.budget (c : Cfg) : Nat := c.nat .supply 0
def Cfg.pumpDemand (c : Cfg) : Nat := c.nat .supply 1
def Cfg.hydraulicExtra (c : Cfg) : Nat := c.nat .supply 2
def Cfg.twinDemand (c : Cfg) : Nat := c.nat .supply 3
def Cfg.singleDemand (c : Cfg) : Nat := c.nat .supply 4
def Cfg.awningDemand (c : Cfg) : Nat := c.nat .supply 5
/-- Trip current of a driver in amperes (R154). -/
def Cfg.tripCurrent (c : Cfg) : Driver → Nat
  | .pump => c.nat .supply 6
  | .roomEnd r _ => c.nat .supply (7 + r.idx)
  | .awning => c.nat .supply 11
  | .spare => c.nat .supply 12
def Cfg.holdWindow (c : Cfg) : Nat := c.nat .interlock 24
/-- Wait timeout in seconds (R12). -/
def Cfg.waitTimeout (c : Cfg) : Nat := c.nat .interlock 25
def Cfg.driveAwayRetract (c : Cfg) : Bool := c.entry .interlock 26 == 1
def Cfg.autoStow (c : Cfg) : Bool := c.entry .interlock 27 == 1
def Cfg.ignitionRetract (c : Cfg) : Bool := c.entry .interlock 28 == 1
def Cfg.sourceEnabled (c : Cfg) (x : Source) : Bool := x.code < 10 && c.entry .reporting x.code == 1
def Cfg.alertEnabled (c : Cfg) (a : Alert) : Bool := c.entry .reporting (10 + a.idx) == 1
def Cfg.telemetryMode (c : Cfg) : Nat := c.nat .reporting 22
def Cfg.telemetryInterval (c : Cfg) : Nat := c.nat .reporting 23
def Cfg.pitchZero (c : Cfg) : Int := c.entry .learned 0
def Cfg.rollZero (c : Cfg) : Int := c.entry .learned 1
def Cfg.jackCoast (c : Cfg) (j : Jack) : Nat := c.nat .learned (2 + j.idx)
/-- Learned stroke of a room, none until learned (R101). -/
def Cfg.learnedStroke (c : Cfg) (r : Room) : Option Int :=
  if c.entry .learned (8 + r.idx) = 0 then none else some (c.entry .learned (8 + r.idx))
/-- Index of the coast of a room end in the LEARNED group (12.4). -/
def endCoastIdx (r : Room) (e : Side) : Nat := 12 + 2 * r.idx + e.idx
def Cfg.endCoast (c : Cfg) (r : Room) (e : Side) : Nat := c.nat .learned (endCoastIdx r e)
/-- Full extension of the awning in cm, none until learned or set (R125). -/
def Cfg.fullExtension (c : Cfg) : Option Nat :=
  if c.entry .learned 20 = 0 then none else some (c.nat .learned 20)
def Cfg.awningCoast (c : Cfg) : Nat := c.nat .learned 21

/-! ### The terminal map (R160) -/

/-- The input roles (R160). -/
inductive InRole where
  | brake | parkGear | ignition | speed
  | roomOut (r : Room)
  | roomIn (r : Room)
  | awningOut | awningIn | levelAuto | stow | allStop
  | outLimit (r : Room)
  | inLimit (r : Room)
  deriving DecidableEq, Repr

/-- Role codes 1 to 25 (12.4). -/
def InRole.code : InRole → Nat
  | .brake => 1
  | .parkGear => 2
  | .ignition => 3
  | .speed => 4
  | .roomOut r => 5 + 2 * r.idx
  | .roomIn r => 6 + 2 * r.idx
  | .awningOut => 13
  | .awningIn => 14
  | .levelAuto => 15
  | .stow => 16
  | .allStop => 17
  | .outLimit r => 18 + 2 * r.idx
  | .inLimit r => 19 + 2 * r.idx

/-- Every input role in the order of the codes. -/
def allRoles : List InRole :=
  [.brake, .parkGear, .ignition, .speed, .roomOut .a, .roomIn .a, .roomOut .b, .roomIn .b, .roomOut .c, .roomIn .c,
   .roomOut .d, .roomIn .d, .awningOut, .awningIn, .levelAuto, .stow, .allStop, .outLimit .a, .inLimit .a,
   .outLimit .b, .inLimit .b, .outLimit .c, .inLimit .c, .outLimit .d, .inLimit .d]

def InRole.ofCode (n : Int) : Option InRole := allRoles.find? (fun x => (x.code : Int) == n)

/-- Held and momentary pendant roles (R160). -/
def pendantRoles : List InRole :=
  [.roomOut .a, .roomIn .a, .roomOut .b, .roomIn .b, .roomOut .c, .roomIn .c, .roomOut .d, .roomIn .d,
   .awningOut, .awningIn, .levelAuto, .stow]

/-- Role held by input terminal `t`. -/
def Cfg.inputRole (c : Cfg) (t : Fin 16) : Option InRole := InRole.ofCode (c.entry .terminals (4 * t.val))

/-- The terminal is ACTIVE_LOW. -/
def Cfg.inputLow (c : Cfg) (t : Fin 16) : Bool := c.entry .terminals (4 * t.val + 1) == 1

/-- Debounce time of a terminal in ms. -/
def Cfg.debounceMs (c : Cfg) (t : Fin 16) : Nat := c.nat .terminals (4 * t.val + 3)

/-- The speed pulse input holds SPEED. -/
def Cfg.speedAssigned (c : Cfg) : Bool := c.entry .terminals 64 == 4

/-- Output role code of output terminal `o`, 0 for none. -/
def Cfg.outputRole (c : Cfg) (o : Fin 8) : Int := c.entry .terminals (67 + 2 * o.val)

/-- The output terminal is ACTIVE_LOW. -/
def Cfg.outputLow (c : Cfg) (o : Fin 8) : Bool := c.entry .terminals (68 + 2 * o.val) == 1

/-- The general input terminal that holds a role, if one does. -/
def Cfg.terminalOf (c : Cfg) (r : InRole) : Option (Fin 16) :=
  (List.finRange 16).find? (fun t => c.inputRole t == some r)

/-- The role is held by a terminal. -/
def Cfg.roleAssigned (c : Cfg) (r : InRole) : Bool :=
  if r = .speed then c.speedAssigned else (c.terminalOf r).isSome

end Sys2Proof.Machine
end

