-- ==== Sys2Proof/Machine/State.lean ====
section
/-! DEFINITION. The state of the VK630 as plain data, one component for each block, and its value right after a reset. -/

namespace Sys2Proof.Machine

/-- No command stops the machine with a fault: every fault the spec describes is a termination, an alert, a flag or
a refusal in a reply. The type has no constructor, and nothing raises it (safe). [log 48, DEDUCED.] -/
inductive Fault
  deriving DecidableEq, Repr

/-- Why a command is not carried out at all. [log 48, DEDUCED.] -/
inductive Refusal where
  /-- Raised by an arm of `exec` whose command has no meaning yet; no arm raises it now (safe). -/
  | notModelled (mnemonic : String)
  deriving DecidableEq, Repr

/-! ### Codes -/

inductive ChState where
  | idle | pending | running | stopping | faulted
  deriving DecidableEq, Repr

inductive Owner where
  | link | pendant | automatic
  deriving DecidableEq, Repr

/-- Waiting-for values (R2). -/
inductive Waiting where
  | conflict | pump | current
  deriving DecidableEq, Repr

/-- Causes of an AUTOMATIC awning retract (R2). -/
inductive AutoCause where
  | wind | driveAway | ignition
  deriving DecidableEq, Repr

/-- Interlock items in the order of R27. -/
inductive Item where
  | brake | parkGear | ignition | speed | allRoomsIn | jackContact | awningClear | roomMoving | wind
  deriving DecidableEq, Repr

/-- Causes of ABORTED (12.4). -/
inductive AbortCause where
  | item (i : Item)
  | supply
  | awningConflict
  deriving DecidableEq, Repr

inductive CancelDetail where
  | waitExpired | released | interlock | stop
  deriving DecidableEq, Repr

inductive FaultKind where
  | noGround | stall | excessSlope | sensor | notStowed | pumpTime | rack | hall | noHome | obstruction
  | learnRange | travelTime | overcurrent
  deriving DecidableEq, Repr

/-- What a fault detail names: jacks, an end or a driver (R2). -/
inductive Subject where
  | none
  | jacks (l : List Jack)
  | side (e : Side)
  | driver (d : Driver)
  deriving DecidableEq, Repr

/-- A fault detail with what it names. -/
structure FaultDetail where
  kind : FaultKind
  subject : Subject
  deriving DecidableEq, Repr

/-- Termination codes with detail or cause. -/
inductive Term where
  | normal | limited | stopped | released
  | cancelled (d : CancelDetail)
  | aborted (c : AbortCause)
  | abnormal (f : FaultDetail)
  deriving DecidableEq, Repr

/-- Reply statuses (R175). -/
inductive Status where
  | ok | accepted | refused | busy | badRequest | already
  deriving DecidableEq, Repr

/-- Reasons of a refusal (12.4). -/
inductive Reason where
  | absent | interlock | holdRequired | faulted | notConfigured | uncertainPosition | windHold | awningNotIn
  | notRunning | notHeld | tooLate | autoSafety | stillActive | allStopHeld | noSensor
  deriving DecidableEq, Repr

/-- Causes carried by a POSTURE report (12.4). -/
inductive PostureCause where
  | powerOn | pin | request | link | ignition | pendant | wind
  deriving DecidableEq, Repr

/-! ### Channel supervisor -/

/-- Last termination with the owner it had (R2). -/
structure LastTerm where
  term : Term
  owner : Option Owner
  deriving DecidableEq, Repr

/-- A deferred start: an AUTOMATIC start's operation and cause (R6). -/
structure Deferred where
  op : Op
  cause : Option AutoCause
  deriving DecidableEq, Repr

/-- The channel record (R2). The present flag is `State.present`. -/
structure ChanRec where
  state : ChState := .idle
  op : Option Op := none
  operand : Nat := 0
  owner : Option Owner := none
  waiting : Option Waiting := none
  hold : Bool := false
  deadline : Nat := 0
  autoCause : Option AutoCause := none
  last : Option LastTerm := none
  completions : Nat := 0
  fault : Option FaultDetail := none
  deferred : Option Deferred := none
  admitted : Nat := 0
  stopEnds : Nat := 0
  deriving DecidableEq, Repr

/-- An entry of the start queue (R7). Its waiting-for value stands in the channel's record. -/
structure QEntry where
  ch : Ch
  since : Nat
  deriving DecidableEq, Repr

/-- The supervisor's own state beside the channel records. -/
structure Supervisor where
  queue : List QEntry := []
  driveAway : Bool := false
  driveAwayBy : Item := .brake
  owed : Option AutoCause := none
  scanDue : Bool := false
  owedDue : Bool := false
  deriving DecidableEq, Repr

/-! ### Levelling engine -/

inductive Contact where
  | stowed | air | ground
  deriving DecidableEq, Repr

inductive LevelStatus where
  | unlevelled | stabilised | levelled | limited | disturbed | manual
  deriving DecidableEq, Repr

inductive Phase where
  | none | ground | settle | plan | lift | measure | trim | stow | jog
  deriving DecidableEq, Repr

/-- Steps within MEASURE, SETTLE and TRIM (R70, R75, R76). -/
inductive SubStep where
  | none | reground | settling | stepping | waiting
  deriving DecidableEq, Repr

/-- Outcomes of a levelling run (R67). -/
inductive PlanOutcome where
  | levelled | limited | stabilised
  deriving DecidableEq, Repr

/-- A pair of gradients in 0.1 mm/m. -/
structure Grad where
  pitch : Int
  roll : Int
  deriving DecidableEq, Repr

/-- The jack record (R60) with the engine's marks on the jack; `threshold` is the ground contact threshold that the jack's
last pressure sample took (R61). -/
structure JackRec where
  stroke : Nat := 0
  pressure : Nat := 0
  threshold : Nat := 15
  stowed : Bool := false
  contact : Contact := .stowed
  held : Contact := .stowed
  ground : Option Nat := none
  lift : Option Nat := none
  target : Option Nat := none
  fault : Bool := false
  bandSince : Option Nat := none
  close : Option Nat := none
  closedHere : Bool := false
  jogged : Bool := false
  stepTarget : Option Nat := none
  deriving DecidableEq, Repr

/-- The plan record (R67). -/
structure PlanRec where
  op : Op
  first : Option Grad := none
  passes : Nat := 0
  scale : Option Nat := none
  limited : Bool := false
  unsettled : Bool := false
  trim : Option (PerJack Nat) := none
  final : Option Grad := none
  outcome : Option PlanOutcome := none
  deriving DecidableEq, Repr

/-- An entry of the settle window: the corrected pair, the uncorrected pair of the same read and its saturation mark
(R70, R87). -/
structure RingEntry where
  cor : Grad
  raw : Grad
  sat : Bool
  deriving DecidableEq, Repr

/-- The stall judgement: the time from which the 2 s count and the reference strokes of the open jacks (R73). -/
structure StallRec where
  since : Nat
  refs : PerJack (Option Nat)
  deriving DecidableEq, Repr

structure Levelling where
  jacks : PerJack JackRec := PerJack.all {}
  status : LevelStatus := .unlevelled
  phase : Phase := .none
  sub : SubStep := .none
  phaseSince : Nat := 0
  stepSince : Nat := 0
  settleSince : Nat := 0
  trimUntil : Nat := 0
  passes : Nat := 0
  plan : Option PlanRec := none
  ring : List RingEntry := []
  measured : Grad := ⟨0, 0⟩
  outcome : Option PlanOutcome := none
  cornerDone : Bool := false
  stall : Option StallRec := none
  drift : Option Nat := none
  deriving DecidableEq, Repr

/-! ### Manifold controller -/

inductive Dir where
  | extend | retract
  deriving DecidableEq, Repr

inductive DirValve where
  | rest | extend | retract
  deriving DecidableEq, Repr

inductive RunState where
  | none | on | resting
  deriving DecidableEq, Repr

/-- The pump record (R41); `tripped` marks a stop caused by an overcurrent trip (R48). -/
structure Pump where
  holder : Option Ch := none
  dir : Option Dir := none
  on : Bool := false
  runTime : Nat := 0
  runState : RunState := .none
  lastRun : Nat := 0
  cooldown : Nat := 0
  hot : Bool := false
  tripped : Bool := false
  deriving DecidableEq, Repr

structure Manifold where
  pump : Pump := {}
  jackValves : PerJack Bool := PerJack.all false
  roomValves : PerRoom Bool := PerRoom.all false
  dirValve : DirValve := .rest
  line : Nat := 0
  deadhead : Option Nat := none
  lineFault : Bool := false
  lineBandSince : Option Nat := none
  deriving DecidableEq, Repr

/-! ### Room drive and awning unit -/

/-- Status of a room or of the awning. -/
inductive Pos where
  | pin | pout | part | unknown
  deriving DecidableEq, Repr

inductive Conf where
  | known | restored | uncertain
  deriving DecidableEq, Repr

inductive Drive where
  | dout | din | brake
  deriving DecidableEq, Repr

/-- The leg of a LEARN (R118, R119). -/
inductive Leg where
  | none | out | reversal | inward
  deriving DecidableEq, Repr

/-- The end record (R102) with the end's timers (R112, R114); `drove` marks an end that the motion drove (R120). -/
structure EndRec where
  count : Int := 0
  drive : Drive := .brake
  paused : Bool := false
  consec : Nat := 0
  assumed : Nat := 0
  driveOff : Option Int := none
  target : Option Int := none
  lateAt : Option Nat := none
  stallSince : Option Nat := none
  drove : Bool := false
  deriving DecidableEq, Repr

/-- The room record (R102). Kind, flags, learned stroke and coasts are entries of the configuration. -/
structure RoomRec where
  status : Pos := .unknown
  conf : Conf := .uncertain
  inSwitch : Bool := false
  homeSearch : Bool := false
  candidate : Option Int := none
  leg : Leg := .none
  reversalUntil : Nat := 0
  onTarget : Bool := false
  ends : PerSide EndRec := ⟨{}, {}⟩
  deriving DecidableEq, Repr

/-- The awning record (R126). Full extension and coast are entries of the configuration; extension is derived. -/
structure AwnRec where
  count : Int := 0
  status : Pos := .unknown
  conf : Conf := .uncertain
  inSwitch : Bool := false
  drive : Drive := .brake
  consec : Nat := 0
  assumed : Nat := 0
  target : Option Nat := none
  stopPoint : Option Int := none
  driveOff : Option Int := none
  homeSearch : Bool := false
  lateAt : Option Nat := none
  stallSince : Option Nat := none
  onTarget : Bool := false
  drove : Bool := false
  switchLate : Bool := false
  lastAuto : Option AutoCause := none
  deriving DecidableEq, Repr

/-- The wind watch (R135 to R137); `avgLimit` is the average threshold that the latest bin end took (R125, R138). -/
structure WindRec where
  lockout : Option Nat := none
  ring : List Nat := []
  bin : Nat := 0
  binEnd : Option Nat := none
  gust : Nat := 0
  avg : Nat := 0
  avgLimit : Nat := 80
  retract : Bool := false
  deriving DecidableEq, Repr

/-! ### Supply monitor -/

inductive Supply where
  | normal | sag | brown
  deriving DecidableEq, Repr

/-- An entry of the reservation table (R152). -/
structure Resv where
  amps : Nat
  fromReserve : Bool
  deriving DecidableEq, Repr

/-- An overcurrent latch (R154). -/
structure Latch where
  isSet : Bool := false
  ch : Option Ch := none
  deriving DecidableEq, Repr

/-- The supply monitor; `faultSense` holds the fault-sense lines as the latest current sample read them, and `senseLines` their
levels (R156). [log 44, DEDUCED.] -/
structure Monitor where
  samples : List Nat := []
  sample : Nat := 0
  avg : Option Nat := none
  supply : Supply := .normal
  resv : PerCh (Option Resv) := PerCh.all none
  latches : PerDriver Latch := PerDriver.all {}
  tripSince : PerDriver (Option Nat) := PerDriver.all none
  currents : PerDriver Nat := PerDriver.all 0
  faultSense : PerDriver Bool := PerDriver.all false
  senseLines : PerDriver Bool := PerDriver.all false
  deriving DecidableEq, Repr

/-! ### Terminal unit and sensor scanner -/

structure Terminals where
  raw : Vector Bool 16 := Vector.replicate 16 true
  deb : Vector Bool 16 := Vector.replicate 16 true
  timers : Vector (Option Nat) 16 := Vector.replicate 16 none
  flags : Vector Bool 16 := Vector.replicate 16 false
  speedFlag : Bool := false
  pulses : List Nat := []
  moving : Bool := false
  mask : List InRole := []
  linkSet : Bool × Bool × Bool := (false, false, false)
  outputs : Vector Bool 8 := Vector.replicate 8 false
  deriving DecidableEq, Repr

/-- The pair of the latest good read, uncorrected and corrected, with its saturation mark (R171). -/
structure Reading where
  raw : Grad
  cor : Grad
  sat : Bool
  deriving DecidableEq, Repr

/-- The gradient record (R171). [log 2, DESIGN CHOICE.] -/
structure GradRec where
  reading : Option Reading := none
  stale : Bool := false
  valid : Bool := false
  failures : Nat := 0
  deriving DecidableEq, Repr

/-- The latest converter readings of the jack transducers (R169), kept so that live values can be handed on (R170). [log 22, DEDUCED.] -/
structure Scanner where
  strokes : PerJack Nat := PerJack.all 1000
  pressures : PerJack Nat := PerJack.all 1000
  grad : GradRec := {}
  deriving DecidableEq, Repr

/-! ### Settings store and power control -/

inductive Marking where
  | stored | default
  deriving DecidableEq, Repr

/-- The posture snapshot (R189). [log 3, DESIGN CHOICE.] -/
structure Snapshot where
  rooms : PerRoom Pos := PerRoom.all .unknown
  counts : PerRoom (PerSide Int) := PerRoom.all ⟨0, 0⟩
  assumed : PerRoom (PerSide Nat) := PerRoom.all ⟨0, 0⟩
  awning : Pos := .unknown
  awnCount : Int := 0
  awnAssumed : Nat := 0
  level : LevelStatus := .unlevelled
  deriving DecidableEq, Repr

/-- The jobs on the memory (R187). A snapshot write carries its contents from the moment it begins (R189). [log 3, DESIGN CHOICE.] -/
inductive Job where
  | image (c : Cfg)
  | markerClear
  | snapshot (content : Option Snapshot)
  deriving DecidableEq, Repr

inductive SaveOutcome where
  | ok | fault
  deriving DecidableEq, Repr

/-- The working configuration, the external memory's contents and the jobs on it. `image` is none where the stored
image fails its CRC. [log 3, DESIGN CHOICE.] -/
structure Store where
  cfg : Cfg := Cfg.default
  marking : Marking := .default
  image : Option Cfg := none
  snap : Snapshot := {}
  snapMark : Bool := false
  markerClean : Bool := false
  job : Option Job := none
  waiting : List Job := []
  saving : Bool := false
  lastSave : Option SaveOutcome := none
  snapFailed : Bool := false
  storeFault : Bool := false
  deriving DecidableEq, Repr

inductive PowerState where
  | run | watch | sleep
  deriving DecidableEq, Repr

inductive ResetCause where
  | powerOn | pin | request
  deriving DecidableEq, Repr

structure Power where
  state : PowerState := .run
  resetCause : ResetCause := .powerOn
  startingUp : Bool := true
  deriving DecidableEq, Repr

/-! ### Link port -/

inductive RxState where
  | ignore | hunt | assembling | held | drain
  deriving DecidableEq, Repr

/-- A request as its frame carries it, decoded (12.2). `bad` is a well-formed frame that cannot be decoded. -/
inductive Req where
  | start (ch : Ch) (op : Op) (hold : Bool) (operand : Half)
  | hold (ch : Ch)
  | stop (ch : Ch)
  | clear (ch : Ch)
  | readInputs
  | setLinkOutputs (mask : Byte)
  | readSupply
  | get (group index : Byte)
  | set (group index : Byte) (value : BitVec 32)
  | save
  | loadDefaults
  | enterWatch
  | enterSleep
  | resetPart
  | pauseReports
  | resumeReports
  | requestReport (source : Source)
  | ackAlert (mask : Half)
  | getIdentity
  | bad (kind : Byte)
  deriving DecidableEq, Repr

/-- A request held in the assembly buffer with its tag (R174). -/
structure HeldReq where
  tag : Byte
  req : Req
  deriving DecidableEq, Repr

/-- A reply in the reply buffer; `resets` marks the OK reply of a RESET_PART (R192). -/
structure Reply where
  kind : Byte
  tag : Byte
  payload : List Byte
  resets : Bool := false
  deriving DecidableEq, Repr

/-- The frame on the line (R176). -/
inductive TxFrame where
  | reply (bytes : List Byte)
  | report (x : Source) (bytes : List Byte)
  deriving DecidableEq, Repr

/-- Second part of a two-frame report, taken when part 1 began (R193). -/
structure Part2 where
  source : Source
  bytes : List Byte
  deriving DecidableEq, Repr

/-- Condition and latch of an alert (R181). -/
structure AlertRec where
  cond : Bool := false
  latch : Bool := false
  deriving DecidableEq, Repr

/-- One value for each alert. -/
structure PerAlert (α : Type) where
  driveAway : α
  windRetract : α
  supplySag : α
  supplyBrown : α
  levelDisturbed : α
  jackSensor : α
  hallFault : α
  overcurrent : α
  pumpHot : α
  storeFault : α
  positionUncertain : α
  inclinometerLost : α
  deriving DecidableEq, Repr

structure Link where
  rx : RxState := .ignore
  rxBuf : List Byte := []
  held : Option HeldReq := none
  bytesLost : Bool := false
  replies : List Reply := []
  tx : Option TxFrame := none
  part2 : Option Part2 := none
  reports : List Source := []
  postureCause : Option PostureCause := none
  paused : Bool := false
  lastTelemetry : Option Nat := none
  telemetryAt : Option Nat := none
  resetDue : Bool := false
  alerts : PerAlert AlertRec := ⟨{}, {}, {}, {}, {}, {}, {}, {}, {}, {}, {}, {}⟩
  attention : Bool := false
  deriving DecidableEq, Repr

/-- The whole part, with the queue of waiting commands and the model's ms clock. -/
structure State where
  now : Nat
  pending : List Instr
  link : Link
  chans : PerCh ChanRec
  sup : Supervisor
  lev : Levelling
  man : Manifold
  rooms : PerRoom RoomRec
  awn : AwnRec
  wind : WindRec
  mon : Monitor
  term : Terminals
  scan : Scanner
  store : Store
  power : Power
  deriving DecidableEq, Repr

/-- The part right after a reset: every block at the reset values of its chapter (R2, R7, R41, R42, R64, R67, R81,
R106, R127, R135, R146, R147, R152, R154, R163, R164, R168, R171, R173, R175, R176, R178, R181, R187, R190, R192).
The values that the spec leaves open are those of logs 2 and 3. [log 2, DESIGN CHOICE.] -/
def State.reset : State where
  now := 0
  pending := []
  link := {}
  chans := PerCh.all {}
  sup := {}
  lev := {}
  man := {}
  rooms := PerRoom.all {}
  awn := {}
  wind := {}
  mon := {}
  term := {}
  scan := {}
  store := {}
  power := {}

end Sys2Proof.Machine
end

