-- ==== Sys2Proof/Machine/Operands.lean ====
section
/-! DEFINITION. Operand forms: jog sets and directions, motion kinds of operations, and the scaling of transducer readings. -/

namespace Sys2Proof.Machine

/-- The six motion kinds in the order of the interlock table (R23). -/
inductive Motion where
  | jackExtend | jackRetract | roomOut | roomIn | awningOut | awningIn
  deriving DecidableEq, Repr

def Motion.idx : Motion → Nat
  | .jackExtend => 0
  | .jackRetract => 1
  | .roomOut => 2
  | .roomIn => 3
  | .awningOut => 4
  | .awningIn => 5

/-- Direction of a JOG operand: high byte 0 extend, 1 retract (12.2). -/
def jogDir (operand : Nat) : Dir := if operand / 256 = 0 then .extend else .retract

/-- Jacks of a JOG jack set: low byte of the operand (R65, 12.4). -/
def jogJacks (operand : Nat) : List Jack :=
  match operand % 256 with
  | 0 => [.lf]
  | 1 => [.rf]
  | 2 => [.lr]
  | 3 => [.rr]
  | 4 => [.lm]
  | 5 => [.rm]
  | 6 => [.lf, .rf]
  | 7 => [.lr, .rr]
  | 8 => [.lf, .lr, .lm]
  | 9 => [.rf, .rr, .rm]
  | 10 => allJacks
  | _ => []

/-- The jack set is one position (R65). -/
def jogSingle (operand : Nat) : Bool := operand % 256 < 6

/-- The operation belongs to the channel (00_scope.md, R194). -/
def opOfChannel (c : Ch) (o : Op) : Bool :=
  match c, o with
  | .level, .autoLevel => true
  | .level, .stabilise => true
  | .level, .stow => true
  | .level, .jog => true
  | .level, .captureZero => true
  | .room _, .extend => true
  | .room _, .retract => true
  | .room _, .learn => true
  | .awning, .extend => true
  | .awning, .retract => true
  | .awning, .autoRetract => true
  | _, _ => false

/-- Direction in which the pump serves an operation (R43). -/
def opDir (o : Op) (operand : Nat) : Dir :=
  match o with
  | .stow => .retract
  | .retract => .retract
  | .jog => jogDir operand
  | _ => .extend

/-- Motion kind of an operation while it waits or runs (R23); `leg` is the leg of a LEARN. -/
def motionOf (c : Ch) (o : Op) (operand : Nat) (leg : Leg) : Option Motion :=
  match c, o with
  | .level, .autoLevel => some .jackExtend
  | .level, .stabilise => some .jackExtend
  | .level, .stow => some .jackRetract
  | .level, .jog => some (match jogDir operand with | .extend => .jackExtend | .retract => .jackRetract)
  | .room _, .extend => some .roomOut
  | .room _, .retract => some .roomIn
  | .room _, .learn => some (if leg = .reversal ∨ leg = .inward then .roomIn else .roomOut)
  | .awning, .extend => some .awningOut
  | .awning, .retract => some .awningIn
  | .awning, .autoRetract => some .awningIn
  | _, _ => none

/-- Full scale of a converter in the unit of `Analog`: 100 %. [log 6, DESIGN CHOICE.] -/
def fullScale : Nat := 10000

/-- The reading lies within 2–98 % of the converter span (R169, R170). [log 6, DESIGN CHOICE.] -/
def inBand (reading : Nat) : Bool := 200 ≤ reading && reading ≤ 9800

/-- A reading within the band in engineering units: 10–90 % is scaled linearly and rounded down, 2–10 % gives the lower
end and 90–98 % the upper end (R169). [log 6, DESIGN CHOICE.] -/
def scaleReading (span reading : Nat) : Nat :=
  if reading ≤ 1000 then 0 else if 9000 ≤ reading then span else (reading - 1000) * span / 8000

/-- Span of a stroke transducer in mm (R60). -/
def strokeSpan : Nat := 400

/-- Span of a pressure transducer in bar (R60, R50). -/
def pressureSpan : Nat := 250

end Sys2Proof.Machine
end

