-- ==== Sys2Proof/Machine/Ops.lean ====
section
/-! DEFINITION. Named operations over the state: presence, report signals, memory job requests, the manifold's valves and pump, and the writers of posture values. -/

namespace Sys2Proof.Machine

/-! ### Reading and writing one component -/

/-- The record of a channel. -/
def chanOf (s : State) (c : Ch) : ChanRec := s.chans.get c

/-- The state with a channel's record changed. -/
def modChan (c : Ch) (f : ChanRec → ChanRec) (s : State) : State :=
  { s with chans := s.chans.set c (f (s.chans.get c)) }

def modSup (f : Supervisor → Supervisor) (s : State) : State := { s with sup := f s.sup }
def modLev (f : Levelling → Levelling) (s : State) : State := { s with lev := f s.lev }
def modMan (f : Manifold → Manifold) (s : State) : State := { s with man := f s.man }
def modPump (f : Pump → Pump) (s : State) : State := { s with man := { s.man with pump := f s.man.pump } }
def modAwn (f : AwnRec → AwnRec) (s : State) : State := { s with awn := f s.awn }
def modWind (f : WindRec → WindRec) (s : State) : State := { s with wind := f s.wind }
def modMon (f : Monitor → Monitor) (s : State) : State := { s with mon := f s.mon }
def modTerm (f : Terminals → Terminals) (s : State) : State := { s with term := f s.term }
def modScan (f : Scanner → Scanner) (s : State) : State := { s with scan := f s.scan }
def modStore (f : Store → Store) (s : State) : State := { s with store := f s.store }
def modLink (f : Link → Link) (s : State) : State := { s with link := f s.link }
def modPower (f : Power → Power) (s : State) : State := { s with power := f s.power }

/-- The state with an entry of the working configuration replaced. -/
def putCfg (g : Group) (i : Nat) (v : Int) (s : State) : State :=
  modStore (fun t => { t with cfg := t.cfg.put g i v }) s

/-- The working configuration. -/
def cfgOf (s : State) : Cfg := s.store.cfg

def jackOf (s : State) (j : Jack) : JackRec := s.lev.jacks.get j

def modJack (j : Jack) (f : JackRec → JackRec) (s : State) : State :=
  modLev (fun l => { l with jacks := l.jacks.set j (f (l.jacks.get j)) }) s

def roomOf (s : State) (r : Room) : RoomRec := s.rooms.get r

def modRoom (r : Room) (f : RoomRec → RoomRec) (s : State) : State :=
  { s with rooms := s.rooms.set r (f (s.rooms.get r)) }

def endOf (s : State) (r : Room) (e : Side) : EndRec := (s.rooms.get r).ends.get e

def modEnd (r : Room) (e : Side) (f : EndRec → EndRec) (s : State) : State :=
  modRoom r (fun q => { q with ends := q.ends.set e (f (q.ends.get e)) }) s

/-! ### Presence (R1, R89) -/

/-- The channel is present: LEVEL in STORED configuration with four or six jacks, a room or the awning when fitted. -/
def State.present (s : State) : Ch → Bool
  | .level => s.store.marking == .stored && (s.store.cfg.jackCount == 4 || s.store.cfg.jackCount == 6)
  | .room r => s.store.cfg.roomFitted r
  | .awning => s.store.cfg.awningFitted

/-- A jack position is present while LEVEL is present and the jack count declares it (R89). -/
def State.jackPresent (s : State) (j : Jack) : Bool :=
  s.present .level && (j.idx < 4 || s.store.cfg.jackCount == 6)

/-- The present jacks in jack order. -/
def presentJacks (s : State) : List Jack := allJacks.filter (fun j => s.jackPresent j)

/-- The present rooms in order. -/
def presentRooms (s : State) : List Room := allRooms.filter (fun r => s.present (.room r))

def kindOf (s : State) (r : Room) : Kind := s.store.cfg.roomKind r

/-- The room is a present TWIN or SINGLE room. -/
def electric (s : State) (r : Room) : Bool := s.present (.room r) && kindOf s r != .hydraulic

/-- The room is a present HYDRAULIC room. -/
def hydraulic (s : State) (r : Room) : Bool := s.present (.room r) && kindOf s r == .hydraulic

/-- The ends of an electric room: A, and B for a TWIN room (R107). -/
def roomEnds (s : State) (r : Room) : List Side :=
  if kindOf s r = .twin then [.endA, .endB] else [.endA]

/-- The room is present and carries the under-awning flag. -/
def underAwning (s : State) (r : Room) : Bool := s.present (.room r) && s.store.cfg.underAwning r

/-! ### Channel states -/

def isRunning (s : State) (c : Ch) : Bool := (chanOf s c).state == .running

def runningOrStopping (s : State) (c : Ch) : Bool :=
  (chanOf s c).state == .running || (chanOf s c).state == .stopping

/-- The channel is RUNNING the operation. -/
def runs (s : State) (c : Ch) (o : Op) : Bool := (chanOf s c).state == .running && (chanOf s c).op == some o

/-- Every present channel is IDLE or FAULTED. -/
def allAtRest (s : State) : Bool :=
  allChs.all (fun c => !s.present c || (chanOf s c).state == .idle || (chanOf s c).state == .faulted)

/-! ### The report queue (R177) -/

/-- The source joins the tail of the report queue unless it is already queued. -/
def queueSource (x : Source) (s : State) : State :=
  modLink (fun l => { l with reports := if x ∈ l.reports then l.reports else l.reports ++ [x] }) s

/-- An owner signals a change of a source's content: the source joins when it is enabled (R177). -/
def signal (x : Source) (s : State) : State :=
  if s.store.cfg.sourceEnabled x then queueSource x s else s

/-- The source's entry, if any, leaves the queue. -/
def dropSource (x : Source) (s : State) : State :=
  modLink (fun l => { l with reports := l.reports.filter (fun y => y != x) }) s

/-! ### Requests to the settings store for memory jobs (R189) -/

def Job.isSnapshot : Job → Bool
  | .snapshot _ => true
  | _ => false

/-- A snapshot write is requested and the marker state becomes CLEAN; a waiting snapshot write is replaced. [log 61, DESIGN CHOICE.] -/
def requestSnapshot (s : State) : State :=
  modStore (fun t => { t with
    markerClean := true,
    waiting := if t.waiting.any Job.isSnapshot then t.waiting else t.waiting ++ [.snapshot none] }) s

/-- At an admission with the marker state CLEAN: a snapshot write not yet begun is discarded, a marker clear is queued
and the state becomes CLEARED. -/
def requestMarkerClear (s : State) : State :=
  if s.store.markerClean then
    modStore (fun t => { t with
      markerClean := false,
      waiting := t.waiting.filter (fun j => !j.isSnapshot) ++ [.markerClear] }) s
  else s

/-- The second case of R189's Rest: a change of level status, or of a room's or the awning's status or confidence,
while every present channel is IDLE or FAULTED and the start queue is empty. -/
def snapshotOnRest (s : State) : State :=
  if allAtRest s && s.sup.queue.isEmpty then requestSnapshot s else s

/-! ### Manifold controller -/

/-- A stop of the pump (R47, R48): the run is suspended and a cooldown begins; `trip` marks an overcurrent trip. -/
def pumpStop (trip : Bool) (s : State) : State :=
  if s.man.pump.on then
    modMan (fun m => { m with
      deadhead := none,
      pump := { m.pump with
        on := false, runState := .resting, lastRun := m.pump.runTime,
        cooldown := max (m.pump.runTime / 2) Config.minCooldownMs, tripped := trip } }) s
  else s

/-- The channel holds the pump and is RUNNING, so that its job block's commands are carried out (R44). -/
def commands (s : State) (c : Ch) : Bool := s.man.pump.holder == some c && isRunning s c

/-- Pump-on command of the holder's job block (R44, R47). -/
def pumpOnCmd (c : Ch) (s : State) : State :=
  if commands s c && !s.mon.latches.pump.isSet && !s.man.pump.on then
    modPump (fun p => { p with
      on := true, runState := .on, tripped := false, cooldown := 0,
      runTime := if p.runState = .none then 0 else p.runTime }) s
  else s

/-- Pump-off command of the holder's job block (R44, R47). -/
def pumpOffCmd (c : Ch) (s : State) : State := if commands s c then pumpStop false s else s

/-- Some present room's status is other than IN. -/
def someRoomOut (s : State) : Bool := (presentRooms s).any (fun r => (roomOf s r).status != .pin)

def setJackValve (j : Jack) (v : Bool) (s : State) : State :=
  modMan (fun m => { m with jackValves := m.jackValves.set j v }) s

def setRoomValve (r : Room) (v : Bool) (s : State) : State :=
  modMan (fun m => { m with roomValves := m.roomValves.set r v }) s

/-- Every jack valve closes. -/
def closeJackValves (s : State) : State := modMan (fun m => { m with jackValves := PerJack.all false }) s

def valveOpen (s : State) (j : Jack) : Bool := s.man.jackValves.get j

/-- The jacks whose valves are open, in jack order. -/
def openJacks (s : State) : List Jack := allJacks.filter (fun j => valveOpen s j)

/-- Command to open a jack valve: carried out for a present jack while LEVEL holds the pump and runs (R42, R44), and
not while the direction valve is at RETRACT and some present room is not IN (R46). -/
def openJack (j : Jack) (s : State) : State :=
  if commands s .level && s.jackPresent j && !(s.man.dirValve == .retract && someRoomOut s) then setJackValve j true s
  else s

/-- Command to close a jack valve (R44). -/
def closeJack (j : Jack) (s : State) : State := if commands s .level then setJackValve j false s else s

/-- The second way of R46: a room is seen other than IN while the direction valve is at RETRACT. -/
def closeOnRetract (s : State) : State := if s.man.dirValve = .retract then closeJackValves s else s

/-! ### Writers of posture values -/

/-- The rest status: UNLEVELLED when every present jack is STOWED, MANUAL otherwise (R63). -/
def restStatus (s : State) : LevelStatus :=
  if (presentJacks s).all (fun j => (jackOf s j).contact == .stowed) then .unlevelled else .manual

/-- The level status is written (R63): a change queues POSTURE, asks for the snapshot at rest, and clears the drift
timer when the status is no longer LEVELLED or LIMITED (R83). -/
def setLevelStatus (v : LevelStatus) (s : State) : State :=
  if s.lev.status = v then s
  else
    modLev (fun l => { l with
      status := v, drift := if v = .levelled ∨ v = .limited then l.drift else none }) s
    |> signal .posture |> snapshotOnRest

/-- The direction of the pump's holder is EXTEND and LEVEL runs, so that a passage from AIR to GROUND writes the ground
stroke of a jack whose valve is open (R62). -/
def groundWrites (s : State) (j : Jack) : Bool :=
  isRunning s .level && s.man.pump.holder == some .level && s.man.pump.dir == some .extend && valveOpen s j

/-- A jack's contact state is written (R61): a change queues POSTURE; STOWED removes the ground stroke and a first
passage from AIR to GROUND writes it (R62); leaving GROUND with LEVEL IDLE makes a standing result DISTURBED (R84). -/
def setContact (j : Jack) (v : Contact) (s : State) : State :=
  let q := jackOf s j
  if q.contact = v then s
  else
    let g := if v = .stowed then none
      else if q.contact = .air ∧ v = .ground ∧ q.ground = none ∧ groundWrites s j then some q.stroke
      else q.ground
    let s1 := modJack j (fun q => { q with contact := v, ground := g }) s |> signal .posture
    if q.contact = .ground ∧ (chanOf s1 .level).state = .idle ∧
        (s1.lev.status = .levelled ∨ s1.lev.status = .limited ∨ s1.lev.status = .stabilised) then
      setLevelStatus .disturbed s1
    else s1

/-- The contact state that a jack's switch, pressure and fault flag give, by the threshold of its last pressure sample
(R61). -/
def derivedContact (q : JackRec) : Contact :=
  if q.stowed then .stowed
  else if q.fault then (if q.held = .stowed then .air else q.held)
  else if q.threshold ≤ q.pressure then .ground else .air

/-- The contact state of a present jack is derived afresh (R61). -/
def deriveContact (j : Jack) (s : State) : State :=
  if s.jackPresent j then setContact j (derivedContact (jackOf s j)) s else s

/-- A room's status and confidence are written (R104, R56): a change queues POSTURE and asks for the snapshot at rest,
and a present room leaving IN closes the jack valves of a retract (R46). -/
def setRoomStat (r : Room) (v : Pos) (c : Conf) (s : State) : State :=
  let q := roomOf s r
  if q.status = v ∧ q.conf = c then s
  else
    let s1 := modRoom r (fun q => { q with status := v, conf := c }) s |> signal .posture |> snapshotOnRest
    if s.present (.room r) ∧ q.status = .pin ∧ v ≠ .pin then closeOnRetract s1 else s1

/-- The awning's status and confidence are written (R128): a change queues POSTURE and asks for the snapshot at rest;
IN clears an owed retract (R36). -/
def setAwnStat (v : Pos) (c : Conf) (s : State) : State :=
  let s0 := if v = .pin then modSup (fun u => { u with owed := none }) s else s
  if s.awn.status = v ∧ s.awn.conf = c then s0
  else modAwn (fun a => { a with status := v, conf := c }) s0 |> signal .posture |> snapshotOnRest

/-- The room's counts are at home: counts, assumed totals and consecutive counters become 0, status IN, confidence
KNOWN (R104). -/
def roomHome (r : Room) (s : State) : State :=
  let z := fun (e : EndRec) => { e with count := 0, assumed := 0, consec := 0 }
  modEnd r .endA z s |> modEnd r .endB z |> setRoomStat r .pin .known

/-- The awning is at home: count, assumed total and consecutive counter become 0, status IN, confidence KNOWN (R128). -/
def awnHome (s : State) : State :=
  modAwn (fun a => { a with count := 0, assumed := 0, consec := 0 }) s |> setAwnStat .pin .known

/-! ### The terminal map's readings (R161) -/

/-- Reading of a general input: the debounced level after polarity. -/
def termActive (s : State) (t : Fin 16) : Bool := s.term.deb.get t != s.store.cfg.inputLow t

/-- Reading of a role; an unassigned role reads inactive, SPEED reads the moving indication (R161). -/
def roleActive (s : State) (r : InRole) : Bool :=
  if r = .speed then s.store.cfg.speedAssigned && s.term.moving
  else match s.store.cfg.terminalOf r with
    | some t => termActive s t
    | none => false

/-- The role is held by a terminal. -/
def roleAssigned (s : State) (r : InRole) : Bool := s.store.cfg.roleAssigned r

/-- The other role of a held pair (R165). -/
def partnerRole : InRole → Option InRole
  | .roomOut r => some (.roomIn r)
  | .roomIn r => some (.roomOut r)
  | .awningOut => some .awningIn
  | .awningIn => some .awningOut
  | _ => none

/-- Effective state of a role (R165): a held role is effective while its own reading is active and its partner's is not. -/
def effective (s : State) (r : InRole) : Bool :=
  roleActive s r && match partnerRole r with
    | some p => !roleActive s p
    | none => true

/-- The held roles of a channel (R165). -/
def heldRoles : Ch → List InRole
  | .level => []
  | .room r => [.roomOut r, .roomIn r]
  | .awning => [.awningOut, .awningIn]

/-- The pendant renews the channel's hold: a held role of it is effective and it waits or runs with a hold-to-run motion
of owner PENDANT (R166). -/
def pendantRenews (s : State) (c : Ch) : Bool :=
  ((chanOf s c).state == .pending || (chanOf s c).state == .running) && (chanOf s c).hold &&
    (chanOf s c).owner == some .pendant && (heldRoles c).any (fun r => effective s r)

/-- ALL_STOP is active (R39, R40). -/
def allStopActive (s : State) : Bool := roleActive s .allStop

/-- The extension in cm: count div pulses per cm when the count is above 0, within the field's 0–800 (R126). [log 16, DEDUCED.] -/
def extensionOf (s : State) : Nat := min 800 (s.awn.count.toNat / s.store.cfg.pulsesPerCm)

/-- Lockout remaining in seconds: it falls by one at each full second since its start (R126, R137). [log 17, DEDUCED.] -/
def lockoutRemaining (s : State) : Nat :=
  match s.wind.lockout with
  | some t => (t - s.now + 999) / 1000
  | none => 0

/-- Position of a room: end A's count, or the floor of the mean of a TWIN room's two counts (R102). -/
def roomPosition (s : State) (r : Room) : Int :=
  if kindOf s r = .twin then floorDiv ((endOf s r .endA).count + (endOf s r .endB).count) 2
  else (endOf s r .endA).count

/-- Rack of a TWIN room: end A's count less end B's (R102). -/
def rackOf (s : State) (r : Room) : Int := (endOf s r .endA).count - (endOf s r .endB).count

end Sys2Proof.Machine
end

