-- ==== Sys2Proof/Machine/Arithmetic.lean ====
section
/-! DEFINITION. The levelling arithmetic of chapter 5: gradient correction, zero capture, the lift plan, the load-share tests and coast learning. Pure functions of their inputs. -/

namespace Sys2Proof.Machine

/-! ### Gradients (R87, R88, R91) -/

/-- Correction of one raw read by the zero offsets, with the saturation mark (R87). -/
def correctRead (zero : Grad) (raw : RawGrad) : Reading :=
  let p := raw.pitch - zero.pitch
  let r := raw.roll - zero.roll
  let cp := clampInt (-1000) 1000 p
  let cr := clampInt (-1000) 1000 r
  { raw := ⟨raw.pitch, raw.roll⟩, cor := ⟨cp, cr⟩,
    sat := raw.pitch == 1000 || raw.pitch == -1000 || raw.roll == 1000 || raw.roll == -1000 || cp != p || cr != r }

/-- Floor of the mean of a list, 0 for the empty list. -/
def floorMean (l : List Int) : Int := floorDiv l.sum l.length

/-- The floor means of a list of gradients. -/
def meanGrad (l : List Grad) : Grad := ⟨floorMean (l.map Grad.pitch), floorMean (l.map Grad.roll)⟩

/-- The new zero offsets from the uncorrected pairs of the settle window (R88). -/
def zeroCapture (ring : List RingEntry) : Grad := meanGrad (ring.map RingEntry.raw)

/-- Greatest of a list of integers above a first value. -/
def maxOf (a : Int) (l : List Int) : Int := l.foldl max a

/-- Least of a list of integers below a first value. -/
def minOf (a : Int) (l : List Int) : Int := l.foldl min a

/-- The largest and smallest value of a non-empty list differ by at most 2 (R70). -/
def spreadOk : List Int → Bool
  | [] => true
  | a :: l => maxOf a l - minOf a l ≤ 2

/-- The settle window is met (R70). -/
def windowMet (ring : List RingEntry) : Bool :=
  ring.length == Config.ringSize && spreadOk (ring.map (·.cor.pitch)) && spreadOk (ring.map (·.cor.roll))

/-- The excess slope test fails (R91). -/
def excessSlope (limit : Int) (g : Grad) (sat : Bool) : Bool :=
  sat || limit < g.pitch.natAbs || limit < g.roll.natAbs

/-- The tolerance test passes (R91). -/
def withinTolerance (tol : Int) (g : Grad) : Bool := (g.pitch.natAbs : Int) ≤ tol && (g.roll.natAbs : Int) ≤ tol

/-- Pitch or roll differs from the reference by more than the drift tolerance (R83, R89). -/
def drifted (tol : Int) (ref g : Grad) : Bool :=
  3 * tol < (g.pitch - ref.pitch).natAbs || 3 * tol < (g.roll - ref.roll).natAbs

/-! ### The lift plan (R92 to R96) -/

/-- What the plan takes for one present jack (R90). -/
structure PlanJack where
  jack : Jack
  x : Int
  y : Int
  smax : Nat
  ground : Nat
  stroke : Nat
  deriving DecidableEq, Repr

/-- What the plan gives one present jack (R96). -/
structure PlanLift where
  jack : Jack
  lift : Nat
  target : Nat
  deriving DecidableEq, Repr

/-- Relative height in µm (R92). -/
def relHeight (g : Grad) (p : PlanJack) : Int := g.pitch * p.x + g.roll * p.y

/-- The greatest relative height, 0 for no jack (R93). -/
def topHeight (g : Grad) : List PlanJack → Int
  | [] => 0
  | p :: l => maxOf (relHeight g p) (l.map (relHeight g))

/-- Plane lift in mm (R93). -/
def planeLift (g : Grad) (top : Int) (p : PlanJack) : Nat := (top - relHeight g p + 500).toNat / 1000

/-- Cap of a jack before it is raised to the stroke: the lesser of max stroke and ground stroke plus lift cap (R94, R76). -/
def strokeCap (liftCap smax ground : Nat) : Nat := min smax (ground + liftCap)

/-- Availability in mm (R94). -/
def available (liftCap : Nat) (p : PlanJack) : Nat := max (strokeCap liftCap p.smax p.ground) p.stroke - p.stroke

/-- The scale k in per mille (R95). -/
def planScale (g : Grad) (liftCap : Nat) (l : List PlanJack) : Nat :=
  l.foldl (fun k p =>
    let n := planeLift g (topHeight g l) p
    if n = 0 then k else min k (1000 * available liftCap p / n)) 1000

/-- The plan lift of a jack: its scaled lift after the deadband of 3 mm (R95, R96). -/
def planLift (g : Grad) (top : Int) (k : Nat) (p : PlanJack) : Nat :=
  let n := planeLift g top p * k / 1000
  if n < 3 then 0 else n

/-- The plan's lifts and targets (R96). -/
def planLifts (g : Grad) (liftCap : Nat) (l : List PlanJack) : List PlanLift :=
  l.map (fun p =>
    let n := planLift g (topHeight g l) (planScale g liftCap l) p
    ⟨p.jack, n, p.stroke + n⟩)

/-! ### The load-share tests (R97, R98) -/

/-- The lighter diagonal (R97). -/
def lighterDiagonal (lf rf lr rr : Nat) : Option (List Jack) :=
  let d1 := lf + rr
  let d2 := rf + lr
  if d1 + d2 = 0 then none
  else if 100 * min d1 d2 / (d1 + d2) < 35 then some (if d1 < d2 then [.lf, .rr] else [.rf, .lr])
  else none

/-- A mid jack is light (R98). -/
def midLight (mid front rear : Nat) : Bool := 2 * mid < (front + rear) / 2

/-! ### Coast learning (R99) -/

/-- The new coast from the old one and an observed overrun. -/
def learnCoast (cap old : Nat) (observed : Int) : Nat := min cap ((3 * old + observed.toNat + 2) / 4)

end Sys2Proof.Machine
end

