-- ==== Sys2Proof/Machine/Flags.lean ====
section
/-! DEFINITION. What the part derives from its state: interlock items, travel-readiness, alert conditions with their latches, overcurrent latches that clear by themselves, and the output terminals. -/

namespace Sys2Proof.Machine

/-! ### Interlock items (R24, R25, R27) -/

/-- The role cell of a motion kind and role `q` (12.4): 0 ANY, 1 REQUIRED_ON, 2 REQUIRED_OFF. -/
def roleCell (s : State) (m : Motion) (q : Nat) : Int := s.store.cfg.entry .interlock (4 * m.idx + q)

/-- A BRAKE, PARK_GEAR or IGNITION cell is satisfied (R24). -/
def wiredRoleOk (s : State) (cell : Int) (r : InRole) : Bool :=
  if cell = 1 then roleAssigned s r && roleActive s r
  else if cell = 2 then roleAssigned s r && !roleActive s r
  else true

/-- A SPEED cell is satisfied (R24): with no SPEED terminal the coach reads as not moving. -/
def speedOk (s : State) (cell : Int) : Bool :=
  if cell = 1 then roleActive s .speed else if cell = 2 then !roleActive s .speed else true

/-- The posture items of each row (R25). -/
def postureItems : Motion → List Item
  | .jackExtend => []
  | .jackRetract => [.allRoomsIn]
  | .roomOut => [.jackContact, .awningClear]
  | .roomIn => [.awningClear]
  | .awningOut => [.roomMoving, .wind]
  | .awningIn => [.roomMoving]

/-- The items of a row in the order of R27; a cell that is ANY is satisfied and so passed over. -/
def rowItems (m : Motion) : List Item := [.brake, .parkGear, .ignition, .speed] ++ postureItems m

/-- The room of a channel carries the needs-jacks flag. -/
def chNeedsJacks (s : State) : Ch → Bool
  | .room r => s.store.cfg.needsJacks r
  | _ => false

/-- The channel is a room that carries the under-awning flag. -/
def chUnderAwning (s : State) : Ch → Bool
  | .room r => s.store.cfg.underAwning r
  | _ => false

/-- Every present room has status IN. -/
def allRoomsIn (s : State) : Bool := !someRoomOut s

/-- A present under-awning room is in one of the channel states of `f`. -/
def anyUnderAwning (s : State) (f : ChState → Bool) : Bool :=
  allRooms.any (fun r => underAwning s r && f (chanOf s (.room r)).state)

/-- An item of a motion's row is satisfied for a channel (R24, R25). `auto` waives ROOM_MOVING: it is set for an
AUTOMATIC AUTO_RETRACT. -/
def itemOk (s : State) (c : Ch) (m : Motion) (auto : Bool) : Item → Bool
  | .brake => wiredRoleOk s (roleCell s m 0) .brake
  | .parkGear => wiredRoleOk s (roleCell s m 1) .parkGear
  | .ignition => wiredRoleOk s (roleCell s m 2) .ignition
  | .speed => speedOk s (roleCell s m 3)
  | .allRoomsIn => allRoomsIn s
  | .jackContact =>
    !chNeedsJacks s c ||
      (!(presentJacks s).isEmpty && (presentJacks s).all (fun j => (jackOf s j).contact == .ground))
  | .awningClear =>
    !chUnderAwning s c || !s.present .awning ||
      (!isRunning s .awning && (s.awn.status == .pin || s.awn.status == .pout))
  | .roomMoving => auto || !anyUnderAwning s (· == .running)
  | .wind => !s.store.cfg.windFitted || s.wind.lockout.isNone

/-- The first unsatisfied item of a motion's row in the order of R27. [log 8, DEDUCED.] -/
def firstUnsat (s : State) (c : Ch) (m : Motion) (auto : Bool) : Option Item :=
  (rowItems m).find? (fun i => !itemOk s c m auto i)

/-- The motion kind of the channel's record (R23). -/
def chanMotion (s : State) (c : Ch) : Option Motion :=
  match (chanOf s c).op with
  | none => none
  | some o =>
    motionOf c o (chanOf s c).operand (match c with | .room r => (roomOf s r).leg | _ => .none)

/-- The first unsatisfied item of the row of a channel's own motion (R28, R30). [log 8, DEDUCED.] -/
def chanUnsat (s : State) (c : Ch) : Option Item :=
  match chanMotion s c with
  | none => none
  | some m => firstUnsat s c m ((chanOf s c).owner == some .automatic && (chanOf s c).op == some .autoRetract)

/-- The coach is travel-ready (R33). -/
def travelReady (s : State) : Bool :=
  (presentJacks s).all (fun j => (jackOf s j).contact == .stowed) && allRoomsIn s &&
    (!s.present .awning || s.awn.status == .pin)

/-! ### The alert set (R181) -/

def PerAlert.get {α : Type} (p : PerAlert α) : Alert → α
  | .driveAway => p.driveAway
  | .windRetract => p.windRetract
  | .supplySag => p.supplySag
  | .supplyBrown => p.supplyBrown
  | .levelDisturbed => p.levelDisturbed
  | .jackSensor => p.jackSensor
  | .hallFault => p.hallFault
  | .overcurrent => p.overcurrent
  | .pumpHot => p.pumpHot
  | .storeFault => p.storeFault
  | .positionUncertain => p.positionUncertain
  | .inclinometerLost => p.inclinometerLost

def PerAlert.set {α : Type} (p : PerAlert α) (a : Alert) (v : α) : PerAlert α :=
  match a with
  | .driveAway => { p with driveAway := v }
  | .windRetract => { p with windRetract := v }
  | .supplySag => { p with supplySag := v }
  | .supplyBrown => { p with supplyBrown := v }
  | .levelDisturbed => { p with levelDisturbed := v }
  | .jackSensor => { p with jackSensor := v }
  | .hallFault => { p with hallFault := v }
  | .overcurrent => { p with overcurrent := v }
  | .pumpHot => { p with pumpHot := v }
  | .storeFault => { p with storeFault := v }
  | .positionUncertain => { p with positionUncertain := v }
  | .inclinometerLost => { p with inclinometerLost := v }

/-- Some overcurrent latch is set (R157). -/
def someLatch (s : State) : Bool := allDrivers.any (fun d => (s.mon.latches.get d).isSet)

/-- The channel is present and FAULTED with fault detail HALL (R113, R129). -/
def hallFaulted (s : State) (c : Ch) : Bool :=
  s.present c && (chanOf s c).state == .faulted && match (chanOf s c).fault with
    | some f => f.kind == .hall
    | none => false

/-- Some present room or the awning has confidence UNCERTAIN (R105). -/
def somePositionUncertain (s : State) : Bool :=
  (presentRooms s).any (fun r => (roomOf s r).conf == .uncertain) ||
    (s.present .awning && s.awn.conf == .uncertain)

/-- An alert's condition as its owner gives it (R34, R137, R148, R84, R170, R113, R129, R157, R49, R187, R105, R171). -/
def alertCond (s : State) : Alert → Bool
  | .driveAway => s.sup.driveAway
  | .windRetract => s.wind.retract
  | .supplySag => s.mon.supply != .normal
  | .supplyBrown => s.mon.supply == .brown
  | .levelDisturbed => s.lev.status == .disturbed
  | .jackSensor => (presentJacks s).any (fun j => (jackOf s j).fault) || s.man.lineFault
  | .hallFault => allChs.any (fun c => hallFaulted s c)
  | .overcurrent => someLatch s
  | .pumpHot => s.man.pump.hot
  | .storeFault => s.store.storeFault
  | .positionUncertain => somePositionUncertain s
  | .inclinometerLost => s.scan.grad.failures == 4

/-- An owner gives an alert's condition (R181): a rising edge sets the latch and queues ALERTS when the alert is
enabled; ceasing queues ALERTS when the alert is enabled and its latch is set. -/
def setAlertCond (a : Alert) (v : Bool) (s : State) : State :=
  let q := s.link.alerts.get a
  if q.cond = v then s
  else
    let s1 := modLink (fun l => { l with alerts := l.alerts.set a { cond := v, latch := q.latch || v } }) s
    if s.store.cfg.alertEnabled a && (v || q.latch) then signal .alerts s1 else s1

/-- Every owner gives its conditions. -/
def refreshAlerts (s : State) : State := allAlerts.foldl (fun t a => setAlertCond a (alertCond t a) t) s

/-! ### Output terminals (R168) -/

/-- The coach's FAULT_LAMP value (R168). -/
def faultLamp (s : State) : Bool :=
  allChs.any (fun c => s.present c && (chanOf s c).state == .faulted) ||
    [Alert.hallFault, .overcurrent, .jackSensor, .inclinometerLost, .storeFault].any (fun a => alertCond s a)

/-- Value of an output role code (R168). -/
def outputValue (s : State) (role : Int) : Bool :=
  if role = 1 then (presentJacks s).any (fun j => (jackOf s j).contact != .stowed)
  else if role = 2 then someRoomOut s
  else if role = 3 then s.present .awning && s.awn.status != .pin
  else if role = 4 then
    s.sup.driveAway || (runs s .awning .autoRetract && (chanOf s .awning).owner == some .automatic)
  else if role = 5 then faultLamp s
  else if role = 6 then s.term.linkSet.1
  else if role = 7 then s.term.linkSet.2.1
  else s.term.linkSet.2.2

/-- An output terminal is energised (R168): none during start-up, none while the spare driver's latch is set, none
without a role. [log 80, DESIGN CHOICE.] -/
def outputLevel (s : State) (o : Fin 8) : Bool :=
  let role := s.store.cfg.outputRole o
  !s.power.startingUp && !s.mon.latches.spare.isSet && role != 0 &&
    (outputValue s role != s.store.cfg.outputLow o)

/-- The output terminals are derived afresh (R168). -/
def refreshOutputs (s : State) : State := modTerm (fun t => { t with outputs := Vector.ofFn (outputLevel s) }) s

/-! ### Overcurrent latches that clear by themselves (R156) -/

/-- A latch clears by itself now: its fault-sense line is inactive and its recorded channel is absent, IDLE or PENDING, or
it has none. -/
def latchClears (s : State) (d : Driver) : Bool :=
  let l := s.mon.latches.get d
  l.isSet && !s.mon.faultSense.get d && match l.ch with
    | none => true
    | some c => !s.present c || (chanOf s c).state == .idle || (chanOf s c).state == .pending

/-- One latch clears; its trip timer starts afresh from the next sample, and a scan follows (R156, R7). [log 77, DESIGN CHOICE.] -/
def clearLatch (d : Driver) (s : State) : State :=
  modMon (fun m => { m with latches := m.latches.set d {}, tripSince := m.tripSince.set d none }) s
    |> modSup (fun u => { u with scanDue := true })

/-- The latch is examined for clearing by itself (R156). -/
def examineLatch (d : Driver) (s : State) : State := if latchClears s d then clearLatch d s else s

/-- The latches recorded to a channel are examined (R156). -/
def examineLatchesOf (c : Ch) (s : State) : State :=
  (allDrivers.filter (fun d => (s.mon.latches.get d).ch == some c)).foldl (fun t d => examineLatch d t) s

end Sys2Proof.Machine
end

