-- ==== Sys2Proof/Machine/Ending.lean ====
section
/-! DEFINITION. Endings: taking a termination for a RUNNING channel (R16) with what each job block does at it (R45, R56, R81, R104, R121, R128, R134), and cancelling a PENDING channel (R17). -/

namespace Sys2Proof.Machine

/-- The stopping interval of a channel (R18). -/
def stopInterval (s : State) : Ch → Nat
  | .level => Config.stopHydraulicMs
  | .room r => if kindOf s r = .hydraulic then Config.stopHydraulicMs else Config.stopElectricMs
  | .awning => Config.stopElectricMs

/-! ### What each job block takes off at the start of STOPPING -/

/-- The levelling engine ends its phase and removes lifts and targets (R81, R74). -/
def levelOff (s : State) : State :=
  let off := fun (q : JackRec) => { q with
    lift := none, target := none, close := none, closedHere := false, jogged := false, stepTarget := none }
  modLev (fun l => { l with
    phase := .none, sub := .none, stall := none,
    jacks := ⟨off l.jacks.lf, off l.jacks.rf, off l.jacks.lr, off l.jacks.rr, off l.jacks.lm, off l.jacks.rm⟩ }) s

/-- An end goes to BRAKE; its pulse-late timer and stall judgement stop (R110, R121). -/
def brakeEnd (r : Room) (e : Side) (s : State) : State :=
  modEnd r e (fun q => { q with drive := .brake, lateAt := none, stallSince := none }) s

/-- Every end of a room goes to BRAKE (R121). -/
def brakeRoom (r : Room) (s : State) : State := brakeEnd r .endA s |> brakeEnd r .endB

/-- The awning's drive goes to BRAKE; its timer and judgement stop (R134). -/
def brakeAwning (s : State) : State := modAwn (fun a => { a with drive := .brake, lateAt := none, stallSince := none }) s

/-- The job block takes its outputs off (R16 step 3). A HYDRAULIC room's and LEVEL's pump is stopped by `endRunning`. -/
def jobOff (c : Ch) (t : Term) (s : State) : State :=
  match c with
  | .level => if t = .aborted (.item .allRoomsIn) then closeJackValves (levelOff s) else levelOff s
  | .room r => brakeRoom r s
  | .awning => brakeAwning s

/-! ### What each job block writes at a termination -/

/-- The level status of a termination (R63). -/
def levelEndStatus (s : State) (t : Term) : LevelStatus :=
  match t, (chanOf s .level).op with
  | .normal, some .autoLevel => .levelled
  | .normal, some .stabilise => .stabilised
  | .limited, _ => .limited
  | _, _ => restStatus s

/-- An assigned limit role of a HYDRAULIC room reads active. -/
def limitActive (s : State) (r : InRole) : Bool := roleAssigned s r && roleActive s r

/-- Status and confidence of a HYDRAULIC room whose motion ends otherwise than by R54 (R56). -/
def hydraulicEndStat (s : State) (r : Room) : Pos × Conf :=
  let conf := (roomOf s r).conf
  match limitActive s (.outLimit r), limitActive s (.inLimit r) with
  | true, true => (.unknown, .uncertain)
  | true, false => (.pout, conf)
  | false, true => (.pin, conf)
  | false, false => (.part, conf)

/-- The status that an electric room's termination writes (R104). -/
def electricEnd (r : Room) (t : Term) (s : State) : State :=
  let q := roomOf s r
  if t = .normal then
    if (chanOf s (.room r)).op = some .extend then setRoomStat r .pout q.conf s else roomHome r s
  else if q.homeSearch then setRoomStat r .unknown q.conf s
  else setRoomStat r (if q.inSwitch then .pin else .part) q.conf s

/-- The status that the awning's termination writes (R128), other than for a NORMAL EXTEND. -/
def awningEnd (t : Term) (s : State) : State :=
  if t = .normal then awnHome s
  else if s.awn.homeSearch then setAwnStat .unknown s.awn.conf s
  else setAwnStat (if s.awn.inSwitch then .pin else .part) s.awn.conf s

/-- What a channel's termination writes in its job block. -/
def endWrite (c : Ch) (t : Term) (s : State) : State :=
  match c with
  | .level => setLevelStatus (levelEndStatus s t) s
  | .room r =>
    if kindOf s r = .hydraulic then setRoomStat r (hydraulicEndStat s r).1 (hydraulicEndStat s r).2 s
    else electricEnd r t s
  | .awning => awningEnd t s

/-- The channel runs an EXTEND, or the outward leg or reversal interval of a LEARN (R104). -/
def outwardMotion (s : State) (r : Room) : Bool :=
  let q := chanOf s (.room r)
  q.op == some .extend || (q.op == some .learn && ((roomOf s r).leg == .out || (roomOf s r).leg == .reversal))

/-! ### Cancellations and terminations -/

/-- The record of a channel that is IDLE or FAULTED after a motion: operation, operand, owner, hold, waiting-for and
automatic cause are removed (R17, R18). -/
def clearedRec (st : ChState) (q : ChanRec) : ChanRec :=
  { q with
    state := st, op := none, operand := 0, owner := none, waiting := none, hold := false, deadline := 0,
    autoCause := none }

/-- What follows when a channel enters IDLE: latches recorded to it are examined (R156), and an owed retract is due for
the awning (R36). -/
def entersIdle (c : Ch) (s : State) : State :=
  let s1 := examineLatchesOf c s
  if c = .awning ∧ s1.present .awning ∧ s1.awn.status ≠ .pin ∧ s1.sup.owed ≠ none then
    modSup (fun u => { u with owedDue := true }) s1
  else s1

/-- The channel leaves the start queue without admission; a scan is due (R7). -/
def leaveQueue (c : Ch) (s : State) : State :=
  modSup (fun u => { u with queue := u.queue.filter (fun e => e.ch != c), scanDue := true }) s

/-- A PENDING channel is cancelled (R17); for any other nothing happens. -/
def cancel (c : Ch) (d : CancelDetail) (s : State) : State :=
  if (chanOf s c).state = .pending then
    leaveQueue c s
    |> modChan c (fun q => clearedRec .idle { q with
        last := some ⟨.cancelled d, q.owner⟩, completions := satAdd 255 q.completions 1 })
    |> signal (.chan c) |> entersIdle c
  else s

/-- The record of a RUNNING channel that takes a termination (R16 steps 1 to 3). -/
def stoppedRec (s : State) (c : Ch) (t : Term) (q : ChanRec) : ChanRec :=
  { q with
    last := some ⟨t, q.owner⟩, completions := satAdd 255 q.completions 1, state := .stopping,
    stopEnds := s.now + stopInterval s c }

/-- A RUNNING channel takes a termination (R16), `write` being what its job block writes. -/
def endRunning (c : Ch) (t : Term) (write : State → State) (s : State) : State :=
  let s1 := modChan c (stoppedRec s c t) s |> jobOff c t |> write
  (if s1.man.pump.holder = some c then pumpStop false s1 else s1) |> signal (.chan c)

/-- ALL_ROOMS_IN has become unsatisfied (R28): the one motion whose row names it, a STOW or a JOG RETRACT of LEVEL, is
cancelled INTERLOCK while it waits and aborted while it runs. It is evaluated here where the same step goes on to write IN
again. [log 8, DEDUCED.] -/
def roomsInLost (s : State) : State :=
  if chanMotion s .level = some .jackRetract ∧ !allRoomsIn s then
    let s1 := cancel .level .interlock s
    if isRunning s1 .level then
      endRunning .level (.aborted (.item .allRoomsIn)) (endWrite .level (.aborted (.item .allRoomsIn))) s1
    else s1
  else s

/-- An in-switch that was disregarded during an outward motion is taken as the motion ends (R104, R128). The OUT that a
NORMAL end of a room has written is a change of its own, evaluated before the switch writes IN (R28). [log 18, DEDUCED.] -/
def lateSwitch (c : Ch) (t : Term) (s : State) : State :=
  match c with
  | .level => s
  | .room r =>
    if kindOf s r ≠ .hydraulic ∧ outwardMotion s r ∧ (roomOf s r).inSwitch then
      roomHome r (if t = .normal then roomsInLost s else s)
    else s
  | .awning =>
    if (chanOf s .awning).op = some .extend ∧ s.awn.switchLate then
      awnHome (modAwn (fun a => { a with switchLate := false }) s)
    else s

/-- A termination reaches the supervisor (R16): for a RUNNING channel it is taken, `write` being what its job block writes;
for any other it is disregarded. [log 18, DEDUCED.] -/
def terminateWith (c : Ch) (t : Term) (write : State → State) (s : State) : State :=
  if isRunning s c then endRunning c t (fun u => lateSwitch c t (write u)) s else s

/-- A termination whose job block writes what its own rule gives for the code. -/
def terminate (c : Ch) (t : Term) (s : State) : State := terminateWith c t (endWrite c t) s

/-- A fault ending. -/
def fail (c : Ch) (k : FaultKind) (w : Subject) (s : State) : State := terminate c (.abnormal ⟨k, w⟩) s

/-- A motion that stops on its channel's behalf: cancelled when PENDING, terminated when RUNNING. -/
def endMotion (c : Ch) (d : CancelDetail) (t : Term) (s : State) : State := terminate c t (cancel c d s)

end Sys2Proof.Machine
end

