-- ==== Sys2Proof/Machine/Awning.lean ====
section
/-! DEFINITION. The awning's motion (R128 to R134) and the wind computations (R135 to R138). -/

namespace Sys2Proof.Machine

/-- The motor is driven in the direction of the motion while the driver's latch is clear, and outward only while no
lockout runs (R129, R138); the pulse-late timer starts (R131). -/
def driveAwning (outward : Bool) (s : State) : State :=
  if s.mon.latches.awning.isSet || !isRunning s .awning || (outward && s.wind.lockout.isSome) then s
  else
    modAwn (fun a => { a with
      drive := if outward then .dout else .din, drove := true, stallSince := none,
      lateAt := some (s.now + s.store.cfg.awningLate) }) s

/-- The motion in progress is an EXTEND. -/
def awningOutward (s : State) : Bool := (chanOf s .awning).op == some .extend

/-- The stop point of a target (R126). -/
def stopPointOf (s : State) (target : Nat) : Int :=
  (target * s.store.cfg.pulsesPerCm : Nat) - (s.store.cfg.awningCoast : Int)

/-- Check 6 of R4 for AWNING (R130, R138); the margin is that of the threshold at the latest bin (R125). -/
def awningCheck (s : State) : Op → Option Reason
  | .extend =>
    if s.awn.conf = .uncertain then some .uncertainPosition
    else if s.store.cfg.windFitted ∧ (s.wind.lockout.isSome ∨ 3 * s.wind.avgLimit ≤ 4 * s.wind.avg) then
      some .windHold
    else none
  | _ => none

/-- The operand of an EXTEND that passes is settled against the full extension (R130). -/
def settleOperand (s : State) (operand : Nat) : Nat :=
  match s.store.cfg.fullExtension with
  | some f => if operand = 0 ∨ f < operand then f else operand
  | none => operand

/-- An awning motion is handed to the awning unit (R131). -/
def awningBegin (o : Op) (operand : Nat) (s : State) : State :=
  let s1 := modAwn (fun a => { a with
    consec := 0, driveOff := none, target := none, stopPoint := none, onTarget := false, drove := false,
    switchLate := false,
    lastAuto := if o = .autoRetract then (chanOf s .awning).autoCause else a.lastAuto }) s
  match o with
  | .extend =>
    if operand = 0 then driveAwning true s1
    else
      let s2 := modAwn (fun a => { a with target := some operand, stopPoint := some (stopPointOf s operand) }) s1
      if stopPointOf s operand ≤ s2.awn.count then terminateWith .awning .normal (fun t => t) s2
      else driveAwning true s2
  | _ =>
    if s1.awn.inSwitch then terminate .awning .normal s1
    else
      driveAwning false
        (if s1.awn.conf = .uncertain then modAwn (fun a => { a with homeSearch := true, count := 0 }) s1 else s1)

/-- The count moves by one in the direction of travel (R128). [log 19, DEDUCED.] -/
def movedAwnCount (s : State) : Int :=
  if awningOutward s then min 65535 (s.awn.count + 1)
  else if s.awn.inSwitch ∧ !s.awn.homeSearch then 0
  else max (-65535) (s.awn.count - 1)

/-- The home search limit in pulses (R133). -/
def awningHomeLimit (s : State) : Int :=
  floorDiv (5 * (s.store.cfg.fullExtension.getD 800 : Nat) * (s.store.cfg.pulsesPerCm : Nat)) 4

/-- A NORMAL ending of an EXTEND with its status (R132). -/
def awningArrive (v : Pos) (s : State) : State :=
  terminateWith .awning .normal (fun t => setAwnStat v t.awn.conf t) s

/-- What a running awning examines at every counted or assumed pulse (R132, R133). -/
def afterAwnCount (s : State) : State :=
  if !isRunning s .awning then s
  else if awningOutward s then
    match s.awn.stopPoint with
    | some p =>
      if p ≤ s.awn.count then
        brakeAwning s |> modAwn (fun a => { a with driveOff := some a.count, onTarget := true })
        |> awningArrive (if s.awn.target = s.store.cfg.fullExtension then .pout else .part)
      else s
    | none => s
  else if s.awn.homeSearch ∧ s.awn.count < -awningHomeLimit s then fail .awning .noHome .none s
  else s

/-- The first pulse counted while RUNNING with the status OUT gives PART (R128). [log 24, DEDUCED.] -/
def awnLeaveOut (s : State) : State :=
  if isRunning s .awning ∧ s.awn.status = .pout then setAwnStat .part s.awn.conf s else s

/-- A real pulse of the awning (R128). -/
def awningPulse (s : State) : State :=
  if s.present .awning && runningOrStopping s .awning then
    modAwn (fun a => { a with
      count := movedAwnCount s, consec := 0, lateAt := a.lateAt.map (fun _ => s.now + s.store.cfg.awningLate) }) s
    |> awnLeaveOut |> afterAwnCount
  else s

/-- An assumed pulse, or HALL after three in a row (R129). [log 24, DEDUCED.] -/
def awningLateExpiry (s : State) : State :=
  if s.awn.consec < 3 then
    modAwn (fun a => { a with
      count := movedAwnCount s, consec := a.consec + 1, assumed := satAdd 65535 a.assumed 1,
      lateAt := a.lateAt.map (fun _ => s.now + s.store.cfg.awningLate) }) s
    |> awnLeaveOut |> afterAwnCount
  else fail .awning .hall .none s

/-- A stall of the awning, by operation (R132, R133). [log 16, DEDUCED.] -/
def awningStalled (s : State) : State :=
  if awningOutward s then
    match s.store.cfg.fullExtension with
    | some f =>
      if ((f * s.store.cfg.pulsesPerCm : Nat) : Int) - 30 ≤ s.awn.count then awningArrive .pout s
      else fail .awning .obstruction .none s
    | none =>
      if 50 ≤ extensionOf s then awningArrive .pout (putCfg .learned 20 (extensionOf s : Nat) s)
      else fail .awning .obstruction .none s
  else fail .awning .obstruction .none s

/-- The awning's in-switch changes (R128, R133). An absent awning only keeps the level. [log 18, DEDUCED.] -/
def awningSwitch (active : Bool) (s : State) : State :=
  let s1 := modAwn (fun a => { a with inSwitch := active }) s
  if !s.present .awning || s.awn.inSwitch = active then s1
  else if !active then
    let s2 := modAwn (fun a => { a with switchLate := false }) s1
    if s2.awn.status = .pin then setAwnStat .part s2.awn.conf s2 else s2
  else if isRunning s1 .awning then
    if awningOutward s1 then modAwn (fun a => { a with switchLate := true }) s1 else terminate .awning .normal s1
  else awnHome s1

/-- What the awning unit does at the end of STOPPING (R134). [log 19, DEDUCED.] -/
def awningStopped (s : State) : State :=
  let s1 := match s.awn.driveOff with
    | some d =>
      if s.awn.onTarget ∧ s.awn.drove then
        putCfg .learned 21 (learnCoast 30 s.store.cfg.awningCoast (s.awn.count - d) : Nat) s
      else s
    | none => s
  modAwn (fun a => { a with
    homeSearch := false, target := none, stopPoint := none, driveOff := none, onTarget := false, drove := false,
    switchLate := false }) s1

/-! ### Wind (R135 to R137) -/

/-- The gust of a ring, newest first (R136). -/
def gustOf (factor : Nat) (ring : List Nat) : Nat := ((ring.take 3).sum * factor + 150) / 300

/-- The average of a ring (R136). -/
def averageOf (factor : Nat) (ring : List Nat) : Nat := ((ring.take 10).sum * factor + 500) / 1000

/-- The wind is at threshold (R137). -/
def windAtThreshold (s : State) : Bool :=
  s.store.cfg.gustThreshold ≤ s.wind.gust || s.store.cfg.avgThreshold ≤ s.wind.avg

/-- A bin joins the ring, the next begins, and the speeds are computed (R135, R136). -/
def windBin (s : State) : State :=
  let ring := (min 2000 s.wind.bin :: s.wind.ring).take 10
  modWind (fun w => { w with
    ring := ring, bin := 0, binEnd := some (s.now + 1000),
    gust := gustOf s.store.cfg.windFactor ring, avg := averageOf s.store.cfg.windFactor ring,
    avgLimit := s.store.cfg.avgThreshold }) s

/-- The lockout starts or is restarted at its full length (R137); a PENDING EXTEND is left to the evaluation of R29. [log 17, DEDUCED.] -/
def startLockout (s : State) : State :=
  modWind (fun w => { w with lockout := some (s.now + s.store.cfg.lockoutLength * 60000) }) s

/-- The wind watch without a sensor (R143). -/
def clearWind (s : State) : State := modWind (fun _ => {}) s

/-- The bin clock starts, the first bin end falling 1 s later (R135, R143). -/
def startBinClock (s : State) : State := modWind (fun w => { w with bin := 0, binEnd := some (s.now + 1000) }) s

end Sys2Proof.Machine
end

