-- ==== Sys2Proof/Machine/Hydraulic.lean ====
section
/-! DEFINITION. HYDRAULIC rooms on the jack pump (R53 to R57): admission, endings and the limit terminals. -/

namespace Sys2Proof.Machine

/-- Command to open a room's own valve (R44). -/
def openRoomValve (r : Room) (s : State) : State := if commands s (.room r) then setRoomValve r true s else s

/-- The limit role for the direction of travel (R54). -/
def limitFor (r : Room) : Op → InRole
  | .retract => .inLimit r
  | _ => .outLimit r

/-- A HYDRAULIC room's motion is handed to room drive (R53, R56); with the line-pressure fault flag set it ends SENSOR before
it drives anything (R52), after the PART that it has written is evaluated (R28). [log 66, DEDUCED.] -/
def hydraulicBegin (r : Room) (o : Op) (s : State) : State :=
  let s1 := if limitActive s (limitFor r o) then s else setRoomStat r .part (roomOf s r).conf s
  if s.man.lineFault then fail (.room r) .sensor .none (roomsInLost s1) else openRoomValve r s1 |> pumpOnCmd (.room r)

/-- Check 6 of R4 for a HYDRAULIC room, the rows of R53's table in their order. [log 79, DESIGN CHOICE.] -/
def hydraulicCheck (s : State) (r : Room) : Op → Option Reason
  | .learn => some .notConfigured
  | .extend =>
    if (roomOf s r).conf = .uncertain then some .uncertainPosition
    else if s.man.lineFault then some .noSensor else none
  | _ => if s.man.lineFault then some .noSensor else none

/-- The deadhead second is complete for a running HYDRAULIC room: its travel ends (R54). -/
def hydraulicArrive (r : Room) (s : State) : State :=
  let o := (chanOf s (.room r)).op
  let lim : InRole := limitFor r (o.getD .extend)
  if roomAssignedInactive lim s then
    terminateWith (.room r) (.abnormal ⟨.obstruction, .none⟩) (fun t => setRoomStat r .part (roomOf t r).conf t) s
  else
    terminateWith (.room r) .normal
      (fun t => setRoomStat r (if o = some .retract then .pin else .pout) .known t) s
where
  /-- The limit role is assigned and reads inactive. -/
  roomAssignedInactive (lim : InRole) (s : State) : Bool := roleAssigned s lim && !roleActive s lim

/-- A limit role of a present HYDRAULIC room changes its reading (R56). -/
def limitChange (r : Room) (out active : Bool) (s : State) : State :=
  if hydraulic s r then
    let q := roomOf s r
    let own : Pos := if out then .pout else .pin
    if limitActive s (.outLimit r) && limitActive s (.inLimit r) then setRoomStat r .unknown .uncertain s
    else if active then setRoomStat r own .known s
    else if q.status = own then setRoomStat r .part q.conf s
    else s
  else s

/-- The limit terminals are applied once to a HYDRAULIC room (R57). `restored` says that the status came from the
snapshot with its marker set. [log 83, DESIGN CHOICE.] -/
def applyLimits (r : Room) (restored : Bool) (s : State) : State :=
  let q := roomOf s r
  let inAct := limitActive s (.inLimit r)
  let outAct := limitActive s (.outLimit r)
  if inAct && outAct then setRoomStat r .unknown .uncertain s
  else if inAct then setRoomStat r .pin .known s
  else if outAct then setRoomStat r .pout .known s
  else if restored && ((q.status == .pin && roleAssigned s (.inLimit r)) ||
      (q.status == .pout && roleAssigned s (.outLimit r))) then setRoomStat r .part q.conf s
  else s

/-- The line-pressure fault ends every running HYDRAULIC room motion (R52). -/
def lineFaultEnds (s : State) : State :=
  allRooms.foldl (fun t r =>
    if hydraulic t r then fail (.room r) .sensor .none t else t) s

end Sys2Proof.Machine
end

