-- ==== Sys2Proof/Machine/Levelling.lean ====
section
/-! DEFINITION. The levelling engine: the phases of AUTO_LEVEL, STABILISE, STOW and JOG (R67 to R80), sensor loss (R82), the stall judgement (R73), CAPTURE_ZERO (R66) and drift watch (R83). -/

namespace Sys2Proof.Machine

/-! ### Readings of the engine -/

/-- Every present jack is in GROUND. -/
def allGround (s : State) : Bool := (presentJacks s).all (fun j => (jackOf s j).contact == .ground)

/-- Every present jack is STOWED. -/
def allStowed (s : State) : Bool := (presentJacks s).all (fun j => (jackOf s j).contact == .stowed)

/-- The present jacks in a contact state that satisfies `f`, in jack order. -/
def jacksWith (s : State) (f : Contact → Bool) : List Jack := (presentJacks s).filter (fun j => f (jackOf s j).contact)

/-- The present jacks whose sensor fault flag is set. -/
def faultedJacks (s : State) : List Jack := (presentJacks s).filter (fun j => (jackOf s j).fault)

/-- The ground stroke that the plan and the trim cap take (R94, R76). [log 23, DESIGN CHOICE.] -/
def groundOf (s : State) (j : Jack) : Nat := (jackOf s j).ground.getD (Config.missingGround j.idx % 401)

/-- The cap of a jack in TRIM (R76). -/
def trimCap (s : State) (j : Jack) : Nat := strokeCap s.store.cfg.liftCap (s.store.cfg.maxStroke j) (groundOf s j)

/-- Trim step count of a jack. -/
def trimSteps (s : State) (j : Jack) : Nat :=
  match s.lev.plan with
  | some p => match p.trim with
    | some t => t.get j
    | none => 0
  | none => 0

/-- A jack can make a trim step (R76). -/
def canStep (s : State) (j : Jack) : Bool := trimSteps s j < 5 && (jackOf s j).stroke < trimCap s j

/-- The direction of LEVEL's JOG in progress. -/
def jogging (s : State) : Dir := jogDir (chanOf s .level).operand

/-- A jack of a JOG set is movable (R65). -/
def movable (s : State) (d : Dir) (j : Jack) : Bool :=
  let q := jackOf s j
  match d with
  | .extend => q.stroke < s.store.cfg.maxStroke j && !q.fault
  | .retract => q.contact != .stowed

/-- The phases and steps in which a stall is judged (R73). -/
def stallJudged (s : State) : Bool :=
  isRunning s .level && (s.lev.phase == .ground || s.lev.phase == .lift ||
    (s.lev.phase == .measure && s.lev.sub == .reground) || (s.lev.phase == .trim && s.lev.sub == .stepping))

/-! ### Commands to the manifold -/

def openJacksCmd (l : List Jack) (s : State) : State := l.foldl (fun t j => openJack j t) s
def closeJacksCmd (l : List Jack) (s : State) : State := l.foldl (fun t j => closeJack j t) s

/-- The engine turns the pump off; the deadhead indication and with it the stall judgement end (R50, R73). -/
def levelPumpOff (s : State) : State := pumpOffCmd .level s |> modLev (fun l => { l with stall := none })

/-- Sensors fail under AUTO_LEVEL or STABILISE: open jack valves are commanded closed, then the run ends (R82). -/
def levelSensorLoss (w : Subject) (s : State) : State :=
  if runs s .level .autoLevel ∨ runs s .level .stabilise then
    fail .level .sensor w (closeJacksCmd (openJacks s) s)
  else s

def modPlan (f : PlanRec → PlanRec) (s : State) : State := modLev (fun l => { l with plan := l.plan.map f }) s

/-! ### TRIM (R76, R77) -/

/-- The end of TRIM (R77). [log 29, DEDUCED.] -/
def endTrim (s : State) : State :=
  let air := jacksWith s (· == .air)
  if air ≠ [] then fail .level .noGround (.jacks air) s
  else
    let s1 := modPlan (fun p => { p with final := some s.lev.measured, outcome := s.lev.outcome }) s |> signal .posture
    terminate .level (if s.lev.outcome = some .levelled then .normal else .limited) s1

/-- A trim step of the jacks of `l` begins (R76). -/
def startStep (l : List Jack) (s : State) : State :=
  let s1 := l.foldl (fun t j =>
    modJack j (fun q => { q with stepTarget := some (min (q.stroke + 2) (trimCap s j)) }) t) s
  openJacksCmd l s1 |> pumpOnCmd .level |> modLev (fun v => { v with sub := .stepping, stall := none })

/-- The mid test of a six-jack coach, then the end of TRIM (R76). -/
def midTest (s : State) : State :=
  let p := fun j => (jackOf s j).pressure
  let l := (if midLight (p .lm) (p .lf) (p .lr) then [Jack.lm] else []) ++
    (if midLight (p .rm) (p .rf) (p .rr) then [Jack.rm] else [])
  let m := if s.store.cfg.jackCount = 6 then l.filter (fun j => canStep s j) else []
  if m ≠ [] then startStep m s else endTrim s

/-- The next test of TRIM: the corner test until it is finished, then the mid test (R76). -/
def trimTest (s : State) : State :=
  let p := fun j => (jackOf s j).pressure
  let l := if s.lev.cornerDone then []
    else match lighterDiagonal (p .lf) (p .rf) (p .lr) (p .rr) with
      | some d => d.filter (fun j => canStep s j)
      | none => []
  if l ≠ [] then startStep l s else midTest (modLev (fun v => { v with cornerDone := true }) s)

/-- TRIM is entered with the outcome of the run (R71, R75, R76). -/
def enterTrim (o : PlanOutcome) (s : State) : State :=
  modLev (fun l => { l with
    phase := .trim, sub := .none, phaseSince := s.now, outcome := some o, cornerDone := false, stall := none }) s
  |> modPlan (fun p => { p with trim := some (PerJack.all 0) }) |> trimTest

/-! ### SETTLE and MEASURE (R70, R75) -/

/-- The settle step begins: the ring is emptied and the settle clock starts (R70). With the gradient INVALID, as where the
inclinometer was lost while LEVEL waited, the run ends SENSOR there (R70, R82). [log 75, DEDUCED.] -/
def startSettle (s : State) : State :=
  let s1 := modLev (fun l => { l with sub := .settling, settleSince := s.now, ring := [], stall := none }) s
  if s.scan.grad.valid then s1 else levelSensorLoss .none s1

/-- MEASURE is entered: the reground step where a present jack is in AIR, else the settle step (R75). [log 29, DEDUCED; log 56, DESIGN CHOICE.] -/
def enterMeasure (s : State) : State :=
  let air := jacksWith s (· == .air)
  let s1 := modLev (fun l => { l with
    phase := .measure, sub := .reground, phaseSince := s.now, stepSince := s.now, stall := none }) s
  if air ≠ [] then
    let s2 := air.foldl (fun t j => modJack j (fun q => { q with close := none }) t) s1
    openJacksCmd air s2 |> pumpOnCmd .level
  else startSettle s1

/-! ### LIFT (R72, R74) -/

/-- Plan lifts and targets are removed (R72). -/
def clearLifts (s : State) : State :=
  allJacks.foldl (fun t j => modJack j (fun q => { q with lift := none, target := none }) t) s

/-- A jack of LIFT stands below its target less its coast (R72). -/
def belowTarget (s : State) (j : Jack) : Bool :=
  match (jackOf s j).target with
  | some t => (jackOf s j).stroke + s.store.cfg.jackCoast j < t
  | none => false

/-- LIFT is entered with the plan's lifts and targets (R72). -/
def enterLift (l : List PlanLift) (s : State) : State :=
  let s1 := modLev (fun v => { v with phase := .lift, sub := .none, phaseSince := s.now, stall := none }) s
  let s2 := l.foldl (fun t p => modJack p.jack (fun q => { q with
    lift := some p.lift, target := some p.target, close := none }) t) s1
  let m := (presentJacks s2).filter (fun j => belowTarget s2 j)
  if m ≠ [] then openJacksCmd m s2 |> pumpOnCmd .level else enterMeasure (clearLifts s2)

/-! ### PLAN (R71) -/

/-- What the lift plan takes (R90). -/
def planInput (s : State) : List PlanJack :=
  (presentJacks s).map (fun j =>
    { jack := j, x := s.store.cfg.jackX j, y := s.store.cfg.jackY j, smax := s.store.cfg.maxStroke j,
      ground := groundOf s j, stroke := (jackOf s j).stroke })

/-- PLAN with the settled gradients and the saturation of the pairs used (R71). [log 70, DESIGN CHOICE.] -/
def makePlan (g : Grad) (sat : Bool) (s : State) : State :=
  let c := s.store.cfg
  let s0 := modLev (fun l => { l with phase := .plan, sub := .none, measured := g }) s
  if excessSlope c.excessLimit g sat then fail .level .excessSlope .none s0
  else if faultedJacks s0 ≠ [] then fail .level .sensor (.jacks (faultedJacks s0)) s0
  else if !s.scan.grad.valid then fail .level .sensor .none s0
  else if withinTolerance c.tolerance g then enterTrim .levelled s0
  else
    let inp := planInput s0
    let k := planScale g c.liftCap inp
    let l := planLifts g c.liftCap inp
    let s1 := modPlan (fun p => { p with scale := some k, limited := p.limited || k < 1000 }) s0
    if l.all (fun p => p.lift == 0) then enterTrim .limited s1
    else
      modLev (fun v => { v with passes := v.passes + 1 }) s1
      |> modPlan (fun p => { p with passes := p.passes + 1 }) |> enterLift l

/-! ### The end of a SETTLE (R70, R74, R75, R78) -/

/-- Jacks that closed in LIFT learn their coasts from the strokes of the moment (R74). -/
def learnJackCoasts (s : State) : State :=
  allJacks.foldl (fun t j =>
    match (jackOf t j).close with
    | some c =>
      putCfg .learned (2 + j.idx)
        (learnCoast 8 (t.store.cfg.jackCoast j) ((jackOf t j).stroke - c : Int) : Nat) t
      |> modJack j (fun q => { q with close := none })
    | none => t) s

/-- The settled gradients (R70): the floor means of the window's pairs; of an empty window they are free values. [log 55, DESIGN CHOICE.] -/
def settledGrad (s : State) : Grad :=
  if s.lev.ring = [] then
    ⟨clampInt (-1000) 1000 (Config.emptyWindow 0), clampInt (-1000) 1000 (Config.emptyWindow 1)⟩
  else meanGrad (s.lev.ring.map RingEntry.cor)

/-- A SETTLE ends, met or given up (R70): its gradients go to STABILISE's end (R78), to PLAN (R71) or to the comparison of
MEASURE (R75). [log 55, DESIGN CHOICE.] -/
def settleEnd (gaveUp : Bool) (s : State) : State :=
  let g := settledGrad s
  let sat := s.lev.ring.any RingEntry.sat
  let s1 := modPlan (fun p => { p with unsettled := p.unsettled || gaveUp }) s |> learnJackCoasts
    |> modLev (fun l => { l with sub := .none, measured := g })
  if s.lev.phase = .measure then
    if withinTolerance s.store.cfg.tolerance g then enterTrim .levelled s1
    else if s.lev.passes < s.store.cfg.passes then makePlan g sat s1
    else enterTrim .limited s1
  else
    let s2 := modPlan (fun p => { p with first := some g }) s1
    if (chanOf s .level).op = some .stabilise then
      modPlan (fun p => { p with final := some g, outcome := some .stabilised }) s2 |> terminate .level .normal
    else makePlan g sat s2

/-! ### GROUND (R68, R69) -/

/-- SETTLE follows GROUND. -/
def enterSettle (s : State) : State :=
  startSettle (modLev (fun l => { l with phase := .settle, phaseSince := s.now }) s)

/-- GROUND is entered (R68); a jack whose flag was set while LEVEL waited ends the run here, before a valve opens (R69, R82). [log 82, DEDUCED.] -/
def enterGround (s : State) : State :=
  let s1 := modLev (fun l => { l with phase := .ground, sub := .none, phaseSince := s.now, stall := none }) s
  match faultedJacks s1 with
  | j :: _ => levelSensorLoss (.jacks [j]) s1
  | [] =>
    let s2 := (presentJacks s1).foldl (fun t j => modJack j (fun q => { q with
      closedHere := false,
      ground := if q.contact = .ground ∧ q.ground = none then some q.stroke else q.ground }) t) s1
    let m := jacksWith s2 (· != .ground)
    if m = [] then enterSettle s2 else openJacksCmd m s2 |> pumpOnCmd .level

/-- The first jack whose valve is open, in AIR at its max stroke (R69). -/
def maxedInAir (s : State) : Option Jack :=
  (presentJacks s).find? (fun j =>
    valveOpen s j && (jackOf s j).contact == .air && s.store.cfg.maxStroke j ≤ (jackOf s j).stroke)

/-- Each valve closes as its jack reaches GROUND; `mark` records that the engine closed it in this phase. -/
def closeGrounded (mark : Bool) (s : State) : State :=
  (presentJacks s).foldl (fun t j =>
    if valveOpen t j && (jackOf t j).contact == .ground then
      closeJack j t |> modJack j (fun q => { q with closedHere := q.closedHere || mark })
    else t) s

/-- GROUND acts on a change of a jack (R68, R69). -/
def groundReact (s : State) : State :=
  let s1 := closeGrounded true s
  let lost := (presentJacks s1).filter (fun j =>
    (jackOf s1 j).closedHere && !valveOpen s1 j && (jackOf s1 j).contact == .air)
  let s2 := openJacksCmd lost s1
  match maxedInAir s2 with
  | some j => fail .level .noGround (.jacks [j]) s2
  | none => if allGround s2 ∧ openJacks s2 = [] then enterSettle (levelPumpOff s2) else s2

/-- The reground step acts on a change of a jack (R75). [log 29, DEDUCED; log 56, DESIGN CHOICE.] -/
def regroundReact (s : State) : State :=
  let s1 := closeGrounded false s
  match maxedInAir s1 with
  | some j => fail .level .noGround (.jacks [j]) s1
  | none => if allGround s1 then startSettle (levelPumpOff s1) else s1

/-- LIFT takes a sample: valves close at the target less the coast (R72). -/
def liftReact (s : State) : State :=
  let s1 := (presentJacks s).foldl (fun t j =>
    if valveOpen t j && !belowTarget t j then
      closeJack j t |> modJack j (fun q => { q with close := some q.stroke })
    else t) s
  if openJacks s1 = [] then enterMeasure (clearLifts (levelPumpOff s1)) else s1

/-- A trim step takes a sample: valves close at the step target; the step ends when all are closed (R76). -/
def trimReact (s : State) : State :=
  let s1 := (presentJacks s).foldl (fun t j =>
    match (jackOf t j).stepTarget with
    | some g => if valveOpen t j && g ≤ (jackOf t j).stroke then closeJack j t else t
    | none => t) s
  if openJacks s1 = [] then
    let stepped := allJacks.filter (fun j => (jackOf s1 j).stepTarget.isSome)
    let s2 := stepped.foldl (fun t j =>
      modPlan (fun p => { p with trim := p.trim.map (fun c => c.set j (c.get j + 1)) }) t
      |> modJack j (fun q => { q with stepTarget := none })) (levelPumpOff s1)
    modLev (fun l => { l with sub := .waiting, trimUntil := s.now + 500 }) s2
  else s1

/-! ### STOW and JOG (R79, R80) -/

/-- The STOW phase is entered (R79). -/
def enterStow (s : State) : State :=
  let s1 := modLev (fun l => { l with phase := .stow, sub := .none, phaseSince := s.now }) s
  if allStowed s1 then terminate .level .normal s1
  else openJacksCmd (jacksWith s1 (· != .stowed)) s1 |> pumpOnCmd .level

/-- STOW acts on a stowed switch (R79). -/
def stowReact (s : State) : State :=
  let s1 := closeJacksCmd ((jacksWith s (· == .stowed)).filter (fun j => valveOpen s j)) s
  if allStowed s1 then terminate .level .normal (levelPumpOff s1) else s1

/-- The JOG phase is entered (R80). -/
def enterJog (operand : Nat) (s : State) : State :=
  let s1 := modLev (fun l => { l with phase := .jog, sub := .none, phaseSince := s.now }) s
  let m := (jogJacks operand).filter (fun j => s1.jackPresent j && movable s1 (jogDir operand) j)
  if m = [] then terminate .level .normal s1
  else
    let s2 := openJacksCmd m s1
    let s3 := (m.filter (fun j => valveOpen s2 j)).foldl
      (fun t j => modJack j (fun q => { q with jogged := true }) t) s2
    if openJacks s3 = [] then s3 else pumpOnCmd .level s3

/-- A jack of a JOG reaches its end (R80). -/
def jogEnds (s : State) (j : Jack) : Bool :=
  match jogging s with
  | .extend => s.store.cfg.maxStroke j ≤ (jackOf s j).stroke || (jackOf s j).fault
  | .retract => (jackOf s j).stowed

/-- JOG acts on a sample, a stowed switch or a sensor fault flag (R80). -/
def jogReact (s : State) : State :=
  let s1 := closeJacksCmd ((presentJacks s).filter (fun j => valveOpen s j && jogEnds s j)) s
  if allJacks.any (fun j => (jackOf s1 j).jogged) ∧ openJacks s1 = [] then
    terminate .level .normal (levelPumpOff s1)
  else s1

/-! ### Admission and reactions -/

/-- LEVEL is handed to the engine at its admission (R67). -/
def levelBegin (o : Op) (operand : Nat) (s : State) : State :=
  let s1 := setLevelStatus (restStatus s) s
  let s2 := match o with
    | .autoLevel => modLev (fun l => { l with plan := some { op := .autoLevel } }) s1
    | .stabilise => modLev (fun l => { l with plan := some { op := .stabilise } }) s1
    | .stow =>
      allJacks.foldl (fun t j => modJack j (fun q => { q with ground := none }) t)
        (modLev (fun l => { l with plan := none }) s1)
    | _ => s1
  let s3 := modLev (fun l => { l with passes := 0, outcome := none, cornerDone := false }) s2
  match o with
  | .stow => enterStow s3
  | .jog => enterJog operand s3
  | _ => enterGround s3

/-- The engine acts on a change of a jack's stroke, contact state, switch or flag in the phase it is in. -/
def levelReact (s : State) : State :=
  if isRunning s .level then
    match s.lev.phase with
    | .ground => groundReact s
    | .lift => liftReact s
    | .measure => if s.lev.sub = .reground then regroundReact s else s
    | .trim => if s.lev.sub = .stepping then trimReact s else s
    | .stow => stowReact s
    | .jog => jogReact s
    | _ => s
  else s

/-- The stall judgement takes a sample (R73). [log 76, DESIGN CHOICE.] -/
def stallSample (s : State) : State :=
  match stallJudged s, s.man.deadhead with
  | true, some t =>
    let refs : PerJack (Option Nat) :=
      allJacks.foldl (fun p j => p.set j (if valveOpen s j then some (jackOf s j).stroke else none)) (PerJack.all none)
    match s.lev.stall with
    | none => modLev (fun l => { l with stall := some ⟨t, refs⟩ }) s
    | some q =>
      let risen := (openJacks s).any (fun j => match q.refs.get j with
        | some v => v + 1 ≤ (jackOf s j).stroke
        | none => false)
      if risen then modLev (fun l => { l with stall := some ⟨s.now, refs⟩ }) s else s
  | _, _ => modLev (fun l => { l with stall := none }) s

/-- A good read enters the settle window (R70). -/
def pushRing (e : RingEntry) (s : State) : State :=
  modLev (fun l => { l with
    ring := (if l.ring.length < Config.ringSize then l.ring else l.ring.drop 1) ++ [e] }) s

/-- The SETTLE in progress ends if its window is met (R70). -/
def settleCheck (s : State) : State :=
  if isRunning s .level ∧ s.lev.sub = .settling ∧ windowMet s.lev.ring then settleEnd false s else s

/-! ### START checks and CAPTURE_ZERO (R65, R66) -/

/-- Check 6 of R4 for LEVEL (R65). -/
def levelCheck (s : State) (o : Op) (operand : Nat) : Option Reason :=
  match o with
  | .jog =>
    let l := (jogJacks operand).filter (fun j => s.jackPresent j)
    if jogSingle operand ∧ l = [] then some .notConfigured
    else if jogDir operand = .extend ∧ l.all (fun j => !movable s .extend j) ∧ l.any (fun j => (jackOf s j).fault) then
      some .noSensor
    else none
  | .stow => none
  | _ => if faultedJacks s ≠ [] ∨ !s.scan.grad.valid then some .noSensor else none

/-- CAPTURE_ZERO's answer: none for OK, else the reason, with JACK_CONTACT named for INTERLOCK (R66). -/
def captureRefusal (s : State) : Option (Reason × Option Item) :=
  if !allGround s then some (.interlock, some .jackContact)
  else if !s.scan.grad.valid ∨ s.lev.ring.length < Config.ringSize then some (.noSensor, none)
  else none

/-- CAPTURE_ZERO's effect on an OK (R66, R88); the outcome stands with the final gradients alone (R67). -/
def captureZero (s : State) : State :=
  let z := zeroCapture s.lev.ring
  putCfg .learned 0 z.pitch s |> putCfg .learned 1 z.roll
  |> modLev (fun l => { l with drift := none }) |> modPlan (fun p => { p with final := none, outcome := none })

/-! ### Drift watch (R83) -/

/-- The conditions of drift watch hold. -/
def driftWatched (s : State) : Bool :=
  s.power.state == .run && (chanOf s .level).state == .idle &&
    (s.lev.status == .levelled || s.lev.status == .limited)

/-- The reference gradients of drift watch. -/
def driftRef (s : State) : Grad :=
  match s.lev.plan with
  | some p => p.final.getD ⟨0, 0⟩
  | none => ⟨0, 0⟩

/-- Drift watch takes an inclinometer poll. -/
def driftPoll (s : State) : State :=
  let out := match s.scan.grad.reading with
    | some r => s.scan.grad.valid && drifted s.store.cfg.tolerance (driftRef s) r.cor
    | none => false
  modLev (fun l => { l with
    drift := if driftWatched s && out then (if l.drift = none then some s.now else l.drift) else none }) s

end Sys2Proof.Machine
end

