-- ==== Sys2Proof/Machine/Rooms.lean ====
section
/-! DEFINITION. The electric rooms (R103 to R121): admission, counting, twin synchronisation, missed pulses, stalls, LEARN and the end of STOPPING. -/

namespace Sys2Proof.Machine

/-- The end has a motor and a hall input: end A, and end B of a TWIN room (R107). -/
def hasEnd (s : State) (r : Room) (e : Side) : Bool := electric s r && (roomEnds s r).contains e

/-- The leading end of a TWIN room in the direction of travel (R110). -/
def leadingEnd (s : State) (r : Room) (outward : Bool) : Side :=
  if (0 < rackOf s r) = outward then .endA else .endB

/-- The lead of an end in the direction of travel (R110). -/
def leadOf (s : State) (r : Room) (e : Side) (outward : Bool) : Int :=
  let d := (endOf s r e).count - (endOf s r e.other).count
  if outward then d else -d

/-- The rack of a TWIN room exceeds its limit (R111). -/
def racked (s : State) (r : Room) : Bool :=
  kindOf s r == .twin && s.store.cfg.rackLimit r < (rackOf s r).natAbs

/-- An end is driven in the direction of the leg, while its overcurrent latch is clear (R107); its pulse-late timer
restarts (R112). -/
def driveEnd (r : Room) (e : Side) (outward : Bool) (s : State) : State :=
  if (s.mon.latches.get (.roomEnd r e)).isSet || !isRunning s (.room r) then s
  else
    modEnd r e (fun q => { q with
      drive := if outward then .dout else .din, paused := false, drove := true, stallSince := none,
      lateAt := some (s.now + s.store.cfg.roomLate r) }) s

/-- The ends of `l` are driven. -/
def driveEnds (r : Room) (l : List Side) (outward : Bool) (s : State) : State :=
  l.foldl (fun t e => driveEnd r e outward t) s

/-- A room's NORMAL ending at its target (R115). -/
def arriveOnTarget (r : Room) (s : State) : State :=
  modRoom r (fun q => { q with onTarget := true }) s |> terminate (.room r) .normal

/-- Every end of the room stands at its target. -/
def allOnTarget (s : State) (r : Room) : Bool := (roomEnds s r).all (fun e => (endOf s r e).driveOff.isSome)

/-- An automatic extend is set up (R109): targets, and the ends that already stand there. -/
def beginAutoExtend (r : Room) (stroke : Int) (s : State) : State :=
  let s1 := (roomEnds s r).foldl (fun t e =>
    modEnd r e (fun q =>
      let g := stroke - (s.store.cfg.endCoast r e : Int)
      { q with target := some g, driveOff := if g ≤ q.count then some q.count else none }) t) s
  if allOnTarget s1 r then arriveOnTarget r s1
  else driveEnds r ((roomEnds s1 r).filter (fun e => (endOf s1 r e).driveOff.isNone)) true s1

/-- The motion is a home search: a RETRACT with confidence UNCERTAIN away from the in-switch (R109, R117). -/
def searchesHome (s : State) (r : Room) (o : Op) : Bool :=
  o == .retract && (roomOf s r).conf == .uncertain && !(roomOf s r).inSwitch

/-- An electric room's motion is handed to room drive (R109); a home search that ends RACK leaves the status UNKNOWN (R117). [log 71, DESIGN CHOICE.] -/
def roomBegin (r : Room) (o : Op) (s : State) : State :=
  let z := fun (e : EndRec) => { e with
    consec := 0, paused := false, driveOff := none, target := none, drove := false }
  let s1 := modEnd r .endA z s |> modEnd r .endB z
    |> modRoom r (fun q => { q with candidate := none, onTarget := false, leg := if o = .learn then .out else .none })
  if racked s1 r then
    let w : Term := .abnormal ⟨.rack, .side (leadingEnd s1 r (o != .retract))⟩
    if searchesHome s1 r o then terminateWith (.room r) w (setRoomStat r .unknown (roomOf s1 r).conf) s1
    else terminate (.room r) w s1
  else
    match o with
    | .extend =>
      match s1.store.cfg.learnedStroke r with
      | some stroke => beginAutoExtend r stroke s1
      | none => driveEnds r (roomEnds s1 r) true s1
    | .learn => driveEnds r (roomEnds s1 r) true s1
    | _ =>
      if (roomOf s1 r).inSwitch then terminate (.room r) .normal s1
      else
        let s2 :=
          if (roomOf s1 r).conf = .uncertain then
            modEnd r .endA (fun q => { q with count := 0 }) s1 |> modEnd r .endB (fun q => { q with count := 0 })
            |> modRoom r (fun q => { q with homeSearch := true })
          else s1
        driveEnds r (roomEnds s2 r) false s2

/-- Check 6 of R4 for an electric room (R108). -/
def electricCheck (s : State) (r : Room) : Op → Option Reason
  | .extend => if (roomOf s r).conf = .uncertain then some .uncertainPosition else none
  | .learn =>
    if (roomOf s r).conf = .uncertain ∨ !(roomOf s r).inSwitch then some .uncertainPosition else none
  | _ => none

/-! ### Counting and what every counted pulse is examined for -/

/-- The count of an end moves by one in the direction of travel, held at home on an inward pulse with the in-switch active
(R103). [log 19, DEDUCED.] -/
def movedCount (s : State) (r : Room) (count : Int) : Int :=
  if outwardMotion s r then min 32767 (count + 1)
  else if (roomOf s r).inSwitch ∧ !(roomOf s r).homeSearch then 0
  else max (-32767) (count - 1)

/-- An automatic extend's end reaches or passes its target (R115): it leaves the leg, and a paused partner runs on. [log 25, DESIGN CHOICE.] -/
def targetCheck (r : Room) (e : Side) (s : State) : State :=
  let q := endOf s r e
  match q.target, q.driveOff with
  | some g, none =>
    if g ≤ q.count then
      let s1 := brakeEnd r e s |> modEnd r e (fun q => { q with driveOff := some q.count, paused := false })
      if allOnTarget s1 r then arriveOnTarget r s1
      else if (endOf s1 r e.other).paused then driveEnd r e.other true s1
      else s1
    else s
  | _, _ => s

/-- The end is driven or paused in the leg (R110). -/
def inLeg (s : State) (r : Room) (e : Side) : Bool :=
  (endOf s r e).driveOff.isNone && ((endOf s r e).drive != .brake || (endOf s r e).paused)

/-- Pause and resume of one end (R110). -/
def leadCheck (r : Room) (e : Side) (outward : Bool) (s : State) : State :=
  let n := leadOf s r e outward
  if (endOf s r e).paused then (if n ≤ 2 then driveEnd r e outward s else s)
  else if 6 < n then brakeEnd r e s |> modEnd r e (fun q => { q with paused := true })
  else s

/-- Both ends of a TWIN room are examined for the lead (R110). [log 25, DESIGN CHOICE.] -/
def syncCheck (r : Room) (s : State) : State :=
  if kindOf s r = .twin ∧ inLeg s r .endA ∧ inLeg s r .endB then
    let o := outwardMotion s r
    leadCheck r .endA o s |> leadCheck r .endB o
  else s

/-- The home search limit in pulses (R117). -/
def homeLimit (s : State) (r : Room) : Int :=
  match s.store.cfg.learnedStroke r with
  | some n => floorDiv (5 * n) 4
  | none => 4000

/-- The limits of travel: 4000 pulses in the outward leg of a LEARN (R118) and the home search limit (R117). [log 25, DESIGN CHOICE.] -/
def rangeCheck (r : Room) (s : State) : State :=
  let q := roomOf s r
  if q.leg = .out ∧ 4000 < roomPosition s r then fail (.room r) .learnRange .none s
  else if q.homeSearch ∧ (endOf s r .endA).count < -homeLimit s r then fail (.room r) .noHome .none s
  else s

/-- What a running room examines at every counted or assumed pulse (R111, R115, R110, R118, R117). [log 25, DESIGN CHOICE.] -/
def afterCount (r : Room) (e : Side) (s : State) : State :=
  if !isRunning s (.room r) then s
  else if racked s r then fail (.room r) .rack (.side (leadingEnd s r (outwardMotion s r))) s
  else
    let s1 := targetCheck r e s
    if !isRunning s1 (.room r) then s1 else rangeCheck r (syncCheck r s1)

/-- The first pulse counted while the channel is RUNNING and the status is OUT gives PART (R104). [log 24, DEDUCED.] -/
def leaveOut (r : Room) (s : State) : State :=
  if isRunning s (.room r) ∧ (roomOf s r).status = .pout then setRoomStat r .part (roomOf s r).conf s else s

/-- A real pulse of an end (R103, R112). -/
def roomPulse (r : Room) (e : Side) (s : State) : State :=
  if hasEnd s r e && runningOrStopping s (.room r) then
    modEnd r e (fun q => { q with
      count := movedCount s r q.count, consec := 0,
      lateAt := q.lateAt.map (fun _ => s.now + s.store.cfg.roomLate r) }) s
    |> leaveOut r |> afterCount r e
  else s

/-- An assumed pulse of an end, or HALL after three in a row (R112, R113). [log 24, DEDUCED.] -/
def roomLateExpiry (r : Room) (e : Side) (s : State) : State :=
  if (endOf s r e).consec < 3 then
    modEnd r e (fun q => { q with
      count := movedCount s r q.count, consec := q.consec + 1, assumed := satAdd 65535 q.assumed 1,
      lateAt := q.lateAt.map (fun _ => s.now + s.store.cfg.roomLate r) }) s
    |> leaveOut r |> afterCount r e
  else fail (.room r) .hall (.side e) s

/-! ### Stall and LEARN -/

/-- The out-stall of a LEARN (R118). [log 72, DESIGN CHOICE.] -/
def learnOutStall (r : Room) (s : State) : State :=
  let n := roomPosition s r
  if n < 200 then fail (.room r) .learnRange .none s
  else
    let clear := fun (q : EndRec) => { q with paused := false }
    brakeRoom r s |> modEnd r .endA clear |> modEnd r .endB clear
    |> modRoom r (fun q => { q with candidate := some n, leg := .reversal, reversalUntil := s.now + 150 })

/-- A stall of an end, by operation (R115 to R119). -/
def roomStalled (r : Room) (e : Side) (s : State) : State :=
  match (chanOf s (.room r)).op with
  | some .extend =>
    match s.store.cfg.learnedStroke r with
    | some n =>
      if n - 20 ≤ roomPosition s r then terminate (.room r) .normal s
      else fail (.room r) .obstruction (.side e) s
    | none => terminate (.room r) .normal s
  | some .learn =>
    if (roomOf s r).leg = .out then learnOutStall r s else fail (.room r) .obstruction (.side e) s
  | _ => fail (.room r) .obstruction (.side e) s

/-- A running room that is not driven outward takes its in-switch (R116, R119): NORMAL, and a LEARN's candidate becomes the
learned stroke. -/
def switchHome (r : Room) (s : State) : State :=
  match (chanOf s (.room r)).op, (roomOf s r).candidate with
  | some .learn, some n =>
    putCfg .learned (8 + r.idx) n s |> modRoom r (fun q => { q with candidate := none })
    |> terminate (.room r) .normal
  | _, _ => terminate (.room r) .normal s

/-- The reversal interval of a LEARN ends: both ends are driven IN (R118). An in-switch that is still active as the outward
motion ends is taken as though it had just gone active (R104). -/
def learnReverse (r : Room) (s : State) : State :=
  let s1 := modRoom r (fun q => { q with leg := .inward }) s |> driveEnds r (roomEnds s r) false
  if (roomOf s1 r).inSwitch then switchHome r s1 else s1

/-- An in-switch of a room changes (R104, R116, R119). A HYDRAULIC or absent room only keeps the level. -/
def roomSwitch (r : Room) (active : Bool) (s : State) : State :=
  let s1 := modRoom r (fun q => { q with inSwitch := active }) s
  if !electric s r || (roomOf s r).inSwitch = active then s1
  else if !active then
    (if (roomOf s1 r).status = .pin then setRoomStat r .part (roomOf s1 r).conf s1 else s1)
  else if isRunning s1 (.room r) then (if outwardMotion s1 r then s1 else switchHome r s1)
  else roomHome r s1

/-! ### The end of STOPPING -/

/-- The ends learn their coasts: the extend ended NORMAL on its target, and every end drove (R120). -/
def endsLearn (s : State) (r : Room) : Bool :=
  (roomOf s r).onTarget && (roomEnds s r).all (fun e => (endOf s r e).drove)

/-- An end learns its coast from its overrun (R120). -/
def learnEndCoast (r : Room) (e : Side) (s : State) : State :=
  let q := endOf s r e
  match q.driveOff with
  | some d => putCfg .learned (endCoastIdx r e) (learnCoast 20 (s.store.cfg.endCoast r e) (q.count - d) : Nat) s
  | none => s

/-- What room drive does at the end of an electric room's STOPPING (R121). [log 19, DEDUCED.] -/
def roomStopped (r : Room) (s : State) : State :=
  let z := fun (e : EndRec) => { e with paused := false, driveOff := none, target := none, drove := false }
  (if endsLearn s r then (roomEnds s r).foldl (fun t e => learnEndCoast r e t) s else s)
  |> modEnd r .endA z |> modEnd r .endB z
  |> modRoom r (fun q => { q with homeSearch := false, candidate := none, leg := .none, onTarget := false })

end Sys2Proof.Machine
end

