-- ==== Sys2Proof/Machine/Channels.lean ====
section
/-! DEFINITION. The channel supervisor: examination and acceptance of a START (R4 to R6), the admission scan (R7 to R11), interlock evaluation on change (R28), the protective retract (R35, R36), drive-away (R33, R37), ALL_STOP (R39), the end of STOPPING (R18) and CLEAR (R19, R156). -/

namespace Sys2Proof.Machine

/-- The answer to a START (R4, R5, R6). -/
inductive Verdict where
  | accepted | ok | already | busy | deferred
  | refused (r : Reason) (i : Option Item)
  deriving DecidableEq, Repr

/-! ### START (R4, R5) -/

/-- The operation requires hold (R4). -/
def needsHold (s : State) (c : Ch) : Op → Bool
  | .jog => true
  | .learn => true
  | .extend =>
    match c with
    | .room _ => s.store.marking == .default
    | _ => !s.store.cfg.windFitted
  | .retract =>
    match c with
    | .room _ => s.store.marking == .default
    | _ => false
  | _ => false

/-- Check 6 of R4, by the job block of the channel (R53, R65, R108, R130). -/
def jobCheck (s : State) (c : Ch) (o : Op) (operand : Nat) : Option Reason :=
  match c with
  | .level => levelCheck s o operand
  | .room r => if kindOf s r = .hydraulic then hydraulicCheck s r o else electricCheck s r o
  | .awning => awningCheck s o

/-- The operand that the record takes (R130). -/
def acceptedOperand (s : State) (c : Ch) (o : Op) (operand : Nat) : Nat :=
  if c = .awning ∧ o = .extend then settleOperand s operand else operand

/-- Checks 6 to 8 of R4. -/
def lateChecks (s : State) (c : Ch) (o : Op) (hold : Bool) (operand : Nat) (w : Owner) : Option (Reason × Option Item) :=
  match jobCheck s c o operand with
  | some r => some (r, none)
  | none =>
    let unsat := match motionOf c o operand .none with
      | some m => firstUnsat s c m (w == Owner.automatic && o == Op.autoRetract)
      | none => none
    match unsat with
    | some i => some (.interlock, some i)
    | none => if w = Owner.link ∧ needsHold s c o ∧ !hold then some (.holdRequired, none) else none

/-- A START that passes every check is accepted (R5): the channel waits at the tail of the start queue. -/
def accept (c : Ch) (o : Op) (hold : Bool) (operand : Nat) (w : Owner) (cause : Option AutoCause) (s : State) : State :=
  modChan c (fun q => { q with
    state := .pending, op := some o, operand := acceptedOperand s c o operand, owner := some w, waiting := none,
    hold := hold, deadline := if hold then s.now + s.store.cfg.holdWindow else 0, autoCause := cause }) s
  |> modSup (fun u => { u with queue := u.queue ++ [⟨c, s.now⟩], scanDue := true })
  |> (fun t => if c = .level then modLev (fun l => { l with drift := none }) t else t)
  |> signal (.chan c)

/-- A START outside RUN is refused BUSY before every check (R190). In RUN it is examined in the order of R4 and, if it passes, accepted (R5); CAPTURE_ZERO goes to the engine (R66), and an
AUTOMATIC start meeting STOPPING is kept as the deferred start (R6). -/
def startMotion (c : Ch) (o : Op) (hold : Bool) (operand : Nat) (w : Owner) (cause : Option AutoCause) (s : State) :
    Verdict × State :=
  let q := chanOf s c
  if s.power.state ≠ .run then (.busy, s)
  else if !s.present c then (.refused .absent none, s)
  else if allStopActive s then (.refused .allStopHeld none, s)
  else if q.state = .faulted then (.refused .faulted none, s)
  else if (q.state = .pending ∨ q.state = .running) ∧ q.op = some o ∧ q.owner = some w then (.already, s)
  else if q.state = .stopping ∧ w = .automatic then
    (.deferred, modChan c (fun q => { q with deferred := some ⟨o, cause⟩ }) s)
  else if q.state ≠ .idle then (.busy, s)
  else if o = .captureZero then
    match captureRefusal s with
    | some (r, i) => (.refused r i, s)
    | none => (.ok, captureZero s)
  else
    match lateChecks s c o hold operand w with
    | some (r, i) => (.refused r i, s)
    | none => (.accepted, accept c o hold operand w cause s)

/-! ### Interlock evaluation on change (R28, R30) -/

/-- The waiting and running channels whose row has an unsatisfied item, with the first such item in the order of R27. [log 8, DEDUCED.] -/
def interlockBreaks (s : State) : List (Ch × Item) :=
  allChs.filterMap (fun c =>
    if (chanOf s c).state = .pending ∨ (chanOf s c).state = .running then
      (chanUnsat s c).map (fun i => (c, i))
    else none)

/-- PENDING channels are cancelled INTERLOCK and RUNNING ones aborted with the item (R28). [log 8, DEDUCED.] -/
def sweep (s : State) : State :=
  (interlockBreaks s).foldl (fun t p => endMotion p.1 .interlock (.aborted (.item p.2)) t) s

/-! ### The admission scan (R7 to R11) -/

/-- The number of present rooms RUNNING or STOPPING (R8). -/
def presentRoomCount (s : State) : Nat := (presentRooms s).countP (fun r => runningOrStopping s (.room r))

/-- The conflict answer is unfavourable (R8). [log 69, DEDUCED.] -/
def conflicts (s : State) : Ch → Bool
  | .level => (presentRooms s).any (fun r => runningOrStopping s (.room r))
  | .room r =>
    (s.present .level && runningOrStopping s .level) ||
      (s.store.cfg.underAwning r && s.present .awning && runningOrStopping s .awning) ||
      s.store.cfg.roomLimit ≤ presentRoomCount s
  | .awning => anyUnderAwning s (fun st => st == .running || st == .stopping)

/-- The entry needs the pump (R8). -/
def needsPump (s : State) : Ch → Bool
  | .level => true
  | .room r => kindOf s r == .hydraulic
  | .awning => false

/-- The pump's latch is set and recorded to LEVEL, and LEVEL is FAULTED: every entry that needs the pump waits for CLEAR LEVEL
(R156). [log 64, DEDUCED.] -/
def levelPumpLatch (s : State) : Bool :=
  s.mon.latches.pump.isSet && s.mon.latches.pump.ch == some .level && (chanOf s .level).state == .faulted

/-- The pump answer is favourable: no holder, no cooldown (R8, R48) and no latch that waits for CLEAR LEVEL (R156). [log 64, DEDUCED.] -/
def pumpFree (s : State) : Bool :=
  s.man.pump.holder.isNone && s.man.pump.runState == .none && !levelPumpLatch s

/-- The demand of a channel in amperes (R151). -/
def demandOf (s : State) : Ch → Nat
  | .level => s.store.cfg.pumpDemand
  | .room r => match kindOf s r with
    | .twin => s.store.cfg.twinDemand
    | .single => s.store.cfg.singleDemand
    | .hydraulic => s.store.cfg.pumpDemand + s.store.cfg.hydraulicExtra
  | .awning => s.store.cfg.awningDemand

/-- The sum of the reservations that satisfy `f`. -/
def reserved (s : State) (f : Resv → Bool) : Nat :=
  (allChs.map (fun c => match s.mon.resv.get c with
    | some q => if f q then q.amps else 0
    | none => 0)).sum

/-- The sum of the ordinary entries of the reservation table (R153). -/
def ordinarySum (s : State) : Nat := reserved s (fun q => !q.fromReserve)

/-- The latches of the channel's own motor drivers are clear (R153). [log 58, DESIGN CHOICE.] -/
def motorsClear (s : State) : Ch → Bool
  | .level => true
  | .room r =>
    if kindOf s r = .hydraulic then true
    else (roomEnds s r).all (fun e => !(s.mon.latches.get (.roomEnd r e)).isSet)
  | .awning => !s.mon.latches.awning.isSet

/-- The channel waits or runs with an AUTOMATIC AUTO_RETRACT. -/
def automaticRetract (s : State) (c : Ch) : Bool :=
  (chanOf s c).owner == some .automatic && (chanOf s c).op == some .autoRetract

/-- The current answer is favourable (R149, R153). -/
def currentOk (s : State) (c : Ch) : Bool :=
  if automaticRetract s c then motorsClear s c
  else s.mon.supply == .normal && motorsClear s c &&
    ordinarySum s + demandOf s c ≤ s.store.cfg.budget - s.store.cfg.awningDemand

/-- The waiting-for value of an entry is written; a change queues the channel source (R7). -/
def setWaiting (c : Ch) (w : Waiting) (s : State) : State :=
  if (chanOf s c).waiting = some w then s
  else modChan c (fun q => { q with waiting := some w }) s |> signal (.chan c)

/-- The channel becomes the pump's holder, with the direction of its operation (R43). -/
def takePump (c : Ch) (d : Dir) (s : State) : State :=
  modMan (fun m => { m with
    dirValve := (match d with | .extend => .extend | .retract => .retract),
    pump := { m.pump with holder := some c, dir := some d } }) s

/-- An admitted channel is handed to its job block (R11 step 6). -/
def jobBegin (c : Ch) (o : Op) (operand : Nat) (s : State) : State :=
  match c with
  | .level => levelBegin o operand s
  | .room r => if kindOf s r = .hydraulic then hydraulicBegin r o s else roomBegin r o s
  | .awning => awningBegin o operand s

/-- Admission (R11). The channel's entry into RUNNING is evaluated (R28, R29) before its job block takes the motion, so that
a motion that ends at its admission has been seen RUNNING. [log 8, DEDUCED.] -/
def admitChan (c : Ch) (s : State) : State :=
  match (chanOf s c).op with
  | none => s
  | some o =>
    let operand := (chanOf s c).operand
    let s1 := modSup (fun u => { u with queue := u.queue.filter (fun e => e.ch != c) }) s
      |> modChan c (fun q => { q with waiting := none })
    let s2 := modMon (fun m => { m with
      resv := m.resv.set c (some ⟨demandOf s c, automaticRetract s c⟩) }) s1
    let s3 := if needsPump s c then takePump c (opDir o operand) s2 else s2
    let s4 := requestMarkerClear s3
      |> modChan c (fun q => { q with state := .running, admitted := s.now })
      |> signal (.chan c) |> sweep
    if isRunning s4 c then jobBegin c o operand s4 else s4

/-- What a walk of the queue carries: an older entry that needs the pump remains, and an aged entry stopped the walk. -/
structure Walk where
  st : State
  older : Bool
  stopped : Bool

/-- One entry of the walk (R7, R9, R10); an entry that an earlier admission of the walk has cancelled is passed over (R29). [log 15, DEDUCED; log 8, DEDUCED.] -/
def walkEntry (w : Walk) (e : QEntry) : Walk :=
  let s := w.st
  if (chanOf s e.ch).state ≠ .pending then w
  else if w.stopped then { w with st := setWaiting e.ch .current s }
  else if conflicts s e.ch then
    { w with st := setWaiting e.ch .conflict s, older := w.older || needsPump s e.ch }
  else if needsPump s e.ch && (w.older || !pumpFree s) then
    { w with st := setWaiting e.ch .pump s, older := true }
  else if !currentOk s e.ch then
    { st := setWaiting e.ch .current s, older := w.older || needsPump s e.ch,
      stopped := e.since + Config.agingMs ≤ s.now }
  else { w with st := admitChan e.ch s }

/-- An admission scan walks the queue from the oldest entry to the newest (R7). [log 43, DEDUCED.] -/
def scan (s : State) : State :=
  (s.sup.queue.foldl walkEntry ⟨modSup (fun u => { u with scanDue := false }) s, false, false⟩).st

/-! ### The protective retract (R35, R36) -/

/-- The owed retract that an outcome leaves (R35). -/
def owedAfter (cause : AutoCause) : Verdict → Option AutoCause
  | .busy => some cause
  | .refused .allStopHeld _ => some cause
  | .refused .faulted _ => some cause
  | _ => none

/-- The cause with which a protective request aborts an EXTEND (R35). -/
def protectiveItem (s : State) : AutoCause → Item
  | .driveAway => s.sup.driveAwayBy
  | _ => .ignition

/-- A protective retract request (R35). -/
def protectiveRequest (cause : AutoCause) (s : State) : State :=
  let q := chanOf s .awning
  if !s.present .awning ∨ s.awn.status = .pin then s
  else if q.state = .faulted ∨ ((q.state = .pending ∨ q.state = .running) ∧ q.op = some .retract) then
    modSup (fun u => { u with owed := some cause }) s
  else
    let s1 := if q.op = some .extend then
        endMotion .awning .interlock (.aborted (.item (protectiveItem s cause))) s else s
    let p := startMotion .awning .autoRetract false 0 .automatic (some cause) s1
    modSup (fun u => { u with owed := owedAfter cause p.1 }) p.2

/-- An event of R36 has arrived: the owed retract is requested again with its cause. -/
def requestOwed (s : State) : State :=
  let s1 := modSup (fun u => { u with owedDue := false }) s
  match s1.sup.owed with
  | some cause => protectiveRequest cause s1
  | none => s1

/-! ### Settling: evaluations and scans until nothing is due -/

/-- Nothing is due: no interlock breaks, no owed request, no scan. -/
def settled (s : State) : Bool := (interlockBreaks s).isEmpty && !s.sup.owedDue && !s.sup.scanDue

/-- One round: the interlock evaluation, an owed request, an admission scan. [log 4, DESIGN CHOICE.] -/
def settleRound (s : State) : State :=
  let s1 := sweep s
  let s2 := if s1.sup.owedDue then requestOwed s1 else s1
  if s2.sup.scanDue then scan s2 else s2

/-- Rounds until nothing is due, at most `n`. [log 4, DESIGN CHOICE.] -/
def settleRounds : Nat → State → State
  | 0, s => s
  | n + 1, s => if settled s then s else settleRounds n (settleRound s)

/-- What follows an event within its step (R7, R28, R36). [log 4, DESIGN CHOICE.] -/
def settle (s : State) : State := settleRounds 40 s

/-! ### Drive-away (R33, R37) -/

/-- The drive-away condition ends (R33); an owed DRIVE_AWAY retract becomes absent (R36). -/
def endDriveAway (s : State) : State :=
  modSup (fun u => { u with
    driveAway := false, owed := if u.owed = some .driveAway then none else u.owed }) s

/-- The coach has become travel-ready while the condition was active (R33). -/
def driveAwayCheck (s : State) : State := if s.sup.driveAway && travelReady s then endDriveAway s else s

/-- The auto-stow of R37. -/
def autoStow (s : State) : State :=
  if s.store.cfg.autoStow ∧ allRoomsIn s ∧ (chanOf s .level).state = .idle ∧
      (presentJacks s).any (fun j => (jackOf s j).contact != .stowed) then
    (startMotion .level .stow false 0 .automatic none s).2
  else s

/-- A transition that can begin the condition is taken (R33, R37). The latch of DRIVE_AWAY sets on its beginning (R34), whether or
not the condition outlasts the step. -/
def driveAwayBegin (by_ : Item) (s : State) : State :=
  if s.sup.driveAway || travelReady s then s
  else
    let s1 := modSup (fun u => { u with driveAway := true, driveAwayBy := by_ }) s |> setAlertCond .driveAway true
    autoStow (if s.store.cfg.driveAwayRetract then protectiveRequest .driveAway s1 else s1)

/-! ### ALL_STOP (R39) -/

/-- ALL_STOP goes active: every present channel is cancelled or stopped, and deferred starts are discarded. -/
def allStop (s : State) : State :=
  allChs.foldl (fun t c =>
    if t.present c then
      endMotion c .stop .stopped t
      |> (fun u => if (chanOf t c).state = .stopping then modChan c (fun q => { q with deferred := none }) u else u)
    else t) s

/-! ### Hold, release and waiting -/

/-- The hold of a motion ends: CANCELLED with RELEASED when PENDING, RELEASED when RUNNING (R14). -/
def releaseMotion (c : Ch) (s : State) : State := endMotion c .released .released s

/-- A release from the pendant (R14). -/
def pendantRelease (c : Ch) (s : State) : State :=
  if (chanOf s c).owner = some .pendant ∧ (chanOf s c).hold then releaseMotion c s else s

/-- The enqueue time of a waiting channel. -/
def enqueuedAt (s : State) (c : Ch) : Option Nat := (s.sup.queue.find? (fun e => e.ch == c)).map QEntry.since

/-- The wait timeout of a waiting channel has passed (R12). -/
def waitOver (s : State) (c : Ch) : Bool :=
  (chanOf s c).state == .pending && match enqueuedAt s c with
    | some t => t + s.store.cfg.waitTimeout * 1000 ≤ s.now
    | none => false

/-- The hold deadline of a hold-to-run motion has passed without renewal (R14). -/
def holdOver (s : State) (c : Ch) : Bool :=
  ((chanOf s c).state == .pending || (chanOf s c).state == .running) && (chanOf s c).hold &&
    (chanOf s c).deadline ≤ s.now && !pendantRenews s c

/-! ### The end of STOPPING (R18, R45) -/

/-- Every valve of the holder closes, the direction valve returns to REST and the holder is released (R45). -/
def releasePump (c : Ch) (s : State) : State :=
  if s.man.pump.holder = some c then
    modMan (fun m => { m with
      jackValves := if c = .level then PerJack.all false else m.jackValves,
      roomValves := (match c with | .room r => m.roomValves.set r false | _ => m.roomValves),
      dirValve := .rest, pump := { m.pump with holder := none, dir := none } }) s
  else s

/-- What a job block does at the end of STOPPING (R120, R121, R134). -/
def jobStopped (c : Ch) (s : State) : State :=
  match c with
  | .level => s
  | .room r => if kindOf s r = .hydraulic then s else roomStopped r s
  | .awning => awningStopped s

/-- The state and fault detail that a last termination leaves (R18 step 3). -/
def restingState (q : ChanRec) : ChState × Option FaultDetail :=
  match q.last with
  | some ⟨.abnormal f, _⟩ => (.faulted, some f)
  | _ => (.idle, none)

/-- The channel's deferred start is taken (R6). The outcome of its examination writes the owed retract again as R35 gives for
the causes DRIVE_AWAY and IGNITION; an accepted wind retract clears it (R36). [log 54, DEDUCED.] -/
def takeDeferred (c : Ch) (s : State) : State :=
  match (chanOf s c).deferred with
  | none => s
  | some d =>
    let s1 := modChan c (fun q => { q with deferred := none }) s
    let p := startMotion c d.op false 0 .automatic d.cause s1
    match d.cause with
    | none => p.2
    | some .wind => if p.1 = .accepted then modSup (fun u => { u with owed := none }) p.2 else p.2
    | some cause => modSup (fun u => { u with owed := owedAfter cause p.1 }) p.2

/-- The stopping interval of a channel ends (R18). -/
def stoppingEnd (c : Ch) (s : State) : State :=
  let s1 := jobStopped c s |> modMon (fun m => { m with resv := m.resv.set c none }) |> releasePump c
  let z := restingState (chanOf s1 c)
  let s2 := modChan c (fun q => { clearedRec z.1 q with fault := z.2 }) s1 |> signal (.chan c)
  let s3 := if z.1 = .idle then entersIdle c s2 else s2
  let s4 := takeDeferred c s3 |> modSup (fun u => { u with scanDue := true }) |> settle
  if allAtRest s4 then requestSnapshot s4 else s4

/-! ### STOP, HOLD and CLEAR (R13, R15, R19) -/

/-- The motion is an AUTOMATIC awning retract with cause WIND (R3, R15). -/
def windRetracting (s : State) (c : Ch) : Bool :=
  c == .awning && automaticRetract s c && (chanOf s c).autoCause == some .wind

/-- A STOP of an owner (R15). -/
def stopMotion (c : Ch) (w : Owner) (s : State) : Verdict × State :=
  if !s.present c then (.refused .absent none, s)
  else match (chanOf s c).state with
    | .idle => (.refused .notRunning none, s)
    | .faulted => (.refused .notRunning none, s)
    | .stopping => (.ok, s)
    | _ =>
      if w = .link ∧ windRetracting s c then (.refused .autoSafety none, s)
      else (.ok, endMotion c .stop .stopped s)

/-- The last termination is RELEASED, or CANCELLED with detail RELEASED, of the owner (R13). -/
def lastReleased (s : State) (c : Ch) (w : Owner) : Bool :=
  match (chanOf s c).last with
  | some l => (l.term == .released || l.term == .cancelled .released) && l.owner == some w
  | none => false

/-- A HOLD of an owner (R13). -/
def holdMotion (c : Ch) (w : Owner) (s : State) : Verdict × State :=
  let q := chanOf s c
  if !s.present c then (.refused .absent none, s)
  else if (q.state = .pending ∨ q.state = .running) ∧ q.hold ∧ q.owner = some w then
    (.ok, modChan c (fun q => { q with deadline := s.now + s.store.cfg.holdWindow }) s)
  else if (q.state = .idle ∨ q.state = .stopping) ∧ lastReleased s c w then (.refused .tooLate none, s)
  else (.refused .notHeld none, s)

/-- The set latches recorded to a channel. -/
def latchesOf (s : State) (c : Ch) : List Driver :=
  allDrivers.filter (fun d => (s.mon.latches.get d).isSet && (s.mon.latches.get d).ch == some c)

/-- A CLEAR (R19, R156). -/
def clearFault (c : Ch) (s : State) : Verdict × State :=
  if !s.present c then (.refused .absent none, s)
  else if (chanOf s c).state ≠ .faulted then (.refused .notRunning none, s)
  else if (latchesOf s c).any (fun d => s.mon.faultSense.get d) then (.refused .stillActive none, s)
  else
    let s1 := (latchesOf s c).foldl (fun t d => clearLatch d t) s
    (.ok, modChan c (fun q => { q with state := .idle, fault := none }) s1 |> signal (.chan c) |> entersIdle c)

/-! ### Presence (R1) -/

/-- A channel becomes absent: its record returns to its reset values, and its source is queued (R1). -/
def becomeAbsent (c : Ch) (s : State) : State :=
  modChan c (fun _ => {}) s
  |> modSup (fun u => { u with queue := u.queue.filter (fun e => e.ch != c) })
  |> signal (.chan c) |> examineLatchesOf c

end Sys2Proof.Machine
end

