-- ==== Sys2Proof/Machine/Power.lean ====
section
/-! DEFINITION. Power control: entering WATCH or SLEEP (R190), waking (R191), and the telemetry timer and receiver states that follow the power state (R173, R180). -/

namespace Sys2Proof.Machine

/-- The telemetry timer starts afresh: it runs in PERIODIC mode only (R180). -/
def startTelemetryTimer (s : State) : State :=
  modLink (fun l => { l with
    telemetryAt := if s.store.cfg.telemetryMode = 1 then some (s.now + s.store.cfg.telemetryInterval) else none }) s

/-- POSTURE joins the queue whatever its enable, with a cause that replaces an unsent one (R177). -/
def queuePosture (cause : PostureCause) (s : State) : State :=
  queueSource .posture s |> modLink (fun l => { l with postureCause := some cause })

/-- A wake returns the part to RUN (R191); in RUN a cause changes nothing. -/
def wake (cause : PostureCause) (s : State) : State :=
  if s.power.state = .run then s
  else
    let s1 := modPower (fun p => { p with state := .run }) s |> queuePosture cause |> startTelemetryTimer
    let s2 := if s.power.state = .sleep ∧ s.store.cfg.windFitted then startBinClock s1 else s1
    match s2.sup.owed with
    | some c => protectiveRequest c s2
    | none => s2

/-- In-band timers are cancelled as the part leaves RUN (R170). -/
def cancelBandTimers (s : State) : State :=
  allJacks.foldl (fun t j => modJack j (fun q => { q with bandSince := none }) t) s
  |> modMan (fun m => { m with lineBandSince := none })

/-- The part enters WATCH or SLEEP (R190, R173, R180, R171, R83, R135, R146). A frame in progress at the receiver wakes it
at once. [log 47, DEDUCED.] -/
def enterRest (p : PowerState) (s : State) : State :=
  let s1 := dropSource .telemetry s
    |> modLink (fun l => { l with
        telemetryAt := none, rx := if l.rx = .drain then .hunt else l.rx })
    |> cancelBandTimers
    |> modScan (fun c => { c with grad := { c.grad with stale := true } })
    |> modLev (fun l => { l with drift := none })
    |> modPower (fun q => { q with state := p })
  let s2 := if p = .sleep then
      modWind (fun w => { w with ring := [], bin := 0, binEnd := none, gust := 0, avg := 0 }) s1
      |> modMon (fun m => { m with samples := [], avg := none })
    else s1
  if s2.link.rx = .assembling ∨ s2.link.rx = .held then wake .link s2 else s2

/-- ENTER_WATCH or ENTER_SLEEP is refused (R190). -/
def restRefusal (p : PowerState) (s : State) : Option Verdict :=
  if !(allAtRest s && s.sup.queue.isEmpty) then some .busy
  else if p = .sleep ∧ s.present .awning ∧ s.awn.status ≠ .pin then some (.refused .awningNotIn none)
  else none

end Sys2Proof.Machine
end

