-- ==== Sys2Proof/Machine/Terminals.lean ====
section
/-! DEFINITION. The terminal unit: debounce (R162), speed (R163), change flags (R164), pendant decode (R165 to R167), ALL_STOP (R39), the consumers of a role's change, and terminal map changes (R161). -/

namespace Sys2Proof.Machine

/-- The role is a pendant role (R160). -/
def isPendant (r : InRole) : Bool := pendantRoles.contains r

/-- The channel that a pendant role starts (R161). -/
def pendantChannel : InRole → Ch
  | .roomOut r => .room r
  | .roomIn r => .room r
  | .awningOut => .awning
  | .awningIn => .awning
  | _ => .level

/-- A START from the pendant: held roles carry hold, LEVEL_AUTO and STOW none (R4, R165, R167). -/
def pendantStart (c : Ch) (o : Op) (hold : Bool) (s : State) : State :=
  (startMotion c o hold 0 .pendant none s).2

/-- LEVEL_AUTO or STOW is pressed (R167). -/
def levelPress (o : Op) (s : State) : State :=
  match (chanOf s .level).state with
  | .idle => pendantStart .level o false s
  | .faulted => pendantStart .level o false s
  | _ => (stopMotion .level .pendant s).2

/-- A pendant role's effective state goes active (R165). -/
def pendantActivate (r : InRole) (s : State) : State :=
  match r with
  | .roomOut q => pendantStart (.room q) .extend true s
  | .roomIn q => pendantStart (.room q) .retract true s
  | .awningOut => pendantStart .awning .extend true s
  | .awningIn => pendantStart .awning .retract true s
  | .levelAuto => levelPress .autoLevel s
  | .stow => levelPress .stow s
  | _ => s

/-- A held role's effective state goes inactive (R165). -/
def pendantDeactivate (r : InRole) (s : State) : State :=
  match partnerRole r with
  | some _ => pendantRelease (pendantChannel r) s
  | none => s

/-- The pendant roles whose effective state a change of role `r` can move: its own and its partner's. -/
def pairOf (r : InRole) : List InRole :=
  if isPendant r then r :: (partnerRole r).toList else []

/-- The roles that read inactive leave the mask (R161, R162). [log 30, DEDUCED.] -/
def trimMask (s : State) : State := modTerm (fun t => { t with mask := t.mask.filter (fun r => roleActive s r) }) s

/-- The pendant decode takes one role, from the state before the change (R165). A masked role is not taken until it has
read inactive. [log 30, DEDUCED; log 63, DESIGN CHOICE.] -/
def pendantDecode (old : State) (s : State) (r : InRole) : State :=
  let was := effective old r
  let is_ := effective s r
  if was = is_ then s
  else if is_ then (if s.term.mask.contains r then s else pendantActivate r s)
  else pendantDeactivate r s

/-- The ALL_STOP reading changes (R36, R39). -/
def allStopChange (active : Bool) (s : State) : State :=
  if active then allStop s
  else if s.sup.owed ≠ none then modSup (fun u => { u with owedDue := true }) s else s

/-- A hydraulic limit role's reading changes (R56). -/
def limitRoleChange (r : InRole) (active : Bool) (s : State) : State :=
  match r with
  | .outLimit q => limitChange q true active s
  | .inLimit q => limitChange q false active s
  | _ => s

/-- IGNITION's reading goes inactive: an owed IGNITION retract becomes absent (R36). -/
def ignitionOff (s : State) : State :=
  modSup (fun u => { u with owed := if u.owed = some .ignition then none else u.owed }) s

/-- The consumers of a debounced change of a role's reading (R33, R36, R38, R39, R56). -/
def roleChange (r : InRole) (active : Bool) (s : State) : State :=
  match r with
  | .brake => if active then endDriveAway s else driveAwayBegin .brake s
  | .ignition =>
    if active then (if s.store.cfg.ignitionRetract then protectiveRequest .ignition s else s) else ignitionOff s
  | .allStop => allStopChange active s
  | _ => limitRoleChange r active s

/-- The wake cause of a debounced change, if it is one (R162). [log 30, DEDUCED.] -/
def wakeCause (old s : State) (r : InRole) : Option PostureCause :=
  if r = .ignition ∧ roleActive s r ∧ !roleActive old r then some .ignition
  else if (pairOf r).any (fun p => effective s p && !effective old p) then some .pendant
  else none

/-- A terminal's debounced level takes its raw level (R162). -/
def takeLevel (t : Fin 16) (s : State) : State :=
  modTerm (fun u => { u with
    deb := u.deb.set t (u.raw.get t), timers := u.timers.set t none, flags := u.flags.set t true }) s
  |> signal .inputs

/-- A debounce timer expires with the raw level still differing (R162): wake causes first, then the consumers. [log 63, DESIGN CHOICE.] -/
def debounced (t : Fin 16) (s : State) : State :=
  let s1 := takeLevel t s
  match s.store.cfg.inputRole t with
  | none => s1
  | some r =>
    let s2 := match wakeCause s s1 r with
      | some c => wake c s1
      | none => s1
    let s3 := roleChange r (termActive s1 t) s2
    (pairOf r).foldl (fun u p => pendantDecode s u p) s3 |> trimMask

/-- A raw level is seen (R162): a timer starts, runs on or is cancelled. -/
def rawLevel (t : Fin 16) (high : Bool) (s : State) : State :=
  modTerm (fun u => { u with
    raw := u.raw.set t high,
    timers := u.timers.set t
      (if high = u.deb.get t then none
       else match u.timers.get t with
        | some x => some x
        | none => some (s.now + s.store.cfg.debounceMs t)) }) s

/-! ### Speed (R163) -/

/-- The pulses of the last 1000 ms, oldest first. -/
def recentPulses (s : State) : List Nat := s.term.pulses.filter (fun t => s.now < t + 1000)

/-- The moving indication changes (R163). -/
def setMoving (v : Bool) (s : State) : State :=
  if s.term.moving = v then s
  else
    let s1 := modTerm (fun u => { u with moving := v, speedFlag := true }) s |> signal .inputs
    if v then driveAwayBegin .speed s1 else s1

/-- A speed pulse of `width` ms arrives (R163). [log 50, DESIGN CHOICE.] -/
def speedPulse (width : Nat) (s : State) : State :=
  if s.store.cfg.speedAssigned && 2 ≤ width then
    let l := recentPulses s ++ [s.now]
    let s1 := modTerm (fun u => { u with pulses := l }) s
    if 2 < l.length then setMoving true s1 else s1
  else s

/-- The oldest pulses fall out of the last 1000 ms (R163). -/
def speedWindow (s : State) : State :=
  let l := recentPulses s
  let s1 := modTerm (fun u => { u with pulses := l }) s
  if l.length ≤ 2 then setMoving false s1 else s1

/-! ### Terminal map changes (R161, R168) -/

/-- A pendant role is engaged (R161). [log 32, DEDUCED.] -/
def engaged (s : State) (r : InRole) : Bool :=
  isPendant r && (chanOf s (pendantChannel r)).owner == some .pendant &&
    ((chanOf s (pendantChannel r)).state == .pending || runningOrStopping s (pendantChannel r))

/-- The terminal that an entry index below 64 belongs to. -/
def terminalOfEntry (i : Nat) : Fin 16 := ⟨(i / 4) % 16, Nat.mod_lt _ (by decide)⟩

/-- Storing `v` in TERMINALS entry `i` would touch an engaged pendant role (R161): take it from its terminal, change that
terminal, or give it to a terminal that does not hold it. [log 32, DEDUCED.] -/
def mapGated (s : State) (i : Nat) (v : Int) : Bool :=
  if 64 ≤ i ∨ s.store.cfg.entry .terminals i = v then false
  else
    (match s.store.cfg.inputRole (terminalOfEntry i) with
      | some r => engaged s r
      | none => false) ||
    (i % 4 == 0 && match InRole.ofCode v with
      | some r => engaged s r
      | none => false)

/-- The other entry of the same kind that holds role code `v`, for a role entry: the terminal the role is moved from. -/
def movedFrom (c : Cfg) (i : Nat) (v : Int) : Option Nat :=
  if v = 0 then none
  else if i < 64 then
    if i % 4 = 0 then
      ((List.range 16).map (fun t => 4 * t)).find? (fun k => k != i && c.entry .terminals k == v)
    else none
  else if 67 ≤ i ∧ (i - 67) % 2 = 0 then
    ((List.range 8).map (fun o => 67 + 2 * o)).find? (fun k => k != i && c.entry .terminals k == v)
  else none

/-- A reading that a map change moved is handed to the role's consumers, with the exceptions of R161. [log 33, DEDUCED.] -/
def mapReading (old : State) (s : State) (r : InRole) : State :=
  let was := roleActive old r
  let is_ := roleActive s r
  if was = is_ then s
  else match r with
    | .ignition => if is_ then s else ignitionOff s
    | .allStop => allStopChange is_ s
    | _ => limitRoleChange r is_ s

/-- Pendant roles that a map change makes active or effective are masked; those that read inactive leave the mask (R161). [log 30, DEDUCED.] -/
def maskMap (old : State) (s : State) : State :=
  modTerm (fun t => { t with
    mask := (t.mask ++ pendantRoles.filter (fun r =>
      ((roleActive s r && !roleActive old r) || (effective s r && !effective old r)) && !t.mask.contains r)) }) s
  |> trimMask

/-- SPEED unassigned: the pulse list is empty and the coach is not moving (R163). [log 31, DEDUCED.] -/
def speedAssignment (s : State) : State :=
  if s.store.cfg.speedAssigned then s else modTerm (fun t => { t with pulses := [], moving := false }) s

/-- A held pendant role whose effective state a map change makes inactive is handed on as any change: it releases (R161, R165). -/
def mapRelease (old : State) (s : State) (r : InRole) : State :=
  if effective old r && !effective s r then pendantDeactivate r s else s

/-- The terminal map has changed from that of `old`: every reading it moves is handed on (R161). -/
def mapChanged (old : State) (s : State) : State :=
  let s1 := allRoles.foldl (fun t r => mapReading old t r) (maskMap old (speedAssignment s))
  pendantRoles.foldl (fun t r => mapRelease old t r) s1

end Sys2Proof.Machine
end

