-- ==== Sys2Proof/Machine/Scanner.lean ====
section
/-! DEFINITION. The sensor scanner (R169 to R171) and what the samples do at the supply monitor (R146, R147, R150, R155), the manifold (R50, R52), the levelling engine and the stall judgements (R114, R129). -/

namespace Sys2Proof.Machine

/-! ### Jack samples (R61, R169, R170) -/

/-- A jack's record takes a scan's two readings (R170), and with the pressure the ground contact threshold `gc` of the moment
(R61); the flag that it sets or holds freezes stroke and pressure. [log 35, DEDUCED.] -/
def jackScanRec (gc now st pr : Nat) (q : JackRec) : JackRec :=
  if inBand st && inBand pr then
    if q.fault then { q with bandSince := some (q.bandSince.getD now) }
    else { q with stroke := scaleReading strokeSpan st, pressure := scaleReading pressureSpan pr, threshold := gc }
  else if q.fault then { q with bandSince := none }
  else { q with fault := true, bandSince := none, held := q.contact }

/-- A present jack takes its sample: its contact state is derived afresh, and a flag that sets queues POSTURE (R22, R61). -/
def jackSample (reads : Analog) (s : State) (j : Jack) : State :=
  if s.jackPresent j then
    let s1 := modJack j (jackScanRec s.store.cfg.groundContact s.now (reads.strokes.get j) (reads.pressures.get j)) s
    let s2 := if (jackOf s1 j).fault && !(jackOf s j).fault then signal .posture s1 else s1
    deriveContact j s2
  else s

/-- The first jack, in jack order, whose flag this scan set: the one that R82 names. [log 82, DEDUCED.] -/
def newlyFaulted (old s : State) : Option Jack :=
  (presentJacks s).find? (fun j => (jackOf s j).fault && !(jackOf old j).fault)

/-- The jack transducers of a scan (R169): samples, then the alert of a flag that sets (R170) and sensor loss (R82), then the
phase logic. -/
def scanJacks (reads : Analog) (s : State) : State :=
  let s1 := modScan (fun c => { c with strokes := reads.strokes, pressures := reads.pressures }) s
  let s2 := allJacks.foldl (jackSample reads) s1
  let s3 := match newlyFaulted s s2 with
    | some j => levelSensorLoss (.jacks [j]) (refreshAlerts s2)
    | none => s2
  levelReact s3

/-! ### Line pressure (R50, R51, R52) -/

/-- The deadhead indication is judged on a sample (R50, R51, R52). [log 34, DEDUCED.] -/
def judgeDeadhead (s : State) : State :=
  modMan (fun m => { m with
    deadhead :=
      if m.pump.on && !m.lineFault && s.store.cfg.relief ≤ m.line then some (m.deadhead.getD s.now) else none }) s

/-- The line-pressure sample of a scan (R52): while the flag is set, its alert is active and no HYDRAULIC room runs on. [log 34, DEDUCED.] -/
def scanLine (reading : Nat) (s : State) : State :=
  let s1 :=
    if inBand reading then
      modMan (fun m => { m with
        line := scaleReading pressureSpan reading,
        lineBandSince := if m.lineFault then some (m.lineBandSince.getD s.now) else none }) s
    else modMan (fun m => { m with lineFault := true, lineBandSince := none }) s
  let s2 := judgeDeadhead s1
  stallSample (if s2.man.lineFault then lineFaultEnds (refreshAlerts s2) else s2)

/-! ### Currents (R155, R114, R129) -/

/-- A trip timer takes a sample (R155): it starts above the trip current and is cleared at or below it. [log 20, DEDUCED.] -/
def tripTimer (s : State) (d : Driver) : Option Nat :=
  if !(s.mon.latches.get d).isSet && 10 * s.store.cfg.tripCurrent d < s.mon.currents.get d then
    some ((s.mon.tripSince.get d).getD s.now)
  else none

/-- A stall timer takes a sample (R114): current in 0.1 A, stall current in A. -/
def stallTimer (now limit current : Nat) (since : Option Nat) : Option Nat :=
  if 10 * limit ≤ current then some (since.getD now) else none

/-- The stall timer of a room end (R114). -/
def endStall (s : State) (r : Room) (e : Side) : State :=
  modEnd r e (fun q => { q with
    stallSince :=
      if isRunning s (.room r) && q.drive != .brake && !q.paused then
        stallTimer s.now (s.store.cfg.roomStall r) (s.mon.currents.get (.roomEnd r e)) q.stallSince
      else none }) s

/-- The supply monitor reads a driver's fault-sense line, and a latch that it frees clears by itself (R156). [log 44, DEDUCED.] -/
def readSense (s : State) (d : Driver) : State :=
  examineLatch d (modMon (fun m => { m with faultSense := m.faultSense.set d (m.senseLines.get d) }) s)

/-- The currents of a scan, with the fault-sense lines that are read at every current sample (R155, R156). [log 44, DEDUCED.] -/
def scanCurrents (c : PerDriver Nat) (s : State) : State :=
  let s1 := modMon (fun m => { m with currents := c }) s
  let s2 := allDrivers.foldl (fun t d => modMon (fun m => { m with tripSince := m.tripSince.set d (tripTimer s1 d) }) t) s1
  let s3 := allRooms.foldl (fun t r => endStall (endStall t r .endA) r .endB) s2
  let s4 := modAwn (fun a => { a with
    stallSince :=
      if isRunning s3 .awning && a.drive != .brake then
        stallTimer s3.now s3.store.cfg.awningStall c.awning a.stallSince
      else none }) s3
  allDrivers.foldl readSense s4

/-- The recorded channel of a driver that trips (R154). -/
def tripChannel (s : State) : Driver → Option Ch
  | .pump => s.man.pump.holder
  | .roomEnd r _ => some (.room r)
  | .awning => some .awning
  | .spare => none

/-- The driver is switched off (R155 step 1). -/
def driverOff (d : Driver) (s : State) : State :=
  match d with
  | .pump => pumpStop true s
  | .roomEnd r e => brakeEnd r e s
  | .awning => brakeAwning s
  | .spare => s

/-- A driver's latch sets (R155): driver off, record, termination, alert; then the latch is examined (R156). [log 20, DEDUCED.] -/
def trip (d : Driver) (s : State) : State :=
  let c := tripChannel s d
  let s1 := driverOff d s |> modMon (fun m => { m with
    latches := m.latches.set d { isSet := true, ch := c }, tripSince := m.tripSince.set d none })
  let s2 := match c with
    | some c => fail c .overcurrent (.driver d) s1
    | none => s1
  examineLatch d (refreshAlerts s2)

/-! ### Supply voltage (R146, R147, R150) -/

/-- One transition of the supply table, if a row applies (R147). -/
def supplyNext (avg : Nat) : Supply → Option Supply
  | .normal => if avg < 1140 then some .sag else none
  | .sag => if 1170 ≤ avg then some .normal else if avg < 1080 then some .brown else none
  | .brown => if 1110 ≤ avg then some .sag else none

/-- Entering BROWN aborts every RUNNING channel but an awning retract (R150). -/
def brownAborts (s : State) : State :=
  allChs.foldl (fun t c =>
    if c = .awning ∧ ((chanOf t c).op = some .retract ∨ (chanOf t c).op = some .autoRetract) then t
    else terminate c (.aborted .supply) t) s

/-- One transition with its effects (R147). -/
def supplyStep (avg : Nat) (s : State) : State :=
  match supplyNext avg s.mon.supply with
  | none => s
  | some v =>
    let s1 := modMon (fun m => { m with supply := v }) s |> refreshAlerts
    match v with
    | .brown => brownAborts s1
    | .normal => modSup (fun u => { u with scanDue := true }) s1
    | .sag => s1

/-- A supply sample enters the ring; with eight samples a new average is taken and the table applied until no row applies,
which two transitions always reach (R146, R147). -/
def supplySample (v : Nat) (s : State) : State :=
  let l := (min 2000 v :: s.mon.samples).take 8
  let s1 := modMon (fun m => { m with samples := l, sample := min 2000 v }) s
  if l.length < 8 then s1
  else
    let avg := l.sum / 8
    supplyStep avg (supplyStep avg (modMon (fun m => { m with avg := some avg }) s1))

/-- The analog scan in each power state (R169): everything in RUN, the supply alone in WATCH, nothing in SLEEP. Each
consumer's change is settled before the next channel is handed on. [log 4, DESIGN CHOICE.] -/
def analogScan (reads : Analog) (s : State) : State :=
  match s.power.state with
  | .run =>
    scanJacks reads s |> settle |> scanLine reads.line |> settle |> scanCurrents reads.currents
    |> supplySample reads.supply
  | .watch => supplySample reads.supply s
  | .sleep => s

/-! ### Sensor fault flags clear (R170) -/

/-- The in-band timer of a flag has run 1 s, in RUN (R170). -/
def bandOver (s : State) (since : Option Nat) : Bool :=
  s.power.state == .run && match since with
    | some t => t + 1000 ≤ s.now
    | none => false

/-- A jack's flag clears: the live values are handed on, and the contact state is derived from them (R61, R170). -/
def clearJackFlag (j : Jack) (s : State) : State :=
  modJack j (fun q => { q with
    fault := false, bandSince := none, stroke := scaleReading strokeSpan (s.scan.strokes.get j),
    pressure := scaleReading pressureSpan (s.scan.pressures.get j),
    threshold := s.store.cfg.groundContact }) s
  |> signal .posture |> deriveContact j |> levelReact

/-- The line-pressure flag clears (R52, R170). [log 34, DEDUCED.] -/
def clearLineFlag (s : State) : State :=
  modMan (fun m => { m with lineFault := false, lineBandSince := none }) s |> judgeDeadhead |> stallSample

/-! ### Switches -/

/-- A stowed switch changes (R61): the contact state is derived, and the running operation acts. -/
def stowedSwitch (j : Jack) (active : Bool) (s : State) : State :=
  modJack j (fun q => { q with stowed := active }) s |> deriveContact j |> levelReact

/-! ### Inclinometer (R171) -/

/-- The record of a good read (R171). [log 49, DESIGN CHOICE.] -/
def goodRead (r : RawGrad) (s : State) : State :=
  let z : Grad := ⟨s.store.cfg.pitchZero, s.store.cfg.rollZero⟩
  modScan (fun c => { c with grad := {
    reading := some (correctRead z ⟨clampInt (-1000) 1000 r.pitch, clampInt (-1000) 1000 r.roll⟩),
    stale := false, valid := true, failures := 0 } }) s

/-- The record of a failed read (R171): the first three mark it stale, and the fourth makes it INVALID. -/
def failedRead (s : State) : State :=
  modScan (fun c => { c with grad := { c.grad with
    stale := c.grad.stale || c.grad.failures < 3, failures := min 4 (c.grad.failures + 1),
    valid := c.grad.valid && c.grad.failures + 1 < 4 } }) s

/-- The entry of the settle window that the latest read gives. -/
def readEntry (s : State) : List RingEntry :=
  match s.scan.grad.reading with
  | some q => [⟨q.cor, q.raw, q.sat⟩]
  | none => []

/-- An inclinometer poll in RUN (R171): a good read enters the settle window (R70) and every poll reaches drift watch
(R83); the gradient becoming invalid ends a levelling run (R82). -/
def inclinometerPoll (read : Option RawGrad) (s : State) : State :=
  if s.power.state ≠ .run then s
  else match read with
    | some r =>
      let s1 := goodRead r s
      (readEntry s1).foldl (fun t e => pushRing e t) s1 |> settleCheck |> driftPoll
    | none =>
      let s1 := refreshAlerts (failedRead s)
      (if s.scan.grad.failures = 3 then levelSensorLoss .none s1 else s1) |> driftPoll

end Sys2Proof.Machine
end

