-- ==== Sys2Proof/Machine/Store.lean ====
section
/-! DEFINITION. The settings store: SET with its effects at the owners (R186 and the owners' chapters), LOAD_DEFAULTS (R188), SAVE and the memory jobs (R187, R189). -/

namespace Sys2Proof.Machine

/-! ### Presence and fresh records (R1, R46, R60, R101, R125) -/

/-- A room's record in the fresh state (R101); the in-switch keeps its level. -/
def freshRoomRec (q : RoomRec) : RoomRec := { inSwitch := q.inSwitch }

/-- The limit switches are applied once to a room's fresh record (R101, R105, R57). -/
def applySwitches (r : Room) (s : State) : State :=
  if kindOf s r = .hydraulic then applyLimits r false s
  else if (roomOf s r).inSwitch then roomHome r s else s

/-- A fresh record of status UNKNOWN and confidence UNCERTAIN is taken (R101, R125): POSTURE is queued, POSITION_UNCERTAIN
becomes active, and the interlock items that it changes are evaluated (R28), before its switches are applied. [log 8, DEDUCED; log 27, DEDUCED.] -/
def takeFresh (s : State) : State := signal .posture s |> snapshotOnRest |> refreshAlerts |> sweep

/-- A present room takes the fresh state (R101): R46 watches it, its changes are taken, and then the switches are applied.
[log 27, DEDUCED.] -/
def freshRoom (r : Room) (s : State) : State :=
  let s1 := putCfg .learned (8 + r.idx) 0 s |> putCfg .learned (endCoastIdx r .endA) 0
    |> putCfg .learned (endCoastIdx r .endB) 0 |> modRoom r freshRoomRec
  if s1.present (.room r) then
    closeOnRetract s1 |> takeFresh |> applySwitches r
  else s1

/-- A room's channel becomes absent (R1, R101). [log 53, DESIGN CHOICE.] -/
def roomAbsent (r : Room) (s : State) : State := modRoom r freshRoomRec s |> becomeAbsent (.room r)

/-- The awning takes a fresh record (R125): its changes are taken, and then the in-switch is applied once (R127).
[log 27, DEDUCED.] -/
def freshAwning (s : State) : State :=
  let s1 := modAwn (fun a => { inSwitch := a.inSwitch, lastAuto := a.lastAuto }) s |> takeFresh
  if s1.awn.inSwitch then awnHome s1 else s1

/-- The AWNING channel becomes absent (R1, R125). [log 53, DESIGN CHOICE.] -/
def awningAbsent (s : State) : State :=
  modAwn (fun a => { inSwitch := a.inSwitch }) s |> becomeAbsent .awning

/-- The record of a jack position that becomes present, from its latest converter readings (R60). [log 22, DEDUCED; log 57, DESIGN CHOICE.] -/
def freshJackRec (s : State) (j : Jack) : JackRec :=
  jackScanRec s.store.cfg.groundContact s.now (s.scan.strokes.get j) (s.scan.pressures.get j) { stowed := (jackOf s j).stowed }

/-- A jack position follows a change of presence (R60, R89): fresh with its contact state derived, or absent. [log 22, DEDUCED; log 27, DEDUCED; log 53, DESIGN CHOICE.] -/
def jackPresence (old : State) (s : State) (j : Jack) : State :=
  if s.jackPresent j && !old.jackPresent j then
    modJack j (fun _ => freshJackRec s j) s |> signal .posture |> deriveContact j
  else if !s.jackPresent j && old.jackPresent j then
    modJack j (fun q => { stowed := q.stowed }) s |> setJackValve j false
  else s

/-- The LEVEL channel and the jack positions follow the configuration and the marking (R1, R89). [log 26, DEDUCED.] -/
def levelPresence (old s : State) : State :=
  let s1 := allJacks.foldl (jackPresence old) s
  if old.present .level && !s1.present .level then becomeAbsent .level s1
  else if !old.present .level && s1.present .level then signal (.chan .level) s1
  else s1

/-! ### What a stored entry does at its owner -/

/-- A stored ROOMS entry (R7, R101). [log 21, DEDUCED.] -/
def roomsStored (i : Nat) (old s : State) : State :=
  if i = 0 then modSup (fun u => { u with scanDue := true }) s
  else
    let r := roomOfIdx ((i - 1) / 8)
    if (i - 1) % 8 = 0 then
      if s.store.cfg.roomFitted r && !old.store.cfg.roomFitted r then freshRoom r (signal (.chan (.room r)) s)
      else if !s.store.cfg.roomFitted r && old.store.cfg.roomFitted r then roomAbsent r s
      else s
    else if (i - 1) % 8 = 1 ∧ s.store.cfg.roomEntry r 1 ≠ old.store.cfg.roomEntry r 1 then freshRoom r s
    else s

/-- A stored AWNING entry (R125). [log 21, DEDUCED.] -/
def awningStored (i : Nat) (old s : State) : State :=
  if i ≠ 0 then s
  else if s.store.cfg.awningFitted && !old.store.cfg.awningFitted then freshAwning (signal (.chan .awning) s)
  else if !s.store.cfg.awningFitted && old.store.cfg.awningFitted then awningAbsent s
  else s

/-- A stored WIND entry (R143). [log 21, DEDUCED.] -/
def windStored (i : Nat) (old s : State) : State :=
  if i ≠ 0 then s
  else if s.store.cfg.windFitted && !old.store.cfg.windFitted then startBinClock s
  else if !s.store.cfg.windFitted && old.store.cfg.windFitted then clearWind s
  else s

/-- Every waiting entry that has waited longer than the wait timeout leaves at once (R12). -/
def expireWaiting (s : State) : State :=
  s.sup.queue.foldl (fun t e => if waitOver t e.ch then cancel e.ch .waitExpired t else t) s

/-- A stored REPORTING entry (R177, R180). [log 60, DESIGN CHOICE; log 78, DESIGN CHOICE.] -/
def reportingStored (i : Nat) (s : State) : State :=
  if i < 10 then
    match Source.ofCode i with
    | some x => if s.store.cfg.sourceEnabled x then s else dropSource x s
    | none => s
  else if i < 22 then s
  else startTelemetryTimer (dropSource .telemetry s)

/-- What a stored entry does at its owner; `old` is the state before the SET. -/
def entryStored (g : Group) (i : Nat) (old s : State) : State :=
  match g with
  | .geometry => if i = 0 then levelPresence old s else s
  | .rooms => roomsStored i old s
  | .awning => awningStored i old s
  | .wind => windStored i old s
  | .interlock => if i = 25 then expireWaiting s else s
  | .terminals => mapChanged old s
  | .reporting => reportingStored i s
  | _ => s

/-! ### SET (R186, R194) -/

/-- The SET's gate is closed (R186 step 1, R151, R161). -/
def setGated (s : State) (g : Group) (i : Nat) (e : EntrySpec) (v : Int) : Bool :=
  (match e.owner with
    | some c => (chanOf s c).state == .pending || runningOrStopping s c
    | none => false) ||
  (g == .supply && i < 7 && !(allAtRest s && s.sup.queue.isEmpty)) ||
  (g == .terminals && mapGated s i (storedValue g i e v))

/-- The value is stored; a role held by another terminal leaves it (R161). -/
def storeEntry (g : Group) (i : Nat) (v : Int) (s : State) : State :=
  let s1 := match g with
    | .terminals => match movedFrom s.store.cfg i v with
      | some k => putCfg .terminals k 0 s
      | none => s
    | _ => s
  entryStored g i s (putCfg g i v s1)

/-- The outcome of a SET. -/
inductive SetOutcome where
  | bad | busy
  | stored (v : Int) (absent clamped moved : Bool)
  deriving DecidableEq, Repr

/-- A SET (R186). [log 39, DEDUCED.] -/
def setRequest (gc ic : Byte) (value : BitVec 32) (s : State) : SetOutcome × State :=
  match Group.ofCode gc.toNat with
  | none => (.bad, s)
  | some g =>
    match entrySpec g ic.toNat with
    | none => (.bad, s)
    | some e =>
      let v := value.toInt
      if !codeAllowed e v then (.bad, s)
      else if setGated s g ic.toNat e v then (.busy, s)
      else
        let w := storedValue g ic.toNat e v
        (.stored w (e.zeroAbsent && w == 0) (w != v)
          (g == .terminals && (movedFrom s.store.cfg ic.toNat w).isSome), storeEntry g ic.toNat w s)

/-- What a GET answers: value, minimum, maximum and default, with absence (R185). -/
structure GetAnswer where
  value : Int
  lo : Int
  hi : Int
  dflt : Int
  zeroAbsent : Bool
  deriving DecidableEq, Repr

/-- A GET (R185). -/
def getRequest (gc ic : Byte) (s : State) : Option GetAnswer :=
  match Group.ofCode gc.toNat with
  | none => none
  | some g =>
    match entrySpec g ic.toNat with
    | none => none
    | some e => some ⟨s.store.cfg.entry g ic.toNat, e.lo, e.hi, e.dflt, e.zeroAbsent⟩

/-! ### LOAD_DEFAULTS and SAVE (R187, R188) -/

/-- The part is at rest: every present channel IDLE or FAULTED and the start queue empty. -/
def atRest (s : State) : Bool := allAtRest s && s.sup.queue.isEmpty

/-- LOAD_DEFAULTS when taken (R188): the table and the marking, then the effects at every owner. [log 26, DEDUCED; log 46, DEDUCED.] -/
def loadDefaults (s : State) : State :=
  let s1 := modStore (fun t => { t with cfg := Cfg.default, marking := .default }) s
  let s2 := levelPresence s s1
  let s3 := allRooms.foldl (fun t r => if s.present (.room r) then roomAbsent r t else modRoom r freshRoomRec t) s2
  let s4 := if s.present .awning then awningAbsent s3 else s3
  let s5 := if s.store.cfg.windFitted then clearWind s4 else s4
  startTelemetryTimer (dropSource .telemetry (mapChanged s s5)) |> signal .store

/-- A SAVE when accepted (R187): the table is copied into an image whose write waits its turn. -/
def beginSave (s : State) : State :=
  modStore (fun t => { t with saving := true, waiting := t.waiting ++ [.image t.cfg] }) s

/-! ### Memory jobs (R187, R189) -/

/-- The contents of the posture snapshot (R189). [log 74, DESIGN CHOICE.] -/
def captureSnapshot (s : State) : Snapshot where
  rooms := ⟨s.rooms.a.status, s.rooms.b.status, s.rooms.c.status, s.rooms.d.status⟩
  counts :=
    let f := fun (q : RoomRec) => (⟨q.ends.endA.count, q.ends.endB.count⟩ : PerSide Int)
    ⟨f s.rooms.a, f s.rooms.b, f s.rooms.c, f s.rooms.d⟩
  assumed :=
    let f := fun (q : RoomRec) => (⟨q.ends.endA.assumed, q.ends.endB.assumed⟩ : PerSide Nat)
    ⟨f s.rooms.a, f s.rooms.b, f s.rooms.c, f s.rooms.d⟩
  awning := s.awn.status
  awnCount := s.awn.count
  awnAssumed := s.awn.assumed
  level := s.lev.status

/-- The oldest waiting job begins when none is in progress. An image write begun leaves a partial image in the memory
until it ends, and a snapshot write begun leaves the memory's marker clear until its last step (R187, R189). [log 3, DESIGN CHOICE.] -/
def startJob (s : State) : State :=
  match s.store.job, s.store.waiting with
  | none, .image c :: l => modStore (fun t => { t with job := some (.image c), waiting := l, image := none }) s
  | none, .markerClear :: l => modStore (fun t => { t with job := some .markerClear, waiting := l }) s
  | none, .snapshot _ :: l =>
    modStore (fun t => { t with job := some (.snapshot (some (captureSnapshot s))), waiting := l, snapMark := false }) s
  | _, _ => s

/-- The image write ends (R187). [log 3, DESIGN CHOICE.] -/
def imageWritten (c : Cfg) (ok : Bool) (s : State) : State :=
  if ok then
    let s1 := modStore (fun t => { t with
      job := none, saving := false, lastSave := some .ok, image := some c, marking := .stored, storeFault := false }) s
    levelPresence s s1 |> signal .store
  else
    modStore (fun t => { t with job := none, saving := false, lastSave := some .fault, storeFault := true }) s
    |> signal .store

/-- A snapshot job fails (R187, R189). [log 62, DESIGN CHOICE.] -/
def snapshotJobFailed (s : State) : State :=
  modStore (fun t => { t with job := none, snapFailed := true, storeFault := true }) s |> signal .store

/-- The marker clear ends (R189). [log 3, DESIGN CHOICE; log 62, DESIGN CHOICE.] -/
def markerCleared (ok : Bool) (s : State) : State :=
  if ok then modStore (fun t => { t with job := none, snapMark := false, snapFailed := false }) s
  else snapshotJobFailed s

/-- The snapshot write ends; its last step sets the marker (R189). [log 3, DESIGN CHOICE.] -/
def snapshotWritten (c : Snapshot) (ok : Bool) (s : State) : State :=
  if ok then modStore (fun t => { t with job := none, snap := c, snapMark := true, snapFailed := false }) s
  else snapshotJobFailed s

end Sys2Proof.Machine
end

