-- ==== Sys2Proof/Machine/StartUp.lean ====
section
/-! DEFINITION. Resets and start-up (R192), with the building of the posture from the snapshot (R57, R60, R64, R106, R127) and the first evaluations (R33, R181). -/

namespace Sys2Proof.Machine

/-! ### Resets (R192) -/

/-- A reset: every block takes its reset values and start-up begins; the external memory, the model's clock and the
waiting commands are kept, and jobs and unsent replies are lost. [log 38, DEDUCED.] -/
def resetPart (cause : ResetCause) (s : State) : State :=
  { State.reset with
    now := s.now, pending := s.pending,
    store := { State.reset.store with image := s.store.image, snap := s.store.snap, snapMark := s.store.snapMark },
    power := { state := .run, resetCause := cause, startingUp := true } }

/-! ### Step 1 and step 2 (R192): settings and marker -/

/-- The settings image is read. [log 3, DESIGN CHOICE.] -/
def readSettings (answers : Bool) (s : State) : State :=
  if answers then
    match s.store.image with
    | some c => modStore (fun t => { t with cfg := c, marking := .stored }) s
    | none => modStore (fun t => { t with cfg := Cfg.default, marking := .default, storeFault := true }) s
  else modStore (fun t => { t with cfg := Cfg.default, marking := .default }) s

/-- The snapshot area is read: the marker state. [log 3, DESIGN CHOICE.] -/
def readMarker (answers : Bool) (s : State) : State :=
  modStore (fun t => { t with markerClean := answers && t.snapMark }) s

/-! ### Step 3: the first scan, poll and levels -/

/-- Every line's first level and the converter readings (R162, R169). -/
def firstLevels (reads : StartUpReads) (s : State) : State :=
  let stow := allJacks.foldl (fun t j => modJack j (fun q => { q with stowed := reads.stowed.get j }) t) s
  let rooms := allRooms.foldl (fun t r => modRoom r (fun q => { q with inSwitch := reads.roomIn.get r }) t) stow
  modAwn (fun a => { a with inSwitch := reads.awningIn }) rooms
  |> modTerm (fun u => { u with raw := reads.inputs, deb := reads.inputs })
  |> modScan (fun c => { c with strokes := reads.scan.strokes, pressures := reads.scan.pressures })
  |> modMon (fun m => { m with faultSense := reads.faultSense, senseLines := reads.faultSense })

/-- The first inclinometer poll (R171). -/
def firstPoll (read : Option RawGrad) (s : State) : State :=
  match read with
  | some r => (readEntry (goodRead r s)).foldl (fun t e => pushRing e t) (goodRead r s)
  | none => failedRead s

/-! ### Step 4: the posture -/

/-- The jack records (R60): stroke, pressure and switch from the first scan, and the contact state derived. [log 57, DESIGN CHOICE.] -/
def buildJacks (s : State) : State :=
  (presentJacks s).foldl (fun t j =>
    let q := freshJackRec t j
    modJack j (fun _ => { q with contact := derivedContact q }) t) s

/-- The level status (R64). -/
def buildLevel (s : State) : State :=
  let v := s.store.snap.level
  let kept := s.store.markerClean && (v == .levelled || v == .limited || v == .stabilised || v == .disturbed) &&
    allGround s
  modLev (fun l => { l with status := if kept then v else restStatus s }) s

/-- A room's record from the snapshot, before its switches are applied (R57, R106). [log 37, DEDUCED.] -/
def restoredRoom (s : State) (r : Room) : RoomRec :=
  let p := s.store.snap
  let z : RoomRec := { inSwitch := (roomOf s r).inSwitch }
  if s.store.markerClean then
    let elec := kindOf s r != .hydraulic
    let known := p.rooms.get r != .unknown
    let e := fun (x : Side) => ({
      count := if elec && known then (p.counts.get r).get x else 0,
      assumed := if elec then (p.assumed.get r).get x else 0 } : EndRec)
    { z with
      status := p.rooms.get r, conf := if known then .restored else .uncertain, ends := ⟨e .endA, e .endB⟩ }
  else z

/-- A present room takes its record from the snapshot (R57, R106). -/
def restoreRoom (s : State) (r : Room) : State :=
  if s.present (.room r) then modRoom r (fun _ => restoredRoom s r) s else s

/-- The awning takes its record from the snapshot, before its in-switch is applied (R127). [log 37, DEDUCED.] -/
def restoreAwning (s : State) : State :=
  if s.present .awning then
    let p := s.store.snap
    let known := p.awning != .unknown
    modAwn (fun a =>
      let z : AwnRec := { inSwitch := a.inSwitch }
      if s.store.markerClean then
        { z with
          status := p.awning, conf := if known then .restored else .uncertain,
          count := if known then p.awnCount else 0, assumed := p.awnAssumed }
      else z) s
  else s

/-- A present room's limits or in-switch are applied once to its restored record (R57, R106). -/
def firstSwitches (s : State) (r : Room) : State :=
  if !s.present (.room r) then s
  else if kindOf s r = .hydraulic then applyLimits r s.store.markerClean s
  else if (roomOf s r).inSwitch then roomHome r s
  else if (roomOf s r).status = .pin then setRoomStat r .part (roomOf s r).conf s
  else s

/-- The awning's in-switch is applied once to its restored record (R127). -/
def firstAwningSwitch (s : State) : State :=
  if !s.present .awning then s
  else if s.awn.inSwitch then awnHome s
  else if s.awn.status = .pin then setAwnStat .part s.awn.conf s
  else s

/-- The posture is built (R192 step 4). A room or awning that its record leaves UNCERTAIN raises POSITION_UNCERTAIN, and the
switches and limits are then applied (R57, R106, R127). Building the posture is no change of it: it queues no POSTURE and
requests no snapshot. [log 36, DEDUCED; log 68, DEDUCED.] -/
def buildPosture (s : State) : State :=
  let t := restoreAwning (allRooms.foldl restoreRoom (buildLevel (buildJacks s)))
  let u := setAlertCond .positionUncertain (somePositionUncertain t) { t with link := s.link, store := s.store }
  let v := firstAwningSwitch (allRooms.foldl firstSwitches u)
  { v with link := u.link, store := u.store }

/-! ### Step 5 and step 6: first evaluations and the link -/

/-- The start-up evaluation of the drive-away condition (R33). [log 52, DEDUCED.] -/
def driveAwayAtStart (s : State) : State :=
  if !travelReady s && ((roleAssigned s .brake && !roleActive s .brake) || s.term.moving) then
    modSup (fun u => { u with driveAway := true }) s
  else s

/-- The wake or reset cause of a reset (R177). -/
def resetPosture : ResetCause → PostureCause
  | .powerOn => .powerOn
  | .pin => .pin
  | .request => .request

/-- The supply samples of start-up (R146): the first scan's and the seven that follow it. [log 51, DEDUCED.] -/
def startUpSamples (reads : StartUpReads) : List Nat := reads.scan.supply :: reads.moreSupply.take 7

/-- Start-up ends (R192 steps 1 to 6). [log 9, DESIGN CHOICE; log 30, DEDUCED; log 51, DEDUCED; log 52, DEDUCED; log 68, DEDUCED.] -/
def startUp (reads : StartUpReads) (s : State) : State :=
  let s1 := readSettings reads.settingsAnswer s |> readMarker reads.snapshotAnswer
    |> firstLevels reads |> firstPoll reads.poll
  let s2 := modTerm (fun u => { u with mask := pendantRoles.filter (fun r => roleActive s1 r) }) s1
    |> modPower (fun p => { p with startingUp := false }) |> queuePosture (resetPosture s.power.resetCause)
  let s3 := buildPosture s2
  let s4 := scanLine reads.scan.line s3 |> scanCurrents reads.scan.currents
  let s5 := (startUpSamples reads).foldl (fun t v => supplySample v t) s4
  let s6 := if s5.store.cfg.windFitted then startBinClock s5 else s5
  startTelemetryTimer (driveAwayAtStart s6) |> modLink (fun l => { l with rx := .hunt })

end Sys2Proof.Machine
end

