-- ==== Sys2Proof/Machine/Formats.lean ====
section
/-! DEFINITION. The byte layouts of chapter 12: frames and CHECK (12.1), requests (12.2, R194), replies (12.2), reports (12.3), and the codes of 12.4. -/

namespace Sys2Proof.Machine

/-! ### Fields -/

def byteOf (n : Nat) : Byte := BitVec.ofNat 8 n
def bitByte (b : Bool) : Byte := if b then 1 else 0

/-- The bytes of a vector, least significant first. -/
def leBytes (k : Nat) (v : BitVec (8 * k)) : List Byte := (List.range k).map (fun i => v.extractLsb' (8 * i) 8)

def u16 (n : Nat) : List Byte := leBytes 2 (BitVec.ofNat 16 n)
def u32 (n : Nat) : List Byte := leBytes 4 (BitVec.ofNat 32 n)
def s16 (i : Int) : List Byte := leBytes 2 (BitVec.ofInt 16 i)
def s32 (i : Int) : List Byte := leBytes 4 (BitVec.ofInt 32 i)

/-- An optional one-byte field. -/
def opt8 : Option Nat → Byte
  | some n => byteOf n
  | none => 0xFF

/-- An optional unsigned two-byte field. -/
def opt16 : Option Nat → List Byte
  | some n => u16 n
  | none => [0xFF, 0xFF]

/-- An optional signed two-byte field. -/
def optS16 : Option Int → List Byte
  | some i => s16 i
  | none => [0x00, 0x80]

/-- An optional four-byte field. -/
def optS32 : Option Int → List Byte
  | some i => s32 i
  | none => [0x00, 0x00, 0x00, 0x80]

/-- A byte with bit `i` as the `i`th of the list. -/
def bitsByte (l : List Bool) : Byte := byteOf (l.foldr (fun b n => 2 * n + b.toNat) 0)

/-- Two bytes with bit `i` as the `i`th of the list. -/
def bitsHalf (l : List Bool) : List Byte := u16 (l.foldr (fun b n => 2 * n + b.toNat) 0)

/-- Four bytes with bit `i` as the `i`th of the list. -/
def bitsWord (l : List Bool) : List Byte := u32 (l.foldr (fun b n => 2 * n + b.toNat) 0)

/-! ### Codes (12.4) -/

def ChState.code : ChState → Nat
  | .idle => 0
  | .pending => 1
  | .running => 2
  | .stopping => 3
  | .faulted => 4

def Owner.code : Owner → Nat
  | .link => 0
  | .pendant => 1
  | .automatic => 2

def Waiting.code : Waiting → Nat
  | .conflict => 0
  | .pump => 1
  | .current => 2

def AutoCause.code : AutoCause → Nat
  | .wind => 0
  | .driveAway => 1
  | .ignition => 2

def Item.code : Item → Nat
  | .brake => 16
  | .parkGear => 17
  | .ignition => 18
  | .speed => 19
  | .allRoomsIn => 20
  | .jackContact => 21
  | .awningClear => 22
  | .roomMoving => 23
  | .wind => 24

def AbortCause.code : AbortCause → Nat
  | .item i => i.code
  | .supply => 25
  | .awningConflict => 26

def CancelDetail.code : CancelDetail → Nat
  | .waitExpired => 1
  | .released => 2
  | .interlock => 3
  | .stop => 4

def FaultKind.code : FaultKind → Nat
  | .noGround => 32
  | .stall => 33
  | .excessSlope => 34
  | .sensor => 35
  | .notStowed => 36
  | .pumpTime => 37
  | .rack => 38
  | .hall => 39
  | .noHome => 40
  | .obstruction => 41
  | .learnRange => 42
  | .travelTime => 43
  | .overcurrent => 44

def Term.code : Term → Nat
  | .normal => 0
  | .limited => 1
  | .stopped => 2
  | .released => 3
  | .cancelled _ => 4
  | .aborted _ => 5
  | .abnormal _ => 6

/-- The detail or cause of a termination. -/
def Term.detail : Term → Option Nat
  | .cancelled d => some d.code
  | .aborted c => some c.code
  | .abnormal f => some f.kind.code
  | _ => none

/-- The fault subject (12.3). -/
def Subject.byte : Subject → Option Nat
  | .none => Option.none
  | .jacks l => some ((l.map (fun j => 2 ^ j.idx)).sum)
  | .side e => some e.idx
  | .driver d => some d.idx

def Status.code : Status → Nat
  | .ok => 0
  | .accepted => 1
  | .refused => 2
  | .busy => 3
  | .badRequest => 4
  | .already => 5

def Reason.code : Reason → Nat
  | .absent => 1
  | .interlock => 2
  | .holdRequired => 3
  | .faulted => 4
  | .notConfigured => 5
  | .uncertainPosition => 6
  | .windHold => 7
  | .awningNotIn => 8
  | .notRunning => 9
  | .notHeld => 10
  | .tooLate => 11
  | .autoSafety => 12
  | .stillActive => 13
  | .allStopHeld => 14
  | .noSensor => 15

def LevelStatus.code : LevelStatus → Nat
  | .unlevelled => 0
  | .stabilised => 1
  | .levelled => 2
  | .limited => 3
  | .disturbed => 4
  | .manual => 5

def Pos.code : Pos → Nat
  | .pin => 0
  | .pout => 1
  | .part => 2
  | .unknown => 3

def Conf.code : Conf → Nat
  | .known => 0
  | .restored => 1
  | .uncertain => 2

def Contact.code : Contact → Nat
  | .stowed => 0
  | .air => 1
  | .ground => 2

def Supply.code : Supply → Nat
  | .normal => 0
  | .sag => 1
  | .brown => 2

def PowerState.code : PowerState → Nat
  | .run => 0
  | .watch => 1
  | .sleep => 2

def ResetCause.code : ResetCause → Nat
  | .powerOn => 0
  | .pin => 1
  | .request => 2

def PostureCause.code : PostureCause → Nat
  | .powerOn => 0
  | .pin => 1
  | .request => 2
  | .link => 3
  | .ignition => 4
  | .pendant => 5
  | .wind => 6

def Marking.code : Marking → Nat
  | .stored => 0
  | .default => 1

def Kind.code : Kind → Nat
  | .twin => 0
  | .single => 1
  | .hydraulic => 2

def DirValve.code : DirValve → Nat
  | .rest => 0
  | .extend => 1
  | .retract => 2

/-- The place of a phase in R67's list. -/
def Phase.place : Phase → Nat
  | .none => 0
  | .ground => 1
  | .settle => 2
  | .plan => 3
  | .lift => 4
  | .measure => 5
  | .trim => 6
  | .stow => 7
  | .jog => 8

/-- The place of a drive in R102's list. -/
def Drive.place : Drive → Nat
  | .dout => 0
  | .din => 1
  | .brake => 2

/-- The place of a run state in R41's list. -/
def RunState.place : RunState → Nat
  | .none => 0
  | .on => 1
  | .resting => 2

/-- The place of an outcome in R67's list. -/
def PlanOutcome.place : PlanOutcome → Nat
  | .levelled => 0
  | .limited => 1
  | .stabilised => 2

/-! ### Frames (12.1, R193) -/

/-- CHECK: the value that makes the sum of LENGTH, KIND, TAG, payload and CHECK 0 modulo 256. -/
def checkByte (body : List Byte) : Byte := -(body.foldl (fun a b => a + b) 0)

/-- A whole frame. -/
def frame (kind tag : Byte) (payload : List Byte) : List Byte :=
  let body := byteOf payload.length :: kind :: tag :: payload
  Config.sync :: body ++ [checkByte body]

/-- CHECK matches the fields from LENGTH to the end of the payload (R174). -/
def checkOk (afterSync : List Byte) : Bool := afterSync.foldl (fun a b => a + b) (0 : Byte) == 0

/-! ### Requests (12.1, 12.2, R194) -/

/-- The kind code of a request. -/
def Req.kind : Req → Byte
  | .start _ _ _ _ => 0x01
  | .hold _ => 0x02
  | .stop _ => 0x03
  | .clear _ => 0x04
  | .readInputs => 0x05
  | .setLinkOutputs _ => 0x06
  | .readSupply => 0x07
  | .get _ _ => 0x08
  | .set _ _ _ => 0x09
  | .save => 0x0A
  | .loadDefaults => 0x0B
  | .enterWatch => 0x0C
  | .enterSleep => 0x0D
  | .resetPart => 0x0E
  | .pauseReports => 0x0F
  | .resumeReports => 0x10
  | .requestReport _ => 0x11
  | .ackAlert _ => 0x12
  | .getIdentity => 0x13
  | .bad k => k

/-- The payload of a request (12.2). A request that cannot be decoded is given none. -/
def Req.payload : Req → List Byte
  | .start c o h v =>
    [byteOf c.code, byteOf o.code, bitByte h, v.extractLsb' 0 8, v.extractLsb' 8 8]
  | .hold c => [byteOf c.code]
  | .stop c => [byteOf c.code]
  | .clear c => [byteOf c.code]
  | .setLinkOutputs m => [m]
  | .get g i => [g, i]
  | .set g i v => [g, i, v.extractLsb' 0 8, v.extractLsb' 8 8, v.extractLsb' 16 8, v.extractLsb' 24 8]
  | .requestReport x => [byteOf x.code]
  | .ackAlert m => [m.extractLsb' 0 8, m.extractLsb' 8 8]
  | _ => []

/-- The frame of a request. -/
def encodeRequest (tag : Byte) (q : Req) : List Byte := frame q.kind tag q.payload

/-- A START lies within its encoding (12.2, R194). -/
def startEncoded (c : Ch) (o : Op) (operand : Half) : Bool :=
  opOfChannel c o && o != .autoRetract && match o with
    | .jog => operand.toNat % 256 ≤ 10 && operand.toNat / 256 ≤ 1
    | .extend => if c = .awning then operand.toNat ≤ 800 else operand == 0
    | _ => operand == 0

/-- The request's fields lie within their encodings (R194). The group, index and code of a GET or a SET are judged by the
settings store's tables. -/
def Req.encoded : Req → Bool
  | .start c o _ v => startEncoded c o v
  | .setLinkOutputs m => m.toNat < 8
  | .ackAlert m => m != 0 && m.toNat < 4096
  | .bad _ => false
  | _ => true

/-- A START's payload (12.2). -/
def decodeStart (ch op fl lo hi : Byte) : Req :=
  match Ch.ofCode ch.toNat, Op.ofCode op.toNat with
  | some c, some o => if fl.toNat < 2 then .start c o (fl == 1) (hi ++ lo) else .bad 0x01
  | _, _ => .bad 0x01

/-- A one-byte channel payload. -/
def decodeChannel (kind ch : Byte) (f : Ch → Req) : Req :=
  match Ch.ofCode ch.toNat with
  | some c => f c
  | none => .bad kind

/-- A well-formed frame's KIND and payload are decoded (R175, R194). -/
def decodeRequest (kind : Byte) (payload : List Byte) : Req :=
  match kind.toNat, payload with
  | 0x01, [ch, op, fl, lo, hi] => decodeStart ch op fl lo hi
  | 0x02, [ch] => decodeChannel kind ch Req.hold
  | 0x03, [ch] => decodeChannel kind ch Req.stop
  | 0x04, [ch] => decodeChannel kind ch Req.clear
  | 0x05, [] => .readInputs
  | 0x06, [m] => .setLinkOutputs m
  | 0x07, [] => .readSupply
  | 0x08, [g, i] => .get g i
  | 0x09, [g, i, b0, b1, b2, b3] => .set g i (b3 ++ b2 ++ b1 ++ b0)
  | 0x0A, [] => .save
  | 0x0B, [] => .loadDefaults
  | 0x0C, [] => .enterWatch
  | 0x0D, [] => .enterSleep
  | 0x0E, [] => .resetPart
  | 0x0F, [] => .pauseReports
  | 0x10, [] => .resumeReports
  | 0x11, [x] => match Source.ofCode x.toNat with
    | some y => .requestReport y
    | none => .bad kind
  | 0x12, [lo, hi] => .ackAlert (hi ++ lo)
  | 0x13, [] => .getIdentity
  | _, _ => .bad kind

/-! ### Replies (12.2) -/

/-- The reply kind of a request's KIND; a KIND that is no request kind has a free value (log 7). -/
def replyKind (kind : Byte) : Byte :=
  if 1 ≤ kind.toNat ∧ kind.toNat ≤ 0x13 then kind + 0x80 else Config.badKindReply kind

/-- The four bytes that open every reply payload. -/
def replyHead (st : Status) (r : Option Reason) (i : Option Item) (clamped moved absent : Bool) : List Byte :=
  [byteOf st.code, (match r with | some r => byteOf r.code | none => 0), opt8 (i.map Item.code),
   bitsByte [clamped, moved, absent]]

/-- A reply's head without flags. -/
def plainReply (st : Status) : List Byte := replyHead st none none false false false

/-- The head that answers a verdict. -/
def Verdict.payload : Verdict → List Byte
  | .accepted => plainReply .accepted
  | .ok => plainReply .ok
  | .already => plainReply .already
  | .busy => plainReply .busy
  | .deferred => plainReply .accepted
  | .refused r i => replyHead .refused (some r) (if r = .interlock then i else none) false false false

/-- The reply to a GET. -/
def GetAnswer.payload (g : GetAnswer) : List Byte :=
  let f := fun (v : Int) => optS32 (if g.zeroAbsent ∧ v = 0 then none else some v)
  replyHead .ok none none false false (g.zeroAbsent && g.value == 0) ++ f g.value ++ s32 g.lo ++ s32 g.hi ++ f g.dflt

/-- The reply to a SET. [log 39, DEDUCED.] -/
def SetOutcome.payload : SetOutcome → List Byte
  | .bad => plainReply .badRequest
  | .busy => plainReply .busy
  | .stored v absent clamped moved =>
    replyHead .ok none none clamped moved absent ++ optS32 (if absent then none else some v)

/-! ### Contents of reports (12.3) -/

/-- The operation takes an operand (12.2). -/
def hasOperand (c : Ch) : Op → Bool
  | .jog => true
  | .extend => c == .awning
  | _ => false

/-- The channel report (12.3). [log 40, DEDUCED.] -/
def channelContent (s : State) (c : Ch) : List Byte :=
  let q := chanOf s c
  let moving := q.state == .pending || q.state == .running || q.state == .stopping
  let held := (q.state == .pending || q.state == .running) && q.hold
  [byteOf c.code, bitByte (s.present c), byteOf q.state.code,
   opt8 (if moving then q.op.map Op.code else none)]
  ++ opt16 (match q.op with
      | some o => if moving && hasOperand c o then some q.operand else none
      | none => none)
  ++ [opt8 (if moving then q.owner.map Owner.code else none),
   opt8 (if q.state = .pending then q.waiting.map Waiting.code else none),
   opt8 (if held then some 1 else none), opt8 (q.autoCause.map AutoCause.code),
   opt8 (q.last.map (fun l => l.term.code)), opt8 (q.last.bind (fun l => l.term.detail)),
   opt8 (q.last.bind (fun l => l.owner.map Owner.code)), byteOf q.completions,
   opt8 (q.fault.map (fun f => f.kind.code)), opt8 (q.fault.bind (fun f => f.subject.byte))]

/-- The ALERTS report (R181). -/
def alertsContent (s : State) : List Byte :=
  allAlerts.map (fun a =>
    bitsByte [(s.link.alerts.get a).cond, (s.link.alerts.get a).latch, s.store.cfg.alertEnabled a])

/-- The INPUTS content (R164). -/
def inputsContent (s : State) : List Byte :=
  bitsHalf s.term.deb.toList ++ bitsHalf s.term.flags.toList
  ++ [bitsByte [s.term.speedFlag, s.term.moving]]
  ++ bitsWord (allRoles.map (fun r => roleAssigned s r)) ++ bitsWord (allRoles.map (fun r => roleActive s r))

def SaveOutcome.code : SaveOutcome → Nat
  | .ok => 0
  | .fault => 1

/-- The STORE report (R187). [log 40, DEDUCED.] -/
def storeContent (s : State) : List Byte :=
  [byteOf s.store.marking.code, bitByte s.store.saving, opt8 (s.store.lastSave.map SaveOutcome.code),
   bitByte (!s.store.markerClean), bitByte s.store.snapFailed]

/-- A jack record of POSTURE, 11 bytes. [log 40, DEDUCED.] -/
def jackContent (s : State) (j : Jack) : List Byte :=
  if s.jackPresent j then
    let q := jackOf s j
    [byteOf (1 + 2 * q.contact.code + 8 * q.fault.toNat + 16 * q.stowed.toNat)]
    ++ u16 q.stroke ++ [byteOf q.pressure] ++ opt16 q.ground ++ opt16 q.lift ++ opt16 q.target
    ++ [byteOf (s.store.cfg.jackCoast j)]
  else [0] ++ opt16 none ++ [0xFF] ++ opt16 none ++ opt16 none ++ opt16 none ++ [0xFF]

/-- The plan record of POSTURE, 21 bytes. [log 7, DESIGN CHOICE; log 40, DEDUCED.] -/
def planContent (s : State) : List Byte :=
  let g := fun (x : Option Grad) => optS16 (x.map Grad.pitch) ++ optS16 (x.map Grad.roll)
  match s.lev.plan with
  | some p =>
    [1, byteOf p.op.code] ++ g p.first ++ [byteOf p.passes] ++ opt16 p.scale ++ [bitsByte [p.limited, p.unsettled]]
    ++ allJacks.map (fun j => opt8 (if s.jackPresent j then p.trim.map (fun t => t.get j) else none))
    ++ g p.final ++ [match p.outcome with | some o => Config.outcomeCode o.place | none => 0xFF]
  | none => [0, 0xFF] ++ g none ++ [0xFF] ++ opt16 none ++ [0xFF] ++ List.replicate 6 0xFF ++ g none ++ [0xFF]

/-- Part 1 of POSTURE, 90 bytes. -/
def posturePart1 (s : State) : List Byte :=
  [1, opt8 (s.link.postureCause.map PostureCause.code), byteOf s.lev.status.code]
  ++ allJacks.flatMap (jackContent s) ++ planContent s

/-- A room record of POSTURE, 20 bytes. [log 40, DEDUCED.] -/
def roomContent (s : State) (r : Room) : List Byte :=
  if s.present (.room r) then
    let q := roomOf s r
    let elec := kindOf s r != .hydraulic
    let on := fun (e : Side) => hasEnd s r e
    let opt {α : Type} (e : Side) (v : α) : Option α := if on e then some v else none
    [byteOf (kindOf s r).code, byteOf q.status.code, byteOf q.conf.code,
     bitsByte [true, s.store.cfg.needsJacks r, s.store.cfg.underAwning r, elec && q.inSwitch]]
    ++ opt16 (if elec then (s.store.cfg.learnedStroke r).map Int.toNat else none)
    ++ optS16 (opt .endA q.ends.endA.count) ++ optS16 (opt .endB q.ends.endB.count)
    ++ opt16 (opt .endA q.ends.endA.assumed) ++ opt16 (opt .endB q.ends.endB.assumed)
    ++ [opt8 (opt .endA (s.store.cfg.endCoast r .endA)), opt8 (opt .endB (s.store.cfg.endCoast r .endB))]
    ++ opt16 (q.ends.endA.target.map Int.toNat) ++ opt16 (q.ends.endB.target.map Int.toNat)
  else
    [0xFF, 0xFF, 0xFF, 0] ++ opt16 none ++ optS16 none ++ optS16 none ++ opt16 none ++ opt16 none
    ++ [0xFF, 0xFF] ++ opt16 none ++ opt16 none

/-- The awning record of POSTURE, 22 bytes. [log 40, DEDUCED.] -/
def awningContent (s : State) : List Byte :=
  if s.present .awning then
    let a := s.awn
    [bitsByte [true, a.inSwitch], byteOf a.status.code, byteOf a.conf.code]
    ++ s32 a.count ++ u16 (extensionOf s) ++ opt16 s.store.cfg.fullExtension
    ++ [byteOf s.store.cfg.awningCoast, byteOf a.consec] ++ u16 a.assumed ++ opt16 a.target
    ++ u16 (lockoutRemaining s) ++ [opt8 (a.lastAuto.map AutoCause.code), 0, 0]
  else
    [0, 0xFF, 0xFF] ++ optS32 none ++ opt16 none ++ opt16 none ++ [0xFF, 0xFF] ++ opt16 none ++ opt16 none
    ++ opt16 none ++ [0xFF, 0, 0]

/-- Part 2 of POSTURE, 103 bytes. -/
def posturePart2 (s : State) : List Byte := [2] ++ allRooms.flatMap (roomContent s) ++ awningContent s

/-- The drift timer in ms, 0 while it is clear. [log 40, DEDUCED.] -/
def driftMs (s : State) : Nat :=
  match s.lev.drift with
  | some t => min 10000 (s.now - t)
  | none => 0

/-- A jack of TELEMETRY, 4 bytes; an absent jack's valve is CLOSED (R42). [log 7, DESIGN CHOICE.] -/
def jackTelemetry (s : State) (j : Jack) : List Byte :=
  (if s.jackPresent j then u16 (jackOf s j).stroke ++ [byteOf (jackOf s j).pressure] else opt16 none ++ [0xFF])
  ++ [Config.jackValveCode (if valveOpen s j then 0 else 1)]

/-- Part 1 of TELEMETRY, 53 bytes. [log 7, DESIGN CHOICE; log 40, DEDUCED.] -/
def telemetryPart1 (s : State) : List Byte :=
  let g := s.scan.grad
  let p := s.man.pump
  let cor := if g.valid then g.reading.map Reading.cor else none
  [1, Config.phaseCode s.lev.phase.place, byteOf s.lev.passes]
  ++ optS16 (g.reading.map (fun q => q.raw.pitch)) ++ optS16 (g.reading.map (fun q => q.raw.roll))
  ++ optS16 (cor.map Grad.pitch) ++ optS16 (cor.map Grad.roll)
  ++ [bitsByte [g.reading.any Reading.sat, g.stale, g.valid]] ++ u16 (driftMs s)
  ++ allJacks.flatMap (jackTelemetry s)
  ++ [opt8 (p.holder.map Ch.code),
      (match p.dir with
        | some .extend => Config.pumpDirCode 0
        | some .retract => Config.pumpDirCode 1
        | none => 0xFF),
      byteOf (p.on.toNat + 2 * (Config.runStateCode p.runState.place).toNat + 8 * p.hot.toNat)]
  ++ u32 p.runTime ++ u32 p.cooldown
  ++ [byteOf s.man.line, bitsByte [s.man.deadhead.isSome, s.man.lineFault],
      bitsByte (allRooms.map (fun r => s.man.roomValves.get r)), byteOf s.man.dirValve.code]

/-- An end of TELEMETRY, 5 bytes; the current of its driver is sent whether or not the room has the end (R159).
[log 7, DESIGN CHOICE.] -/
def endTelemetry (s : State) (r : Room) (e : Side) : List Byte :=
  let q := endOf s r e
  (if hasEnd s r e then
    s16 q.count ++ [byteOf ((Config.driveCode q.drive.place).toNat + 4 * q.paused.toNat + 8 * q.consec)]
  else optS16 none ++ [0xFF])
  ++ u16 (s.mon.currents.get (.roomEnd r e))

/-- A room of TELEMETRY, 3 bytes. [log 40, DEDUCED.] -/
def roomTelemetry (s : State) (r : Room) : List Byte :=
  optS16 (if electric s r && kindOf s r == .twin then some (rackOf s r) else none)
  ++ [opt8 (if electric s r then some (roomOf s r).homeSearch.toNat else none)]

/-- Part 2 of TELEMETRY, 97 bytes. [log 7, DESIGN CHOICE; log 40, DEDUCED.] -/
def telemetryPart2 (s : State) : List Byte :=
  [2] ++ allRooms.flatMap (fun r => endTelemetry s r .endA ++ endTelemetry s r .endB)
  ++ allRooms.flatMap (roomTelemetry s)
  ++ (if s.present .awning then
        s32 s.awn.count ++ [Config.awningDriveByte s.awn.drive.place s.awn.inSwitch]
      else optS32 none ++ [0xFF])
  ++ u16 s.mon.currents.awning
  ++ (List.range 10).flatMap (fun i => opt16 s.wind.ring[i]?)
  ++ u16 s.wind.gust ++ u16 s.wind.avg ++ u16 (lockoutRemaining s)
  ++ [byteOf s.mon.supply.code] ++ u16 s.mon.sample ++ opt16 s.mon.avg ++ u16 (reserved s (fun _ => true))
  ++ u16 s.mon.currents.pump ++ u16 s.mon.currents.spare

/-- The READ_SUPPLY data, 50 bytes (R159). [log 59, DESIGN CHOICE; log 40, DEDUCED.] -/
def supplyContent (s : State) : List Byte :=
  [byteOf s.mon.supply.code] ++ u16 s.mon.sample ++ opt16 s.mon.avg ++ u16 s.store.cfg.budget
  ++ [byteOf s.store.cfg.awningDemand] ++ u16 (ordinarySum s)
  ++ allChs.flatMap (fun c =>
      opt16 ((s.mon.resv.get c).map Resv.amps) ++ [opt8 ((s.mon.resv.get c).map (fun q => q.fromReserve.toNat))])
  ++ allDrivers.flatMap (fun d =>
      [bitsByte [(s.mon.latches.get d).isSet, s.mon.faultSense.get d], opt8 ((s.mon.latches.get d).ch.map Ch.code)])

/-- The GET_IDENTITY data (R183). [log 7, DESIGN CHOICE.] -/
def identityContent (s : State) : List Byte :=
  u16 0x4D4B ++ u16 0x0630 ++ [Config.designRevision, Config.protocolVersion, byteOf s.store.marking.code,
    byteOf s.power.resetCause.code, byteOf s.power.state.code, byteOf (presentJacks s).length,
    bitsByte (allRooms.map (fun r => s.present (.room r)) ++ [s.present .awning])]

/-- The payload of a report, with part 2 where the source is sent as two frames (12.3, R193). -/
def reportContent (s : State) : Source → List Byte × Option (List Byte)
  | .chan c => (channelContent s c, none)
  | .alerts => (alertsContent s, none)
  | .inputs => (inputsContent s, none)
  | .posture => (posturePart1 s, some (posturePart2 s))
  | .store => (storeContent s, none)
  | .telemetry => (telemetryPart1 s, some (telemetryPart2 s))

/-- The report kind of a source (12.1). -/
def reportKind (x : Source) : Byte := byteOf (0x40 + x.code)

end Sys2Proof.Machine
end

