-- ==== Sys2Proof/Machine/Link.lean ====
section
/-! DEFINITION. The link port: the transmitter (R176, R177, R193), what ends every step, the service of requests (R175) and the receiver (R173, R174). -/

namespace Sys2Proof.Machine

/-! ### The transmitter (R176, R177, R178, R193) -/

/-- A report begins: its content is taken, and a channel's completions count becomes 0 (R177, R193). -/
def beginReport (x : Source) (s : State) : State :=
  let c := reportContent s x
  let s1 := modLink (fun l => { l with
    tx := some (.report x (frame (reportKind x) 0 c.1)),
    part2 := c.2.map (fun b => ⟨x, frame (reportKind x) 0 b⟩),
    postureCause := if x = .posture then none else l.postureCause,
    lastTelemetry := if x = .telemetry then some s.now else l.lastTelemetry }) s
  match x with
  | .chan c => modChan c (fun q => { q with completions := 0 }) s1
  | _ => s1

/-- At least 100 ms have passed since the last TELEMETRY report began (R180). -/
def idleFillSpaced (s : State) : Bool :=
  match s.link.lastTelemetry with
  | some t => t + 100 ≤ s.now
  | none => true

/-- The transmitter chooses the next frame at a frame boundary (R176): the oldest reply, then part 2 of a report, then the
oldest report, then idle-fill telemetry. Outside RUN only replies are sent. [log 81, DESIGN CHOICE.] -/
def chooseFrame (s : State) : State :=
  match s.link.tx, s.link.replies with
  | some _, _ => s
  | none, r :: _ =>
    if s.link.resetDue then s
    else modLink (fun l => { l with tx := some (.reply (frame r.kind r.tag r.payload)) }) s
  | none, [] =>
    if s.link.resetDue ∨ s.power.state ≠ .run ∨ s.link.paused then s
    else match s.link.part2, s.link.reports with
      | some p, _ => modLink (fun l => { l with tx := some (.report p.source p.bytes), part2 := none }) s
      | none, x :: l => beginReport x (modLink (fun k => { k with reports := l }) s)
      | none, [] => if s.store.cfg.telemetryMode = 2 ∧ idleFillSpaced s then beginReport .telemetry s else s

/-- The attention line follows the report queue; it is released during start-up (R178). -/
def setAttention (s : State) : State :=
  modLink (fun l => { l with attention := !s.power.startingUp && !l.reports.isEmpty }) s

/-- The transmitter and the attention line at the end of a step. -/
def transmit (s : State) : State := setAttention (chooseFrame s)

/-- What follows a change within its step: interlocks, owed requests and scans; the end of the drive-away condition; alerts;
outputs; the next memory job (log 4). -/
def conclude (s : State) : State := settle s |> driveAwayCheck |> refreshAlerts |> refreshOutputs |> startJob

/-- What ends a step in which something has changed, the transmitter last (log 4). -/
def finish (s : State) : State := transmit (conclude s)

/-- What ends start-up: the report queue holds POSTURE and the attention line is asserted for it (R178, R192 step 6); the
transmitter takes it at its next choice. [log 67, DEDUCED.] -/
def finishStartUp (s : State) : State := setAttention (conclude s)

/-- A step of a part that has started up; during start-up nothing is taken (log 14). -/
def whenLive (f : State → State) (s : State) : State := if s.power.startingUp then s else f s

/-! ### Service of requests (R175) -/

/-- A reply joins the reply buffer (R175). -/
def pushReply (tag kind : Byte) (payload : List Byte) (s : State) : State :=
  modLink (fun l => { l with replies := l.replies ++ [{ kind := replyKind kind, tag := tag, payload := payload }] }) s

/-- The verdict leaves the part changed. -/
def Verdict.acts : Verdict → Bool
  | .accepted => true
  | .ok => true
  | .deferred => true
  | _ => false

/-- A reply with a verdict; the step ends in full where the request acted. [log 4, DESIGN CHOICE; log 42, DESIGN CHOICE.] -/
def answer (tag kind : Byte) (p : Verdict × State) : State :=
  let s := pushReply tag kind p.1.payload p.2
  if p.1.acts then finish s else transmit s

/-- BAD_REQUEST changes nothing but the reply (R175, R194). -/
def serveBad (tag kind : Byte) (s : State) : State := transmit (pushReply tag kind (plainReply .badRequest) s)

def serveStart (tag : Byte) (c : Ch) (o : Op) (hold : Bool) (operand : Half) (s : State) : State :=
  answer tag 0x01 (startMotion c o hold operand.toNat .link none s)

/-- HOLD moves at most a deadline (R13). -/
def serveHold (tag : Byte) (c : Ch) (s : State) : State :=
  transmit (pushReply tag 0x02 (holdMotion c .link s).1.payload (holdMotion c .link s).2)

def serveStop (tag : Byte) (c : Ch) (s : State) : State := answer tag 0x03 (stopMotion c .link s)

def serveClear (tag : Byte) (c : Ch) (s : State) : State := answer tag 0x04 (clearFault c s)

/-- READ_INPUTS clears the flags that the reply carries (R164). -/
def serveReadInputs (tag : Byte) (s : State) : State :=
  pushReply tag 0x05 (plainReply .ok ++ inputsContent s) s
  |> modTerm (fun t => { t with flags := Vector.replicate 16 false, speedFlag := false }) |> transmit

/-- SET_LINK_OUTPUTS (R168). -/
def serveLinkOutputs (tag mask : Byte) (s : State) : State :=
  modTerm (fun t => { t with linkSet := (mask.getLsbD 0, mask.getLsbD 1, mask.getLsbD 2) }) s
  |> refreshOutputs |> pushReply tag 0x06 (plainReply .ok) |> transmit

def serveReadSupply (tag : Byte) (s : State) : State :=
  transmit (pushReply tag 0x07 (plainReply .ok ++ supplyContent s) s)

def serveGet (tag group index : Byte) (s : State) : State :=
  match getRequest group index s with
  | some g => transmit (pushReply tag 0x08 g.payload s)
  | none => serveBad tag 0x08 s

def serveSet (tag group index : Byte) (value : BitVec 32) (s : State) : State :=
  let p := setRequest group index value s
  let s1 := pushReply tag 0x09 p.1.payload p.2
  match p.1 with
  | .stored _ _ _ _ => finish s1
  | _ => transmit s1

/-- SAVE (R187). -/
def serveSave (tag : Byte) (s : State) : State :=
  if s.store.saving then transmit (pushReply tag 0x0A (plainReply .busy) s)
  else transmit (startJob (pushReply tag 0x0A (plainReply .accepted) (beginSave s)))

/-- LOAD_DEFAULTS (R188). -/
def serveLoadDefaults (tag : Byte) (s : State) : State :=
  if atRest s then finish (pushReply tag 0x0B (plainReply .ok) (loadDefaults s))
  else transmit (pushReply tag 0x0B (plainReply .busy) s)

/-- ENTER_WATCH and ENTER_SLEEP (R190). -/
def serveRest (tag kind : Byte) (p : PowerState) (s : State) : State :=
  match restRefusal p s with
  | some v => transmit (pushReply tag kind v.payload s)
  | none => finish (enterRest p (pushReply tag kind (plainReply .ok) s))

/-- RESET_PART: the reset follows its reply (R192). -/
def serveResetPart (tag : Byte) (s : State) : State :=
  transmit (modLink (fun l => { l with
    replies := l.replies ++ [{ kind := replyKind 0x0E, tag := tag, payload := plainReply .ok, resets := true }] }) s)

/-- PAUSE_REPORTS and RESUME_REPORTS (R179). -/
def servePaused (tag kind : Byte) (v : Bool) (s : State) : State :=
  modLink (fun l => { l with paused := v }) s |> pushReply tag kind (plainReply .ok) |> transmit

/-- REQUEST_REPORT (R179). -/
def serveRequestReport (tag : Byte) (x : Source) (s : State) : State :=
  queueSource x s |> pushReply tag 0x11 (plainReply .ok) |> transmit

/-- The alert set after an ACK_ALERT (R182): named latches whose condition is inactive are cleared. -/
def ackAlerts (mask : Half) (s : State) : State :=
  modLink (fun l => { l with
    alerts := allAlerts.foldl (fun p a =>
      let q := p.get a
      if mask.getLsbD a.idx && !q.cond then p.set a { q with latch := false } else p) l.alerts }) s

/-- The named alerts whose latches stay set (R182). -/
def ackLeft (mask : Half) (s : State) : List Byte :=
  bitsHalf (allAlerts.map (fun a => mask.getLsbD a.idx && (s.link.alerts.get a).latch))

def serveAck (tag : Byte) (mask : Half) (s : State) : State :=
  let s1 := ackAlerts mask s
  transmit (pushReply tag 0x12 (plainReply .ok ++ ackLeft mask s1) s1)

def serveIdentity (tag : Byte) (s : State) : State :=
  transmit (pushReply tag 0x13 (plainReply .ok ++ identityContent s) s)

/-- Service of one request (R175). A request with a field outside its encoding is answered BAD_REQUEST (R194). [log 42, DESIGN CHOICE.] -/
def serve (tag : Byte) (q : Req) (s : State) : State :=
  if !q.encoded then serveBad tag q.kind s
  else match q with
    | .start c o h v => serveStart tag c o h v s
    | .hold c => serveHold tag c s
    | .stop c => serveStop tag c s
    | .clear c => serveClear tag c s
    | .readInputs => serveReadInputs tag s
    | .setLinkOutputs m => serveLinkOutputs tag m s
    | .readSupply => serveReadSupply tag s
    | .get g i => serveGet tag g i s
    | .set g i v => serveSet tag g i v s
    | .save => serveSave tag s
    | .loadDefaults => serveLoadDefaults tag s
    | .enterWatch => serveRest tag 0x0C .watch s
    | .enterSleep => serveRest tag 0x0D .sleep s
    | .resetPart => serveResetPart tag s
    | .pauseReports => servePaused tag 0x0F true s
    | .resumeReports => servePaused tag 0x10 false s
    | .requestReport x => serveRequestReport tag x s
    | .ackAlert m => serveAck tag m s
    | .getIdentity => serveIdentity tag s
    | .bad k => serveBad tag k s

/-! ### The receiver (R173, R174) -/

/-- A byte or a frame reaches the receiver outside RUN: the SYNC wakes the part and the rest is lost (R173); where another cause
has just woken it, the byte is lost all the same (R144, R191). [log 13, DEDUCED.] -/
def wakeByLink (s : State) : State := finish (modLink (fun l => { l with rx := .drain }) (wake .link s))

/-- Bytes arrive while the receiver is HELD (R173). -/
def loseBytes (s : State) : State := modLink (fun l => { l with bytesLost := true }) s

/-- A well-formed request meets the reply buffer (R174): it is served, or held while the buffer is full. [log 11, DESIGN CHOICE.] -/
def acceptRequest (tag : Byte) (q : Req) (s : State) : State :=
  if s.link.replies.length < Config.maxReplies then serve tag q s
  else modLink (fun l => { l with rx := .held, rxBuf := [], held := some ⟨tag, q⟩, bytesLost := false }) s

/-- A request's frame arrives whole (R173, R174), in the receiver's and the part's state. [log 11, DESIGN CHOICE.] -/
def takeRequest (tag : Byte) (q : Req) (s : State) : State :=
  match s.link.rx with
  | .ignore => s
  | .drain => s
  | .held => loseBytes s
  | _ => if s.power.state = .run then acceptRequest tag q s else wakeByLink s

/-- A frame that cannot be followed arrives (R173, R174): `rx` is the state it leaves the receiver in. [log 12, DESIGN CHOICE.] -/
def takeBadFrame (rx : RxState) (s : State) : State :=
  match s.link.rx with
  | .ignore => s
  | .drain => s
  | .held => loseBytes s
  | _ =>
    if s.power.state = .run then modLink (fun l => { l with rx := rx, rxBuf := [] }) s else wakeByLink s

/-- A complete frame in the assembly buffer, SYNC first, is examined (R174). -/
def completeFrame (buf : List Byte) (s : State) : State :=
  let s1 := modLink (fun l => { l with rx := .hunt, rxBuf := [] }) s
  match buf with
  | _ :: len :: kind :: tag :: rest =>
    if checkOk (len :: kind :: tag :: rest) then acceptRequest tag (decodeRequest kind rest.dropLast) s1 else s1
  | _ => s1

/-- A byte joins the assembly buffer (R173). -/
def assemble (b : Byte) (s : State) : State :=
  let buf := s.link.rxBuf ++ [b]
  match buf with
  | _ :: len :: _ =>
    if Config.maxLength < len.toNat then modLink (fun l => { l with rx := .drain, rxBuf := [] }) s
    else if buf.length = len.toNat + 5 then completeFrame buf s
    else modLink (fun l => { l with rxBuf := buf }) s
  | _ => modLink (fun l => { l with rxBuf := buf }) s

/-- A byte is received (R173). [log 13, DEDUCED.] -/
def receiveByte (b : Byte) (s : State) : State :=
  match s.link.rx with
  | .ignore => s
  | .drain => s
  | .held => loseBytes s
  | .assembling => assemble b s
  | .hunt =>
    if b ≠ Config.sync then s
    else if s.power.state = .run then modLink (fun l => { l with rx := .assembling, rxBuf := [b] }) s
    else wakeByLink s

/-- The held request is handed to service when a reply has left the buffer; the receiver then enters DRAIN or HUNT (R174). [log 11, DESIGN CHOICE.] -/
def serveHeld (s : State) : State :=
  match s.link.rx, s.link.held with
  | .held, some h =>
    if s.link.replies.length < Config.maxReplies then
      serve h.tag h.req (modLink (fun l => { l with
        rx := if l.bytesLost then .drain else .hunt, held := none, bytesLost := false }) s)
    else s
  | _, _ => s

/-- The transmitter finishes a frame (R176): a reply leaves the buffer, and RESET_PART's makes the reset due (R192). -/
def frameSent (s : State) : State :=
  match s.link.tx, s.link.replies with
  | some (.reply _), r :: l =>
    transmit (modLink (fun k => { k with tx := none, replies := l, resetDue := k.resetDue || r.resets }) s)
  | some (.report _ _), _ => transmit (modLink (fun k => { k with tx := none }) s)
  | _, _ => s

end Sys2Proof.Machine
end

