-- ==== Sys2Proof/Machine/Clock.lean ====
section
/-! DEFINITION. Time (log 1): when each of the part's own timers is due, and the tick of one millisecond that an empty queue gives. -/

namespace Sys2Proof.Machine

/-- A time has been set and reached. -/
def reached (s : State) : Option Nat → Bool
  | some t => t ≤ s.now
  | none => false

/-- An interval of `n` ms that began at a time has run. -/
def ran (s : State) (n : Nat) : Option Nat → Bool
  | some t => t + n ≤ s.now
  | none => false

/-! ### When each timer is due -/

def telemetryDue (s : State) : Bool := s.power.state == .run && reached s s.link.telemetryAt

/-- Idle fill would begin a TELEMETRY report (R176, R180). -/
def idleFillDue (s : State) : Bool :=
  s.store.cfg.telemetryMode == 2 && s.link.tx.isNone && s.link.replies.isEmpty && s.link.reports.isEmpty &&
    s.link.part2.isNone && !s.link.paused && !s.link.resetDue && s.power.state == .run && idleFillSpaced s

def heldDue (s : State) : Bool :=
  s.link.rx == .held && s.link.held.isSome && s.link.replies.length < Config.maxReplies

def stoppingDue (s : State) (c : Ch) : Bool := (chanOf s c).state == .stopping && (chanOf s c).stopEnds ≤ s.now

def debounceDue (s : State) (t : Fin 16) : Bool := reached s (s.term.timers.get t)

def speedWindowDue (s : State) : Bool := s.term.pulses.any (fun t => t + 1000 ≤ s.now)

def jackFlagDue (s : State) (j : Jack) : Bool :=
  s.jackPresent j && (jackOf s j).fault && bandOver s (jackOf s j).bandSince

def lineFlagDue (s : State) : Bool := s.man.lineFault && bandOver s s.man.lineBandSince

def flagDue (s : State) : SensorFlag → Bool
  | .jack j => jackFlagDue s j
  | .line => lineFlagDue s

/-- The trip timer of a driver whose latch is clear has run 50 ms (R155). [log 1, DESIGN CHOICE; log 20, DEDUCED.] -/
def tripDue (s : State) (d : Driver) : Bool := !(s.mon.latches.get d).isSet && ran s 50 (s.mon.tripSince.get d)

/-- SETTLE gives up after 5 s (R70). [log 55, DESIGN CHOICE.] -/
def giveUpDue (s : State) : Bool :=
  isRunning s .level && s.lev.sub == .settling && s.lev.settleSince + 5000 ≤ s.now

/-- The 60 s of GROUND or of the reground step (R69, R75). -/
def groundLimitDue (s : State) : Bool :=
  isRunning s .level && !allGround s &&
    ((s.lev.phase == .ground && s.lev.phaseSince + 60000 ≤ s.now) ||
     (s.lev.phase == .measure && s.lev.sub == .reground && s.lev.stepSince + 60000 ≤ s.now))

/-- The 90 s of LIFT (R72). [log 28, DEDUCED.] -/
def liftLimitDue (s : State) : Bool :=
  isRunning s .level && s.lev.phase == .lift && s.lev.phaseSince + 90000 ≤ s.now && !(openJacks s).isEmpty

/-- The 2 s of the stall judgement (R73). -/
def stallDue (s : State) : Bool :=
  stallJudged s && s.man.deadhead.isSome && ran s 2000 (s.lev.stall.map StallRec.since)

/-- The 500 ms between trim steps (R76). -/
def trimWaitDue (s : State) : Bool :=
  isRunning s .level && s.lev.phase == .trim && s.lev.sub == .waiting && s.lev.trimUntil ≤ s.now

/-- The 90 s of TRIM with a step valve open (R76). [log 28, DEDUCED.] -/
def trimLimitDue (s : State) : Bool :=
  isRunning s .level && s.lev.phase == .trim && s.lev.phaseSince + 90000 ≤ s.now && !(openJacks s).isEmpty

/-- The 120 s of STOW (R79). -/
def stowLimitDue (s : State) : Bool :=
  isRunning s .level && s.lev.phase == .stow && (chanOf s .level).admitted + 120000 ≤ s.now && !allStowed s

/-- The 10 s of the drift timer (R83). -/
def driftDue (s : State) : Bool := driftWatched s && ran s 10000 s.lev.drift

/-- A cooldown ends (R48): it also waits for the pump's latch after an overcurrent stop, and while the latch is recorded to
LEVEL that is FAULTED (R156). [log 64, DEDUCED.] -/
def cooldownDue (s : State) : Bool :=
  s.man.pump.runState == .resting && s.man.pump.cooldown == 0 &&
    !(s.man.pump.tripped && s.mon.latches.pump.isSet) && !levelPumpLatch s

/-- The 180 s of the duty limit (R49). -/
def dutyDue (s : State) : Bool :=
  s.man.pump.on && Config.dutyLimitMs ≤ s.man.pump.runTime && match s.man.pump.holder with
    | some c => isRunning s c
    | none => false

/-- The deadhead second of a HYDRAULIC room (R54). -/
def deadheadDue (s : State) (r : Room) : Bool :=
  hydraulic s r && isRunning s (.room r) && s.man.pump.holder == some (.room r) && ran s 1000 s.man.deadhead

/-- The travel time limit of a HYDRAULIC room (R55). -/
def travelDue (s : State) (r : Room) : Bool :=
  hydraulic s r && isRunning s (.room r) &&
    (chanOf s (.room r)).admitted + s.store.cfg.travelTime r * 1000 ≤ s.now

def roomLateDue (s : State) (r : Room) (e : Side) : Bool :=
  hasEnd s r e && isRunning s (.room r) && (endOf s r e).drive != .brake && reached s (endOf s r e).lateAt

def roomStallDue (s : State) (r : Room) (e : Side) : Bool :=
  hasEnd s r e && isRunning s (.room r) && (endOf s r e).drive != .brake && !(endOf s r e).paused &&
    ran s 250 (endOf s r e).stallSince

def reversalDue (s : State) (r : Room) : Bool :=
  isRunning s (.room r) && (roomOf s r).leg == .reversal && (roomOf s r).reversalUntil ≤ s.now

def awningLateDue (s : State) : Bool := isRunning s .awning && s.awn.drive != .brake && reached s s.awn.lateAt

def awningStallDue (s : State) : Bool := isRunning s .awning && s.awn.drive != .brake && ran s 250 s.awn.stallSince

def windBinDue (s : State) : Bool :=
  s.store.cfg.windFitted && s.power.state != .sleep && reached s s.wind.binEnd

/-- The wind lockout's length has passed (R137). [log 1, DESIGN CHOICE; log 17, DEDUCED.] -/
def lockoutDue (s : State) : Bool := reached s s.wind.lockout

/-! ### The tick -/

/-- The ends of rooms A to D. -/
def allEnds : List (Room × Side) := allRooms.flatMap (fun r => [(r, Side.endA), (r, Side.endB)])

/-- The command where its timer is due. -/
def when_ (b : Bool) (i : Instr) : List Instr := if b then [i] else []

/-- The expiries that are due now. [log 1, DESIGN CHOICE.] -/
def dueCommands (s : State) : List Instr :=
  when_ s.link.resetDue .requestReset
  ++ when_ (heldDue s) .heldRequestServed
  ++ when_ s.sup.scanDue .admissionScan
  ++ allChs.flatMap (fun c => when_ (stoppingDue s c) (.stoppingEnd c))
  ++ allChs.flatMap (fun c => when_ (holdOver s c) (.holdExpiry c))
  ++ allChs.flatMap (fun c => when_ (waitOver s c) (.waitExpired c))
  ++ (List.finRange 16).flatMap (fun t => when_ (debounceDue s t) (.inputDebounceExpiry t))
  ++ when_ (speedWindowDue s) .speedWindowExpiry
  ++ allJacks.flatMap (fun j => when_ (jackFlagDue s j) (.sensorFlagClear (.jack j)))
  ++ when_ (lineFlagDue s) (.sensorFlagClear .line)
  ++ allDrivers.flatMap (fun d => when_ (tripDue s d) (.tripTimerExpiry d))
  ++ when_ (dutyDue s) .pumpDutyLimit ++ when_ (cooldownDue s) .cooldownEnd
  ++ when_ (stallDue s) .levelStall ++ when_ (groundLimitDue s) .groundTimeLimit
  ++ when_ (liftLimitDue s) .liftTimeLimit ++ when_ (trimLimitDue s) .trimTimeLimit
  ++ when_ (trimWaitDue s) .trimWaitEnd ++ when_ (stowLimitDue s) .stowTimeLimit
  ++ when_ (giveUpDue s) .settleGiveUp ++ when_ (driftDue s) .driftTimerExpiry
  ++ allRooms.flatMap (fun r => when_ (deadheadDue s r) (.hydraulicDeadheadEnd r))
  ++ allRooms.flatMap (fun r => when_ (travelDue s r) (.hydraulicTravelTime r))
  ++ allEnds.flatMap (fun p => when_ (roomStallDue s p.1 p.2) (.roomStall p.1 p.2))
  ++ allEnds.flatMap (fun p => when_ (roomLateDue s p.1 p.2) (.roomPulseLateExpiry p.1 p.2))
  ++ allRooms.flatMap (fun r => when_ (reversalDue s r) (.learnReversalEnd r))
  ++ when_ (awningStallDue s) .awningStall ++ when_ (awningLateDue s) .awningPulseLateExpiry
  ++ when_ (windBinDue s) .windBinEnd ++ when_ (lockoutDue s) .lockoutEnd
  ++ when_ (telemetryDue s) .telemetryTimerExpiry ++ when_ (idleFillDue s) .idleFillSpacingExpiry

/-- The pump's run time and cooldown after one more millisecond (R41, R47, R48). [log 1, DESIGN CHOICE.] -/
def tickPump (p : Pump) : Pump :=
  { p with
    runTime := if p.on then min Config.dutyLimitMs (p.runTime + 1) else p.runTime,
    cooldown := if p.runState = .resting then p.cooldown - 1 else p.cooldown }

/-- The pendant renews a channel's hold (R166). [log 1, DESIGN CHOICE.] -/
def renewHold (s : State) (c : Ch) : State :=
  if pendantRenews s c then modChan c (fun q => { q with deadline := s.now + s.store.cfg.holdWindow }) s else s

/-- A report that waits at an idle transmitter begins: the POSTURE of start-up, which START_UP_END leaves in the queue (R178). [log 67, DEDUCED.] -/
def beginWaiting (s : State) : State := if s.link.tx.isNone && !s.link.reports.isEmpty then transmit s else s

/-- One millisecond passes: the pump's times move, the pendant renews its holds, a waiting report begins, and the expiries
that are due join the queue. During start-up only the clock moves. [log 1, DESIGN CHOICE; log 14, DEDUCED.] -/
def tick (s : State) : State :=
  let s1 := { s with now := s.now + 1 }
  if s.power.startingUp then s1
  else
    let s2 := beginWaiting (allChs.foldl renewHold (modPump tickPump s1))
    { s2 with pending := s2.pending ++ dueCommands s2 }

/-- An expiry acts only when its timer is due, and in a part that has started up; the step then ends in full. [log 1, DESIGN CHOICE; log 14, DEDUCED.] -/
def onDue (due : Bool) (f : State → State) (s : State) : State :=
  if due && !s.power.startingUp then finish (f s) else s

end Sys2Proof.Machine
end

