-- ==== Sys2Proof/Machine/Wind.lean ====
section
/-! DEFINITION. The wind watch's bin end (R135 to R137, R142) and the wind retract request (R139, R140). -/

namespace Sys2Proof.Machine

/-- AWNING waits or runs with an AUTOMATIC AUTO_RETRACT of cause WIND, or carries a deferred start with that cause (R137). -/
def windRetractStanding (s : State) : Bool :=
  let q := chanOf s .awning
  ((q.state == .pending || q.state == .running) && windRetracting s .awning) ||
    (match q.deferred with
      | some d => d.cause == some .wind
      | none => false)

/-- The retract decision of R137. -/
def windCalls (s : State) : Bool := s.present .awning && s.awn.status != .pin && !windRetractStanding s

/-- The under-awning rooms give way to a wind retract (R140). -/
def clearRooms (s : State) : State :=
  allRooms.foldl (fun t r =>
    if underAwning t r then endMotion (.room r) .interlock (.aborted .awningConflict) t else t) s

/-- A protective retract under way takes the cause WIND (R139). -/
def rewriteCause (s : State) : State :=
  modChan .awning (fun q => { q with autoCause := some .wind }) s
  |> modAwn (fun a => { a with lastAuto := some .wind }) |> signal (.chan .awning)

/-- A wind retract request (R139, R140); with ALL_STOP active its START is refused and nothing is done. -/
def windRequest (s : State) : State :=
  let q := chanOf s .awning
  let active := q.state == .pending || q.state == .running
  if allStopActive s then s
  else
    let s1 := if active && q.op == some .extend then
        endMotion .awning .interlock (.aborted (.item .wind)) s else s
    let p := startMotion .awning .autoRetract false 0 .automatic (some .wind) s1
    match p.1 with
    | .accepted => clearRooms (modSup (fun u => { u with owed := none }) p.2)
    | .deferred => clearRooms (modSup (fun u => { u with owed := none }) p.2)
    | .already => clearRooms (modSup (fun u => { u with owed := none }) (rewriteCause p.2))
    | _ => p.2

/-- A wind bin ends (R137): speeds, lockout, request and alert condition, after a wake where the part is in WATCH (R142). -/
def windBinEnd (s : State) : State :=
  let s1 := windBin s
  if windAtThreshold s1 then
    let s2 := startLockout s1
    if windCalls s2 then modWind (fun w => { w with retract := true }) (windRequest (wake .wind s2)) else s2
  else s1

/-- The lockout ends, and with it the WIND_RETRACT condition (R137). -/
def lockoutEnds (s : State) : State := modWind (fun w => { w with lockout := none, retract := false }) s

end Sys2Proof.Machine
end

