-- ==== Sys2Proof/Machine/LinkCommands.lean ====
section
/-! DEFINITION. The meanings of the receiver, transmitter and telemetry commands (R173 to R180). -/

namespace Sys2Proof.Machine

open Host (Outcome)

/-- A frame whose CHECK fails is discarded and the receiver enters HUNT (R174). -/
def execFrameBadCheck (s : State) : Outcome State Fault Refusal :=
  .next (whenLive (takeBadFrame .hunt) s)

/-- A frame whose LENGTH exceeds 120 is discarded and the receiver enters DRAIN (R173). -/
def execFrameTooLong (s : State) : Outcome State Fault Refusal :=
  .next (whenLive (takeBadFrame .drain) s)

/-- One byte is received (R173). -/
def execLinkByte (b : Byte) (s : State) : Outcome State Fault Refusal :=
  .next (whenLive (receiveByte b) s)

/-- A SYNC byte is received in WATCH or SLEEP (R173, R191). Taken when another cause has already woken the part, it wakes
nothing and is lost: the receiver enters DRAIN (R144). [log 13, DEDUCED.] -/
def execSyncAtRest (s : State) : Outcome State Fault Refusal :=
  .next (whenLive (fun t => if t.link.rx = .hunt then wakeByLink t else t) s)

/-- 20 byte-times pass without a byte in ASSEMBLING: the partial frame is discarded (R173). [log 5, DESIGN CHOICE.] -/
def execAssemblyGapTimeout (s : State) : Outcome State Fault Refusal :=
  .next (whenLive (fun t =>
    if t.link.rx = .assembling then modLink (fun l => { l with rx := .hunt, rxBuf := [] }) t else t) s)

/-- 20 byte-times pass without a byte in DRAIN: the receiver enters HUNT (R173). [log 5, DESIGN CHOICE.] -/
def execDrainQuietTimeout (s : State) : Outcome State Fault Refusal :=
  .next (whenLive (fun t => if t.link.rx = .drain then modLink (fun l => { l with rx := .hunt }) t else t) s)

/-- The held request is handed to service as a reply leaves the buffer (R174). -/
def execHeldRequestServed (s : State) : Outcome State Fault Refusal :=
  .next (whenLive serveHeld s)

/-- The transmitter finishes a frame and chooses the next (R176). [log 5, DESIGN CHOICE.] -/
def execFrameSent (s : State) : Outcome State Fault Refusal :=
  .next (whenLive frameSent s)

/-- The telemetry timer expires: TELEMETRY joins the queue and the interval begins again (R180). [log 45, DEDUCED.] -/
def execTelemetryTimerExpiry (s : State) : Outcome State Fault Refusal :=
  .next (onDue (telemetryDue s) (fun t => queueSource .telemetry t |> modLink (fun l => { l with
    telemetryAt := l.telemetryAt.map (fun x => x + t.store.cfg.telemetryInterval) })) s)

/-- 100 ms have passed since the last TELEMETRY report began, in IDLE_FILL mode (R176, R180). -/
def execIdleFillSpacingExpiry (s : State) : Outcome State Fault Refusal :=
  .next (whenLive (fun t => if idleFillDue t then transmit t else t) s)

end Sys2Proof.Machine
end

