-- ==== Sys2Proof/Machine/MotionCommands.lean ====
section
/-! DEFINITION. The meanings of the commands of the levelling engine, the pump, the rooms, the awning and the wind watch. -/

namespace Sys2Proof.Machine

open Host (Outcome)

/-- SETTLE gives up after 5 s (R70). -/
def execSettleGiveUp (s : State) : Outcome State Fault Refusal :=
  .next (onDue (giveUpDue s) (settleEnd true) s)

/-- The 60 s of GROUND or of the reground step pass: NO_GROUND lists every present jack not in GROUND (R69, R75). -/
def execGroundTimeLimit (s : State) : Outcome State Fault Refusal :=
  .next (onDue (groundLimitDue s) (fun t => fail .level .noGround (.jacks (jacksWith t (· != .ground))) t) s)

/-- The 90 s of LIFT pass with a valve open (R72). -/
def execLiftTimeLimit (s : State) : Outcome State Fault Refusal :=
  .next (onDue (liftLimitDue s) (fun t => fail .level .stall (.jacks (openJacks t)) t) s)

/-- The 2 s of the stall judgement pass (R73). -/
def execLevelStall (s : State) : Outcome State Fault Refusal :=
  .next (onDue (stallDue s) (fun t => fail .level .stall (.jacks (openJacks t)) t) s)

/-- The 500 ms between trim steps pass: the next test is made (R76). -/
def execTrimWaitEnd (s : State) : Outcome State Fault Refusal :=
  .next (onDue (trimWaitDue s) trimTest s)

/-- The 90 s of TRIM pass with a step valve open (R76). -/
def execTrimTimeLimit (s : State) : Outcome State Fault Refusal :=
  .next (onDue (trimLimitDue s) (fun t => fail .level .stall (.jacks (openJacks t)) t) s)

/-- The 120 s of STOW pass: NOT_STOWED lists the jacks (R79). -/
def execStowTimeLimit (s : State) : Outcome State Fault Refusal :=
  .next (onDue (stowLimitDue s) (fun t => fail .level .notStowed (.jacks (jacksWith t (· != .stowed))) t) s)

/-- The drift timer has run 10 s: the coach is DISTURBED (R83). -/
def execDriftTimerExpiry (s : State) : Outcome State Fault Refusal :=
  .next (onDue (driftDue s) (setLevelStatus .disturbed) s)

/-- The pump's cooldown ends: the run ends, the hot flag clears and PUMP_HOT ceases, and then a scan starts (R47, R48). -/
def execCooldownEnd (s : State) : Outcome State Fault Refusal :=
  .next (onDue (cooldownDue s) (fun t =>
    modPump (fun p => { p with runState := .none, runTime := 0, hot := false, tripped := false }) t
    |> refreshAlerts |> modSup (fun u => { u with scanDue := true })) s)

/-- The pump's run time reaches 180 s: pump off, hot flag and PUMP_HOT, then PUMP_TIME (R49). A trip of the pump driver that was
about to complete cannot follow (R58). [log 65, DEDUCED.] -/
def execPumpDutyLimit (s : State) : Outcome State Fault Refusal :=
  .next (onDue (dutyDue s) (fun t =>
    let u := modPump (fun p => { p with hot := true }) (pumpStop false t)
      |> modMon (fun m => { m with tripSince := m.tripSince.set .pump none }) |> refreshAlerts
    match t.man.pump.holder with
    | some c => fail c .pumpTime .none u
    | none => u) s)

/-- The deadhead second of a HYDRAULIC room is complete (R54). -/
def execHydraulicDeadheadEnd (r : Room) (s : State) : Outcome State Fault Refusal :=
  .next (onDue (deadheadDue s r) (hydraulicArrive r) s)

/-- A HYDRAULIC room's travel time limit passes (R55). -/
def execHydraulicTravelTime (r : Room) (s : State) : Outcome State Fault Refusal :=
  .next (onDue (travelDue s r) (fail (.room r) .travelTime .none) s)

/-- A hall pulse of a room end (R103). -/
def execRoomHallPulse (r : Room) (e : Side) (s : State) : Outcome State Fault Refusal :=
  .next (whenLive (fun t => finish (roomPulse r e t)) s)

/-- A room end's pulse-late timer reaches the window (R112, R113). -/
def execRoomPulseLateExpiry (r : Room) (e : Side) (s : State) : Outcome State Fault Refusal :=
  .next (onDue (roomLateDue s r e) (roomLateExpiry r e) s)

/-- A room end stalls (R114 to R119). -/
def execRoomStall (r : Room) (e : Side) (s : State) : Outcome State Fault Refusal :=
  .next (onDue (roomStallDue s r e) (roomStalled r e) s)

/-- The reversal interval of a LEARN ends (R118). -/
def execLearnReversalEnd (r : Room) (s : State) : Outcome State Fault Refusal :=
  .next (onDue (reversalDue s r) (learnReverse r) s)

/-- A hall pulse of the awning (R128). -/
def execAwningHallPulse (s : State) : Outcome State Fault Refusal :=
  .next (whenLive (fun t => finish (awningPulse t)) s)

/-- The awning's pulse-late timer reaches the window (R129). -/
def execAwningPulseLateExpiry (s : State) : Outcome State Fault Refusal :=
  .next (onDue (awningLateDue s) awningLateExpiry s)

/-- The awning stalls (R129, R132, R133). -/
def execAwningStall (s : State) : Outcome State Fault Refusal :=
  .next (onDue (awningStallDue s) awningStalled s)

/-- An anemometer pulse is counted in its bin, in RUN and WATCH with the sensor fitted (R135, R143). -/
def execAnemometerPulse (s : State) : Outcome State Fault Refusal :=
  .next (whenLive (fun t =>
    if t.store.cfg.windFitted && t.power.state != .sleep && t.wind.binEnd.isSome then
      modWind (fun w => { w with bin := w.bin + 1 }) t
    else t) s)

/-- A wind bin ends (R135 to R137). -/
def execWindBinEnd (s : State) : Outcome State Fault Refusal :=
  .next (onDue (windBinDue s) windBinEnd s)

/-- The wind lockout reaches 0 (R137). -/
def execLockoutEnd (s : State) : Outcome State Fault Refusal :=
  .next (onDue (lockoutDue s) lockoutEnds s)

end Sys2Proof.Machine
end

