-- ==== Sys2Proof/Machine/PartCommands.lean ====
section
/-! DEFINITION. The meanings of the commands of resets and start-up, memory jobs, channels, terminals, switches and the scanner. -/

namespace Sys2Proof.Machine

open Host (Outcome)

/-- A POWER_ON reset (R192). -/
def execPowerOnReset (s : State) : Outcome State Fault Refusal :=
  .next (resetPart .powerOn s)

/-- A PIN reset (R192). -/
def execPinReset (s : State) : Outcome State Fault Refusal :=
  .next (resetPart .pin s)

/-- A REQUEST reset, once the last byte of RESET_PART's reply has been sent (R192). -/
def execRequestReset (s : State) : Outcome State Fault Refusal :=
  .next (if s.link.resetDue then resetPart .request s else s)

/-- Start-up ends (R192). [log 5, DESIGN CHOICE.] -/
def execStartUpEnd (reads : StartUpReads) (s : State) : Outcome State Fault Refusal :=
  .next (if s.power.startingUp then finishStartUp (startUp reads s) else s)

/-- The image write of a SAVE ends (R187). [log 5, DESIGN CHOICE.] -/
def execImageWriteEnd (ok : Bool) (s : State) : Outcome State Fault Refusal :=
  .next (whenLive (fun t => match t.store.job with
    | some (.image c) => finish (imageWritten c ok t)
    | _ => t) s)

/-- A marker clear ends (R187, R189). [log 5, DESIGN CHOICE.] -/
def execMarkerClearEnd (ok : Bool) (s : State) : Outcome State Fault Refusal :=
  .next (whenLive (fun t => match t.store.job with
    | some .markerClear => finish (markerCleared ok t)
    | _ => t) s)

/-- A snapshot write ends (R187, R189). [log 5, DESIGN CHOICE.] -/
def execSnapshotWriteEnd (ok : Bool) (s : State) : Outcome State Fault Refusal :=
  .next (whenLive (fun t => match t.store.job with
    | some (.snapshot (some c)) => finish (snapshotWritten c ok t)
    | _ => t) s)

/-- An admission scan (R7). [log 43, DEDUCED.] -/
def execAdmissionScan (s : State) : Outcome State Fault Refusal :=
  .next (whenLive (fun t => finish (scan t)) s)

/-- A waiting entry's wait timeout passes (R12). -/
def execWaitExpired (ch : Ch) (s : State) : Outcome State Fault Refusal :=
  .next (onDue (waitOver s ch) (cancel ch .waitExpired) s)

/-- A hold deadline passes without renewal (R14). -/
def execHoldExpiry (ch : Ch) (s : State) : Outcome State Fault Refusal :=
  .next (onDue (holdOver s ch) (releaseMotion ch) s)

/-- A stopping interval ends (R18). -/
def execStoppingEnd (ch : Ch) (s : State) : Outcome State Fault Refusal :=
  .next (onDue (stoppingDue s ch) (stoppingEnd ch) s)

/-- A raw level of a general input changes (R162). -/
def execInputRawChange (t : Fin 16) (high : Bool) (s : State) : Outcome State Fault Refusal :=
  .next (whenLive (rawLevel t high) s)

/-- A debounce timer expires (R162). -/
def execInputDebounceExpiry (t : Fin 16) (s : State) : Outcome State Fault Refusal :=
  .next (onDue (debounceDue s t) (debounced t) s)

/-- A speed pulse of a width in ms (R163). -/
def execSpeedPulse (width : Nat) (s : State) : Outcome State Fault Refusal :=
  .next (whenLive (fun t => finish (speedPulse width t)) s)

/-- The oldest speed pulse falls out of the last 1000 ms (R163). -/
def execSpeedWindowExpiry (s : State) : Outcome State Fault Refusal :=
  .next (onDue (speedWindowDue s) speedWindow s)

/-- A debounced stowed switch changes (R61). [log 41, DEDUCED.] -/
def execStowedSwitchChange (j : Jack) (active : Bool) (s : State) : Outcome State Fault Refusal :=
  .next (whenLive (fun t => finish (stowedSwitch j active t)) s)

/-- A debounced in-switch of a room changes (R104). [log 41, DEDUCED.] -/
def execRoomInSwitchChange (r : Room) (active : Bool) (s : State) : Outcome State Fault Refusal :=
  .next (whenLive (fun t => finish (roomSwitch r active t)) s)

/-- The awning's debounced in-switch changes (R128). [log 41, DEDUCED.] -/
def execAwningInSwitchChange (active : Bool) (s : State) : Outcome State Fault Refusal :=
  .next (whenLive (fun t => finish (awningSwitch active t)) s)

/-- An analog scan (R169). -/
def execAnalogScan (reads : Analog) (s : State) : Outcome State Fault Refusal :=
  .next (whenLive (fun t => finish (analogScan reads t)) s)

/-- A sensor fault flag's in-band timer reaches 1 s (R170). -/
def execSensorFlagClear (flag : SensorFlag) (s : State) : Outcome State Fault Refusal :=
  .next (onDue (flagDue s flag) (match flag with
    | .jack j => clearJackFlag j
    | .line => clearLineFlag) s)

/-- A driver's trip timer reaches 50 ms (R155). -/
def execTripTimerExpiry (d : Driver) (s : State) : Outcome State Fault Refusal :=
  .next (onDue (tripDue s d) (trip d) s)

/-- A fault-sense line changes (R156): in RUN, where the current samples read it, it is taken; in WATCH and SLEEP it waits for
the first current sample after the wake. [log 41, DEDUCED; log 44, DEDUCED.] -/
def execFaultSenseChange (d : Driver) (active : Bool) (s : State) : Outcome State Fault Refusal :=
  .next (whenLive (fun t =>
    let u := modMon (fun m => { m with senseLines := m.senseLines.set d active }) t
    finish (if t.power.state = .run then readSense u d else u)) s)

/-- An inclinometer poll ends (R171). -/
def execInclinometerPoll (read : Option RawGrad) (s : State) : Outcome State Fault Refusal :=
  .next (whenLive (fun t => finish (inclinometerPoll read t)) s)

end Sys2Proof.Machine
end

