-- ==== Sys2Proof/Machine/RequestCommands.lean ====
section
/-! DEFINITION. The meanings of the request commands: the whole frame of one request reaches the receiver (R173 to R175). -/

namespace Sys2Proof.Machine

open Host (Outcome)

/-- START (R4, R5). -/
def execStart (tag : Byte) (ch : Ch) (op : Op) (hold : Bool) (operand : Half) (s : State) : Outcome State Fault Refusal :=
  .next (whenLive (takeRequest tag (.start ch op hold operand)) s)

/-- HOLD (R13). -/
def execHold (tag : Byte) (ch : Ch) (s : State) : Outcome State Fault Refusal :=
  .next (whenLive (takeRequest tag (.hold ch)) s)

/-- STOP (R15). -/
def execStop (tag : Byte) (ch : Ch) (s : State) : Outcome State Fault Refusal :=
  .next (whenLive (takeRequest tag (.stop ch)) s)

/-- CLEAR (R19, R156). -/
def execClear (tag : Byte) (ch : Ch) (s : State) : Outcome State Fault Refusal :=
  .next (whenLive (takeRequest tag (.clear ch)) s)

/-- READ_INPUTS (R164). -/
def execReadInputs (tag : Byte) (s : State) : Outcome State Fault Refusal :=
  .next (whenLive (takeRequest tag .readInputs) s)

/-- SET_LINK_OUTPUTS (R168). -/
def execSetLinkOutputs (tag mask : Byte) (s : State) : Outcome State Fault Refusal :=
  .next (whenLive (takeRequest tag (.setLinkOutputs mask)) s)

/-- READ_SUPPLY (R159). -/
def execReadSupply (tag : Byte) (s : State) : Outcome State Fault Refusal :=
  .next (whenLive (takeRequest tag .readSupply) s)

/-- GET (R185). -/
def execGet (tag group index : Byte) (s : State) : Outcome State Fault Refusal :=
  .next (whenLive (takeRequest tag (.get group index)) s)

/-- SET (R186). -/
def execSet (tag group index : Byte) (value : BitVec 32) (s : State) : Outcome State Fault Refusal :=
  .next (whenLive (takeRequest tag (.set group index value)) s)

/-- SAVE (R187). -/
def execSave (tag : Byte) (s : State) : Outcome State Fault Refusal :=
  .next (whenLive (takeRequest tag .save) s)

/-- LOAD_DEFAULTS (R188). -/
def execLoadDefaults (tag : Byte) (s : State) : Outcome State Fault Refusal :=
  .next (whenLive (takeRequest tag .loadDefaults) s)

/-- ENTER_WATCH (R190). -/
def execEnterWatch (tag : Byte) (s : State) : Outcome State Fault Refusal :=
  .next (whenLive (takeRequest tag .enterWatch) s)

/-- ENTER_SLEEP (R190). -/
def execEnterSleep (tag : Byte) (s : State) : Outcome State Fault Refusal :=
  .next (whenLive (takeRequest tag .enterSleep) s)

/-- RESET_PART (R192). -/
def execResetPart (tag : Byte) (s : State) : Outcome State Fault Refusal :=
  .next (whenLive (takeRequest tag .resetPart) s)

/-- PAUSE_REPORTS (R179). -/
def execPauseReports (tag : Byte) (s : State) : Outcome State Fault Refusal :=
  .next (whenLive (takeRequest tag .pauseReports) s)

/-- RESUME_REPORTS (R179). -/
def execResumeReports (tag : Byte) (s : State) : Outcome State Fault Refusal :=
  .next (whenLive (takeRequest tag .resumeReports) s)

/-- REQUEST_REPORT (R179). -/
def execRequestReport (tag : Byte) (source : Source) (s : State) : Outcome State Fault Refusal :=
  .next (whenLive (takeRequest tag (.requestReport source)) s)

/-- ACK_ALERT (R182). -/
def execAckAlert (tag : Byte) (mask : Half) (s : State) : Outcome State Fault Refusal :=
  .next (whenLive (takeRequest tag (.ackAlert mask)) s)

/-- GET_IDENTITY (R183). -/
def execGetIdentity (tag : Byte) (s : State) : Outcome State Fault Refusal :=
  .next (whenLive (takeRequest tag .getIdentity) s)

/-- A well-formed frame that cannot be decoded (R175, R194). -/
def execBadRequest (tag kind : Byte) (s : State) : Outcome State Fault Refusal :=
  .next (whenLive (takeRequest tag (.bad kind)) s)

end Sys2Proof.Machine
end

