-- ==== Sys2Proof/Machine/Dispatch.lean ====
section
/-! DEFINITION. The dispatch: one arm per command, each one call of its meaning. -/

namespace Sys2Proof.Machine

def exec (i : Instr) (s : State) : Host.Outcome State Fault Refusal :=
  match i with
  | .start tag ch op hold operand => Sys2Proof.Machine.execStart tag ch op hold operand s
  | .hold tag ch => Sys2Proof.Machine.execHold tag ch s
  | .stop tag ch => Sys2Proof.Machine.execStop tag ch s
  | .clear tag ch => Sys2Proof.Machine.execClear tag ch s
  | .readInputs tag => Sys2Proof.Machine.execReadInputs tag s
  | .setLinkOutputs tag mask => Sys2Proof.Machine.execSetLinkOutputs tag mask s
  | .readSupply tag => Sys2Proof.Machine.execReadSupply tag s
  | .get tag group index => Sys2Proof.Machine.execGet tag group index s
  | .set tag group index value => Sys2Proof.Machine.execSet tag group index value s
  | .save tag => Sys2Proof.Machine.execSave tag s
  | .loadDefaults tag => Sys2Proof.Machine.execLoadDefaults tag s
  | .enterWatch tag => Sys2Proof.Machine.execEnterWatch tag s
  | .enterSleep tag => Sys2Proof.Machine.execEnterSleep tag s
  | .resetPart tag => Sys2Proof.Machine.execResetPart tag s
  | .pauseReports tag => Sys2Proof.Machine.execPauseReports tag s
  | .resumeReports tag => Sys2Proof.Machine.execResumeReports tag s
  | .requestReport tag source => Sys2Proof.Machine.execRequestReport tag source s
  | .ackAlert tag mask => Sys2Proof.Machine.execAckAlert tag mask s
  | .getIdentity tag => Sys2Proof.Machine.execGetIdentity tag s
  | .badRequest tag kind => Sys2Proof.Machine.execBadRequest tag kind s
  | .frameBadCheck => Sys2Proof.Machine.execFrameBadCheck s
  | .frameTooLong => Sys2Proof.Machine.execFrameTooLong s
  | .linkByte b => Sys2Proof.Machine.execLinkByte b s
  | .syncAtRest => Sys2Proof.Machine.execSyncAtRest s
  | .assemblyGapTimeout => Sys2Proof.Machine.execAssemblyGapTimeout s
  | .drainQuietTimeout => Sys2Proof.Machine.execDrainQuietTimeout s
  | .heldRequestServed => Sys2Proof.Machine.execHeldRequestServed s
  | .frameSent => Sys2Proof.Machine.execFrameSent s
  | .telemetryTimerExpiry => Sys2Proof.Machine.execTelemetryTimerExpiry s
  | .idleFillSpacingExpiry => Sys2Proof.Machine.execIdleFillSpacingExpiry s
  | .powerOnReset => Sys2Proof.Machine.execPowerOnReset s
  | .pinReset => Sys2Proof.Machine.execPinReset s
  | .requestReset => Sys2Proof.Machine.execRequestReset s
  | .startUpEnd reads => Sys2Proof.Machine.execStartUpEnd reads s
  | .imageWriteEnd ok => Sys2Proof.Machine.execImageWriteEnd ok s
  | .markerClearEnd ok => Sys2Proof.Machine.execMarkerClearEnd ok s
  | .snapshotWriteEnd ok => Sys2Proof.Machine.execSnapshotWriteEnd ok s
  | .admissionScan => Sys2Proof.Machine.execAdmissionScan s
  | .waitExpired ch => Sys2Proof.Machine.execWaitExpired ch s
  | .holdExpiry ch => Sys2Proof.Machine.execHoldExpiry ch s
  | .stoppingEnd ch => Sys2Proof.Machine.execStoppingEnd ch s
  | .inputRawChange t high => Sys2Proof.Machine.execInputRawChange t high s
  | .inputDebounceExpiry t => Sys2Proof.Machine.execInputDebounceExpiry t s
  | .speedPulse width => Sys2Proof.Machine.execSpeedPulse width s
  | .speedWindowExpiry => Sys2Proof.Machine.execSpeedWindowExpiry s
  | .stowedSwitchChange j active => Sys2Proof.Machine.execStowedSwitchChange j active s
  | .roomInSwitchChange r active => Sys2Proof.Machine.execRoomInSwitchChange r active s
  | .awningInSwitchChange active => Sys2Proof.Machine.execAwningInSwitchChange active s
  | .analogScan reads => Sys2Proof.Machine.execAnalogScan reads s
  | .sensorFlagClear flag => Sys2Proof.Machine.execSensorFlagClear flag s
  | .tripTimerExpiry d => Sys2Proof.Machine.execTripTimerExpiry d s
  | .faultSenseChange d active => Sys2Proof.Machine.execFaultSenseChange d active s
  | .inclinometerPoll read => Sys2Proof.Machine.execInclinometerPoll read s
  | .settleGiveUp => Sys2Proof.Machine.execSettleGiveUp s
  | .groundTimeLimit => Sys2Proof.Machine.execGroundTimeLimit s
  | .liftTimeLimit => Sys2Proof.Machine.execLiftTimeLimit s
  | .levelStall => Sys2Proof.Machine.execLevelStall s
  | .trimWaitEnd => Sys2Proof.Machine.execTrimWaitEnd s
  | .trimTimeLimit => Sys2Proof.Machine.execTrimTimeLimit s
  | .stowTimeLimit => Sys2Proof.Machine.execStowTimeLimit s
  | .driftTimerExpiry => Sys2Proof.Machine.execDriftTimerExpiry s
  | .cooldownEnd => Sys2Proof.Machine.execCooldownEnd s
  | .pumpDutyLimit => Sys2Proof.Machine.execPumpDutyLimit s
  | .hydraulicDeadheadEnd r => Sys2Proof.Machine.execHydraulicDeadheadEnd r s
  | .hydraulicTravelTime r => Sys2Proof.Machine.execHydraulicTravelTime r s
  | .roomHallPulse r e => Sys2Proof.Machine.execRoomHallPulse r e s
  | .roomPulseLateExpiry r e => Sys2Proof.Machine.execRoomPulseLateExpiry r e s
  | .roomStall r e => Sys2Proof.Machine.execRoomStall r e s
  | .learnReversalEnd r => Sys2Proof.Machine.execLearnReversalEnd r s
  | .awningHallPulse => Sys2Proof.Machine.execAwningHallPulse s
  | .awningPulseLateExpiry => Sys2Proof.Machine.execAwningPulseLateExpiry s
  | .awningStall => Sys2Proof.Machine.execAwningStall s
  | .anemometerPulse => Sys2Proof.Machine.execAnemometerPulse s
  | .windBinEnd => Sys2Proof.Machine.execWindBinEnd s
  | .lockoutEnd => Sys2Proof.Machine.execLockoutEnd s

end Sys2Proof.Machine
end

