-- ==== Sys2Proof/Safety.lean ====
section
/-! DEFINITION. What a safe state of the part is, in the terms of the claims: the promises that chapters 1 to 11 make about every moment, each with the clauses that carry it through a step. -/

namespace Sys2Proof.Machine

/-- The part has started up, is in RUN, hunts for a frame and has room for a reply: a request sent now is served. -/
structure State.Listening (s : State) : Prop where
  live : s.power.startingUp = false
  run : s.power.state = .run
  hunt : s.link.rx = .hunt
  room : s.link.replies.length < Config.maxReplies

/-- One reply has joined the reply buffer, and nothing else of the link port has moved but the transmitter's line and the
attention line. -/
def State.Answered (s t : State) (kind tag : Byte) (payload : List Byte) : Prop :=
  t.link = { s.link with
    replies := s.link.replies ++ [{ kind := kind, tag := tag, payload := payload }]
    tx := t.link.tx, attention := t.link.attention }

/-- One reply has joined the reply buffer before the step ends, and nothing else of the link port has moved but the report
queue, which has lost nothing. -/
def State.Replied (s u : State) (kind tag : Byte) (payload : List Byte) : Prop :=
  u.link = { s.link with
    replies := s.link.replies ++ [{ kind := kind, tag := tag, payload := payload }], reports := u.link.reports } ∧
  ∀ x ∈ s.link.reports, x ∈ u.link.reports

/-- The start queue holds each PENDING channel once and nothing else (R7), an absent channel is IDLE (R1, R2), no channel
moves outside RUN (R190), and none during start-up. -/
structure State.ChannelsOk (s : State) : Prop where
  nodup : (s.sup.queue.map QEntry.ch).Nodup
  queued : ∀ c : Ch, c ∈ s.sup.queue.map QEntry.ch ↔ (chanOf s c).state = .pending
  absent : ∀ c : Ch, s.present c = false → (chanOf s c).state = .idle
  rest : s.power.state ≠ .run → ∀ c : Ch, (chanOf s c).state = .idle ∨ (chanOf s c).state = .faulted
  start : s.power.startingUp = true → s.power.state = .run ∧ ∀ c : Ch, (chanOf s c).state = .idle

/-- No jack valve is open while the direction valve is at RETRACT and a present room is other than IN (R46); an open jack
valve belongs to the holder LEVEL (R43, R44). -/
structure State.ManifoldOk (s : State) : Prop where
  owned : ∀ j : Jack, valveOpen s j = true → s.man.pump.holder = some .level
  retract : s.man.dirValve = .retract → someRoomOut s = true → ∀ j : Jack, valveOpen s j = false
  start : s.power.startingUp = true → ∀ j : Jack, valveOpen s j = false

/-- Room motors are driven only while the room's channel is RUNNING (R107), and a RUNNING twin room is within its rack
limit, so that no motor of a room racked beyond it is driven (R111). -/
structure State.RackOk (s : State) : Prop where
  driven : ∀ (r : Room) (e : Side), (endOf s r e).drive ≠ .brake → isRunning s (.room r) = true
  within : ∀ r : Room, isRunning s (.room r) = true → racked s r = false
  start : s.power.startingUp = true → ∀ r : Room, isRunning s (.room r) = false

/-- The awning motor is driven only while AWNING is RUNNING (R129), outward only by an EXTEND, and never outward while the
lockout runs (R138); a lockout runs only with the sensor fitted (R143). -/
structure State.WindOk (s : State) : Prop where
  driven : s.awn.drive ≠ .brake → isRunning s .awning = true
  outward : s.awn.drive = .dout → (chanOf s .awning).op = some .extend
  fitted : s.wind.lockout ≠ none → s.store.cfg.windFitted = true
  held : s.wind.lockout ≠ none → s.awn.drive ≠ .dout
  start : s.power.startingUp = true → s.wind.lockout = none

/-- No room or awning end carries more than three consecutive assumed pulses (R112). -/
def State.AssumedOk (s : State) : Prop :=
  s.awn.consec ≤ 3 ∧ ∀ (r : Room) (e : Side), (endOf s r e).consec ≤ 3

/-- No source is queued twice (R177). -/
def State.ReportsOk (s : State) : Prop := s.link.reports.Nodup

/-- At most four replies wait (R175). -/
def State.RepliesOk (s : State) : Prop := s.link.replies.length ≤ Config.maxReplies

/-- The working configurations that a state holds: the table, the stored image and the images of the waiting jobs. -/
def Job.cfgs : Job → List Cfg
  | .image c => [c]
  | _ => []

def State.cfgs (s : State) : List Cfg :=
  s.store.cfg :: (s.store.image.toList ++ s.store.job.toList.flatMap Job.cfgs ++ s.store.waiting.flatMap Job.cfgs)

/-- Budget and awning demand lie in their ranges (R151), so that the reserve fits the budget. -/
def Cfg.budgetInRange (c : Cfg) : Prop := 40 ≤ c.budget ∧ c.awningDemand ≤ 30

/-- No two input terminals and no two output terminals hold one role (R160). -/
def Cfg.rolesOk (c : Cfg) : Prop :=
  (∀ t u : Fin 16, c.entry .terminals (4 * t.val) = c.entry .terminals (4 * u.val) → c.entry .terminals (4 * t.val) ≠ 0 → t = u) ∧
  (∀ o p : Fin 8,
    c.entry .terminals (67 + 2 * o.val) = c.entry .terminals (67 + 2 * p.val) → c.entry .terminals (67 + 2 * o.val) ≠ 0 → o = p)

def State.RolesOk (s : State) : Prop := ∀ c ∈ s.cfgs, c.rolesOk

/-- A channel holds a reservation exactly while it is RUNNING or STOPPING, the reserve belongs to AWNING alone, and the
ordinary reservations fit the ordinary budget (R152, R153). -/
structure State.BudgetOk (s : State) : Prop where
  channels : s.ChannelsOk
  ranges : ∀ c ∈ s.cfgs, c.budgetInRange
  entries : ∀ c : Ch, (s.mon.resv.get c).isSome = runningOrStopping s c
  reserve : ∀ (c : Ch) (q : Resv), s.mon.resv.get c = some q → q.fromReserve = true →
    c = .awning ∧ q.amps = s.store.cfg.awningDemand
  ordinary : ordinarySum s + s.store.cfg.awningDemand ≤ s.store.cfg.budget
  autoOnly : ∀ c : Ch, (chanOf s c).op = some .autoRetract → c = .awning
  deferredOnly : ∀ (c : Ch) (d : Deferred), (chanOf s c).deferred = some d → d.op = .autoRetract → c = .awning

/-- The step changed the link port alone. -/
def State.OnlyLink (s t : State) : Prop := t = { s with link := t.link }

/-- A request command is answered by its reply and nothing else: every block but the link port is as it was, and the link
port has moved only its reply buffer, the transmitter's line and the attention line. -/
def State.AnswersOnly (s : State) (i : Instr) (kind tag : Byte) (payload : List Byte) : Prop :=
  ∃ t, exec i s = .next t ∧ s.OnlyLink t ∧ s.Answered t kind tag payload

/-- The tag and the request of a request command; none for an event. -/
def requestOf : Instr → Option (Byte × Req)
  | .start tag c o h v => some (tag, .start c o h v)
  | .hold tag c => some (tag, .hold c)
  | .stop tag c => some (tag, .stop c)
  | .clear tag c => some (tag, .clear c)
  | .readInputs tag => some (tag, .readInputs)
  | .setLinkOutputs tag m => some (tag, .setLinkOutputs m)
  | .readSupply tag => some (tag, .readSupply)
  | .get tag g i => some (tag, .get g i)
  | .set tag g i v => some (tag, .set g i v)
  | .save tag => some (tag, .save)
  | .loadDefaults tag => some (tag, .loadDefaults)
  | .enterWatch tag => some (tag, .enterWatch)
  | .enterSleep tag => some (tag, .enterSleep)
  | .resetPart tag => some (tag, .resetPart)
  | .pauseReports tag => some (tag, .pauseReports)
  | .resumeReports tag => some (tag, .resumeReports)
  | .requestReport tag x => some (tag, .requestReport x)
  | .ackAlert tag m => some (tag, .ackAlert m)
  | .getIdentity tag => some (tag, .getIdentity)
  | .badRequest tag k => some (tag, .bad k)
  | _ => none

/-- The command is a reset or the end of start-up. -/
def isReset : Instr → Bool
  | .powerOnReset => true
  | .pinReset => true
  | .requestReset => true
  | .startUpEnd _ => true
  | _ => false

/-- The channel stands in STOPPING with a termination that its motion's owner had, counted, and its stopping interval
running from the present time (R16, R18); `s` is the state before. -/
def State.Stopped (s t : State) (c : Ch) (w : Term) : Prop :=
  (chanOf t c).state = .stopping ∧ (chanOf t c).last = some ⟨w, (chanOf s c).owner⟩ ∧
    (chanOf t c).completions = min 255 ((chanOf s c).completions + 1) ∧
    (chanOf t c).stopEnds = s.now + stopInterval s c

/-- The channel has been cancelled with a detail: IDLE, out of the queue, its operation and owner removed, the
termination counted (R17); `s` is the state before. -/
def State.Cancelled (s t : State) (c : Ch) (d : CancelDetail) : Prop :=
  (chanOf t c).state = .idle ∧ (chanOf t c).op = none ∧ (chanOf t c).owner = none ∧ (chanOf t c).hold = false ∧
    (chanOf t c).waiting = none ∧ (chanOf t c).last = some ⟨.cancelled d, (chanOf s c).owner⟩ ∧
    (chanOf t c).completions = min 255 ((chanOf s c).completions + 1) ∧ c ∉ t.sup.queue.map QEntry.ch

end Sys2Proof.Machine
end

