-- ==== Sys2Proof/WellFormed.lean ====
section
/-! DEFINITION. Which commands lie within the encodings of 12.2 and R194; the part answers a request outside them BAD_REQUEST. -/

namespace Sys2Proof

/-- The group and index name an entry (R185, R194). -/
def entryExists (g i : Byte) : Bool :=
  match Machine.Group.ofCode g.toNat with
  | some q => (Machine.entrySpec q i.toNat).isSome
  | none => false

/-- The value of a SET has a meaning where its entry is enumerated (R194). -/
def setValueAllowed (g i : Byte) (v : BitVec 32) : Bool :=
  match Machine.Group.ofCode g.toNat with
  | some q => match Machine.entrySpec q i.toNat with
    | some e => Machine.codeAllowed e v.toInt
    | none => false
  | none => false

/-- A command's operands lie within their encodings (R194). Commands that are no requests take any operand. -/
def Instr.wellFormed : Instr → Bool
  | .start _ c o _ v => Machine.startEncoded c o v
  | .setLinkOutputs _ m => (Machine.Req.setLinkOutputs m).encoded
  | .get _ g i => entryExists g i
  | .set _ g i v => setValueAllowed g i v
  | .ackAlert _ m => (Machine.Req.ackAlert m).encoded
  | .badRequest _ _ => false
  | _ => true

end Sys2Proof
end

