-- ==== Sys2Proof/Certificates/Slice0/Obligations.lean ====
section
/-! DEFINITION. The statements for the provers: what each command of the part does, what it leaves, and what every step keeps. -/

open Sys2Proof Sys2Proof.Machine

/-! ### The step and the queue of commands -/

/-- The step takes the command at the front of the queue and runs it with the queue's rest. -/
def Obligations.StepRunsFront : Prop :=
  ∀ (c : Instr) (rest : List Instr) (s : State),
    step { s with pending := c :: rest } = exec c { s with pending := rest }

/-- The model's clock (log 1, a choice of the model): on an empty queue one millisecond passes. The pump's run time and
cooldown move (R41, R47, R48), the pendant renews its holds (R166), a report that waits at an idle transmitter begins
(R176, R178), the expiries that are due join the queue, and nothing else changes; during start-up only the clock moves. -/
def Obligations.EmptyQueueTicks : Prop :=
  ∀ s : State, s.pending = [] →
    (s.power.startingUp = true → step s = .next { s with now := s.now + 1 }) ∧
    (s.power.startingUp = false →
      ∃ v, v = { s with
          now := s.now + 1, chans := v.chans,
          man := { s.man with pump := { s.man.pump with
            runTime := if s.man.pump.on then min 180000 (s.man.pump.runTime + 1) else s.man.pump.runTime,
            cooldown :=
              if s.man.pump.runState = .resting then s.man.pump.cooldown - 1 else s.man.pump.cooldown } } } ∧
        (∀ c, chanOf v c = { chanOf s c with
          deadline :=
            if pendantRenews s c then s.now + 1 + s.store.cfg.holdWindow else (chanOf s c).deadline }) ∧
        let w := if s.link.tx = none ∧ s.link.reports ≠ [] then transmit v else v
        step s = .next { w with pending := dueCommands w })

/-- What ends a step (R7, R28, R36, R176, R181): `finish` leaves the clock, the queue of commands, power, wind, the
scanner's records, the configuration, the supply's samples and state, the receiver and the reply buffer as they were.

What ends a step gives every alert the condition of its owner, sets the latch on a rising edge and keeps it otherwise
(R181), derives the outputs (R168), and asserts the attention line while the report queue is not empty (R178).

With nothing due, what ends a step moves no motion: only the outputs, the next memory job, the link port, and the
completions count of a channel whose report begins.

The order of what ends a step and its bound of 40 rounds are the model's choice (log 4), and so are the outputs under the spare latch,
which follow R168 where the last row of R172 says otherwise (log 80). -/
def Obligations.EndOfStepDerives : Prop :=
  (∀ s : State,
    (finish s).now = s.now ∧ (finish s).pending = s.pending ∧ (finish s).power = s.power ∧
    (finish s).wind = s.wind ∧ (finish s).scan = s.scan ∧
    (finish s).term = { s.term with outputs := (finish s).term.outputs } ∧
    (finish s).mon = { s.mon with
      resv := (finish s).mon.resv, latches := (finish s).mon.latches, tripSince := (finish s).mon.tripSince } ∧
    (finish s).store = { s.store with
      image := (finish s).store.image, snapMark := (finish s).store.snapMark,
      markerClean := (finish s).store.markerClean, job := (finish s).store.job,
      waiting := (finish s).store.waiting } ∧
    (finish s).link = { s.link with
      tx := (finish s).link.tx, part2 := (finish s).link.part2, reports := (finish s).link.reports,
      postureCause := (finish s).link.postureCause, lastTelemetry := (finish s).link.lastTelemetry,
      alerts := (finish s).link.alerts, attention := (finish s).link.attention }) ∧
  (∀ s : State,
    (∀ a : Alert,
      ((finish s).link.alerts.get a).cond = alertCond (finish s) a ∧
      ((finish s).link.alerts.get a).latch =
        ((s.link.alerts.get a).latch || (alertCond (finish s) a && !(s.link.alerts.get a).cond))) ∧
    (∀ o : Fin 8, (finish s).term.outputs.get o = outputLevel (finish s) o) ∧
    (finish s).link.attention = (!s.power.startingUp && !(finish s).link.reports.isEmpty)) ∧
  (∀ s : State, settled s = true → (s.sup.driveAway && travelReady s) = false →
    (finish s) = { s with
      link := (finish s).link, chans := (finish s).chans,
      term := { s.term with outputs := (finish s).term.outputs },
      store := { s.store with
        job := (finish s).store.job, waiting := (finish s).store.waiting, image := (finish s).store.image,
        snapMark := (finish s).store.snapMark } } ∧
    ∀ c, chanOf (finish s) c = { chanOf s c with completions := (chanOf (finish s) c).completions } ∧
      ((chanOf (finish s) c).completions = (chanOf s c).completions ∨
        (chanOf (finish s) c).completions = 0 ∧ s.link.tx = none))

/-! ### Reset values and the invariants that every step keeps -/

/-- The values that the spec gives for reset: R2, R7, R35 (supervisor), R41, R42 (manifold), R67, R81 (levelling engine).

The values that the spec gives for reset: R107, R129 (drives), R127, R135, R136 (wind), R146, R147, R152, R154
(supply), R162 to R164 (terminals), R173, R175 to R179, R181 (link), R187, R190 (store, power). -/
def Obligations.ResetValues : Prop :=
  ((∀ c : Ch, (chanOf .reset c).state = .idle ∧ (chanOf .reset c).op = none ∧ (chanOf .reset c).owner = none ∧
    (chanOf .reset c).waiting = none ∧ (chanOf .reset c).hold = false ∧ (chanOf .reset c).last = none ∧
    (chanOf .reset c).completions = 0 ∧ (chanOf .reset c).fault = none ∧ (chanOf .reset c).deferred = none) ∧
  State.reset.sup.queue = [] ∧ State.reset.sup.driveAway = false ∧ State.reset.sup.owed = none ∧
  State.reset.man.pump.holder = none ∧ State.reset.man.pump.dir = none ∧ State.reset.man.pump.on = false ∧
  State.reset.man.pump.runTime = 0 ∧ State.reset.man.pump.runState = .none ∧
  State.reset.man.pump.cooldown = 0 ∧ State.reset.man.pump.hot = false ∧
  (∀ j : Jack, valveOpen .reset j = false) ∧ (∀ r : Room, State.reset.man.roomValves.get r = false) ∧
  State.reset.man.dirValve = .rest ∧ State.reset.lev.phase = .none ∧ State.reset.lev.plan = none ∧
  State.reset.lev.passes = 0) ∧
  ((∀ (r : Room) (e : Side), (endOf .reset r e).drive = .brake) ∧ State.reset.awn.drive = .brake ∧
  State.reset.wind.lockout = none ∧ State.reset.wind.ring = [] ∧ State.reset.wind.gust = 0 ∧
  State.reset.wind.avg = 0 ∧ State.reset.mon.samples = [] ∧ State.reset.mon.avg = none ∧
  State.reset.mon.supply = .normal ∧ (∀ c : Ch, State.reset.mon.resv.get c = none) ∧
  (∀ d : Driver, (State.reset.mon.latches.get d).isSet = false) ∧
  (∀ t : Fin 16, State.reset.term.flags.get t = false ∧ State.reset.term.timers.get t = none) ∧
  State.reset.term.speedFlag = false ∧ State.reset.term.moving = false ∧
  (∀ o : Fin 8, State.reset.term.outputs.get o = false) ∧ State.reset.link.rx = .ignore ∧
  State.reset.link.rxBuf = [] ∧ State.reset.link.replies = [] ∧ State.reset.link.paused = false ∧
  State.reset.link.attention = false ∧
  (∀ a : Alert, (State.reset.link.alerts.get a).cond = false ∧ (State.reset.link.alerts.get a).latch = false) ∧
  State.reset.store.saving = false ∧ State.reset.store.lastSave = none ∧
  State.reset.store.snapFailed = false ∧ State.reset.power.state = .run ∧
  State.reset.scan.grad.valid = false ∧ State.reset.scan.grad.failures = 0)

/-- Every invariant below holds right after reset. -/
def Obligations.InvariantsHoldAtReset : Prop :=
  State.reset.ChannelsOk ∧ State.reset.ManifoldOk ∧ State.reset.RackOk ∧ State.reset.WindOk ∧
  State.reset.AssumedOk ∧ State.reset.ReportsOk ∧ State.reset.RepliesOk ∧ State.reset.RolesOk ∧
  State.reset.BudgetOk

/-- Every step keeps the start queue the list of the PENDING channels, each once (R7), an absent channel IDLE (R1), and
every channel at rest outside RUN (R190). -/
def Obligations.StepKeepsChannels : Prop :=
  ∀ s t : State, s.ChannelsOk → step s = .next t → t.ChannelsOk

/-- Every step keeps the jack valves closed while the direction valve is at RETRACT and a present room is not IN (R46). -/
def Obligations.StepKeepsManifold : Prop :=
  ∀ s t : State, s.ManifoldOk → step s = .next t → t.ManifoldOk

/-- Every step keeps room motors driven only in RUNNING rooms (R107), and no RUNNING twin room beyond its rack limit, so
that no motor of a room racked beyond it is driven (R111). -/
def Obligations.StepKeepsRack : Prop :=
  ∀ s t : State, s.RackOk → step s = .next t → t.RackOk

/-- Every step keeps the awning from being driven outward while the wind lockout runs (R138), and driven only while AWNING
is RUNNING (R129). -/
def Obligations.StepKeepsWind : Prop :=
  ∀ s t : State, s.WindOk → step s = .next t → t.WindOk

/-- Every step keeps each room end's and the awning's count of consecutive assumed pulses at most 3 (R112, R129).

Every step keeps the report queue free of repeats (R177) and the reply buffer at four replies at most (R175). -/
def Obligations.StepKeepsCounters : Prop :=
  (∀ s t : State, s.AssumedOk → step s = .next t → t.AssumedOk) ∧
  (∀ s t : State, s.ReportsOk → s.RepliesOk → step s = .next t → t.ReportsOk ∧ t.RepliesOk)

/-- Every step keeps each role at one terminal at most, in the working table and in every image of it (R160, R161). -/
def Obligations.StepKeepsRoles : Prop :=
  ∀ s t : State, s.RolesOk → step s = .next t → t.RolesOk

/-- Every step keeps the reservations within the supply budget, the reserve being AWNING's alone (R152). -/
def Obligations.StepKeepsBudget : Prop :=
  ∀ s t : State, s.BudgetOk → step s = .next t →
    t.BudgetOk ∧ reserved t (fun _ => true) ≤ t.store.cfg.budget

/-! ### START, HOLD, STOP and CLEAR -/

/-- The checks of R4 in their order: the first that fails gives the reply, and a START that fails changes nothing else.
AUTOMATIC and PENDANT starts are not covered here. -/
def Obligations.StartRefused : Prop :=
  ∀ (s : State) (tag : Byte) (c : Ch) (o : Op) (h : Bool) (v : Half),
    s.Listening → startEncoded c o v = true →
    let q := chanOf s c
    let answers := s.AnswersOnly (.start tag c o h v) 0x81 tag
    let refused := fun (r : Reason) => answers (replyHead .refused (some r) none false false false)
    if s.present c = false then refused .absent
    else if allStopActive s = true then refused .allStopHeld
    else if q.state = .faulted then refused .faulted
    else if (q.state = .pending ∨ q.state = .running) ∧ q.op = some o ∧ q.owner = some .link then
      answers (plainReply .already)
    else if q.state ≠ .idle then answers (plainReply .busy)
    else
      o ≠ .captureZero →
        (∀ r, jobCheck s c o v.toNat = some r → refused r) ∧
        (jobCheck s c o v.toNat = none → ∀ m, motionOf c o v.toNat .none = some m →
          (∀ i, firstUnsat s c m false = some i →
            answers (replyHead .refused (some .interlock) (some i) false false false)) ∧
          (firstUnsat s c m false = none → needsHold s c o = true → h = false → refused .holdRequired))

/-- A LINK START that passes every check of R4 waits at the tail of the start queue, with the record R5 gives, and a scan
is due. The reply is ACCEPTED, and nothing else changes but that a START of LEVEL clears the drift timer (R83). -/
def Obligations.StartAccepted : Prop :=
  ∀ (s : State) (tag : Byte) (c : Ch) (o : Op) (h : Bool) (v : Half) (m : Motion),
    s.Listening → startEncoded c o v = true → s.present c = true → allStopActive s = false →
    (chanOf s c).state = .idle → o ≠ .captureZero → jobCheck s c o v.toNat = none →
    motionOf c o v.toNat .none = some m → firstUnsat s c m false = none →
    (needsHold s c o = true → h = true) →
    ∃ u, exec (.start tag c o h v) s = .next (finish u) ∧
      chanOf u c = { chanOf s c with
        state := .pending, op := some o, owner := some .link, waiting := none, autoCause := none, hold := h,
        operand := if c = .awning ∧ o = .extend then settleOperand s v.toNat else v.toNat,
        deadline := if h = true then s.now + s.store.cfg.holdWindow else 0 } ∧
      (∀ d, d ≠ c → chanOf u d = chanOf s d) ∧
      u.sup = { s.sup with queue := s.sup.queue ++ [⟨c, s.now⟩], scanDue := true } ∧
      u.lev = { s.lev with drift := if c = .level then none else s.lev.drift } ∧
      s.Replied u 0x81 tag (plainReply .accepted) ∧
      (s.store.cfg.sourceEnabled (.chan c) = true → .chan c ∈ u.link.reports) ∧
      u = { s with chans := u.chans, sup := u.sup, lev := u.lev, link := u.link }

/-- CAPTURE_ZERO at an IDLE LEVEL that passes checks 1 to 5 of R4 is answered at once (R5, R66): refused with JACK_CONTACT
named, refused NO_SENSOR, or OK with the floor means of the settle window's uncorrected pairs (R88) as zero offsets, the drift
timer clear, and the plan record without final gradients and outcome (R67). -/
def Obligations.StartCapturesZero : Prop :=
  ∀ (s : State) (tag : Byte) (h : Bool),
    s.Listening → s.present .level = true → allStopActive s = false → (chanOf s .level).state = .idle →
    let cmd := Instr.start tag .level .captureZero h 0
    if allGround s = false then
      s.AnswersOnly cmd 0x81 tag (replyHead .refused (some .interlock) (some .jackContact) false false false)
    else if s.scan.grad.valid = false ∨ s.lev.ring.length < 20 then
      s.AnswersOnly cmd 0x81 tag (replyHead .refused (some .noSensor) none false false false)
    else
      ∃ u, exec cmd s = .next (finish u) ∧
        u.store = { s.store with
          cfg := (s.store.cfg.put .learned 0
              (Int.fdiv (s.lev.ring.map (fun e => e.raw.pitch)).sum s.lev.ring.length)).put .learned 1
            (Int.fdiv (s.lev.ring.map (fun e => e.raw.roll)).sum s.lev.ring.length) } ∧
        u.lev = { s.lev with drift := none, plan := s.lev.plan.map (fun p => { p with final := none, outcome := none }) } ∧
        s.Replied u 0x81 tag (plainReply .ok) ∧ u = { s with store := u.store, lev := u.lev, link := u.link }

/-- HOLD renews the hold deadline of a waiting or running hold-to-run motion of owner LINK, and in every other case changes
nothing and gives the reason of R13's table.

CLEAR by the channel's state (R19, R156): a FAULTED channel returns to IDLE without its fault, its set latches clear
when none of their fault-sense lines is active, and its last termination is kept. That a latch which clears keeps no recorded
channel is the model's choice (log 77). -/
def Obligations.HoldRenewsAndClearReturns : Prop :=
  (∀ (s : State) (tag : Byte) (c : Ch), s.Listening →
    let q := chanOf s c
    let refused := fun (r : Reason) =>
      s.AnswersOnly (.hold tag c) 0x82 tag (replyHead .refused (some r) none false false false)
    if s.present c = false then refused .absent
    else if (q.state = .pending ∨ q.state = .running) ∧ q.hold = true ∧ q.owner = some .link then
      ∃ t, exec (.hold tag c) s = .next t ∧
        chanOf t c = { q with deadline := s.now + s.store.cfg.holdWindow } ∧
        (∀ d, d ≠ c → chanOf t d = chanOf s d) ∧ s.Answered t 0x82 tag (plainReply .ok) ∧
        t = { s with chans := t.chans, link := t.link }
    else if (q.state = .idle ∨ q.state = .stopping) ∧
        (q.last = some ⟨.released, some .link⟩ ∨ q.last = some ⟨.cancelled .released, some .link⟩) then
      refused .tooLate
    else refused .notHeld) ∧
  (∀ (s : State) (tag : Byte) (c : Ch), s.Listening →
    let mine := fun (d : Driver) => (s.mon.latches.get d).isSet = true ∧ (s.mon.latches.get d).ch = some c
    let refused := fun (r : Reason) =>
      s.AnswersOnly (.clear tag c) 0x84 tag (replyHead .refused (some r) none false false false)
    (s.present c = false → refused .absent) ∧
    (s.present c = true → (chanOf s c).state ≠ .faulted → refused .notRunning) ∧
    (s.present c = true → (chanOf s c).state = .faulted →
      (∀ d, mine d → s.mon.faultSense.get d = true → refused .stillActive) ∧
      ((∀ d, mine d → s.mon.faultSense.get d = false) →
        ∃ u, exec (.clear tag c) s = .next (finish u) ∧
          chanOf u c = { chanOf s c with state := .idle, fault := none } ∧
          (∀ d, d ≠ c → chanOf u d = chanOf s d) ∧
          (∀ d, mine d → u.mon.latches.get d = {}) ∧
          (∀ d, ¬ mine d → u.mon.latches.get d = s.mon.latches.get d) ∧
          ((∃ d, mine d) → u.sup.scanDue = true) ∧ u.sup.queue = s.sup.queue ∧
          s.Replied u 0x84 tag (plainReply .ok) ∧
          u = { s with chans := u.chans, mon := u.mon, sup := u.sup, link := u.link })))

/-- STOP by the channel's state (R15): refused in IDLE, FAULTED and for an absent channel, and AUTO_SAFETY for an AUTOMATIC
awning retract of cause WIND (R3); in STOPPING the termination that stands is kept.

STOP of a waiting motion cancels it with detail STOP, and STOP of a running one ends it STOPPED (R15 to R18): the
channel's outputs come off, the pump it holds stops, and no other channel's record changes. -/
def Obligations.StopAnswersAndEnds : Prop :=
  (∀ (s : State) (tag : Byte) (c : Ch), s.Listening →
    let q := chanOf s c
    let refused := fun (r : Reason) =>
      s.AnswersOnly (.stop tag c) 0x83 tag (replyHead .refused (some r) none false false false)
    if s.present c = false then refused .absent
    else if q.state = .idle ∨ q.state = .faulted then refused .notRunning
    else if q.state = .stopping then
      ∃ u, exec (.stop tag c) s = .next (finish u) ∧ s.OnlyLink u ∧ s.Replied u 0x83 tag (plainReply .ok)
    else if c = .awning ∧ q.owner = some .automatic ∧ q.op = some .autoRetract ∧ q.autoCause = some .wind then
      refused .autoSafety
    else True) ∧
  (∀ (s : State) (tag : Byte) (c : Ch), s.Listening → s.present c = true →
    windRetracting s c = false →
    ((chanOf s c).state = .pending →
      ∃ u, exec (.stop tag c) s = .next (finish u) ∧ s.Cancelled u c .stop ∧ u.sup.scanDue = true ∧
        u.sup.queue = s.sup.queue.filter (fun e => e.ch != c) ∧ (∀ d, d ≠ c → chanOf u d = chanOf s d) ∧
        s.Replied u 0x83 tag (plainReply .ok) ∧
        u = { s with chans := u.chans, sup := u.sup, link := u.link, mon := u.mon }) ∧
    ((chanOf s c).state = .running →
      ∃ u, exec (.stop tag c) s = .next (finish u) ∧ s.Stopped u c .stopped ∧
        (∀ d, d ≠ c → chanOf u d = chanOf s d) ∧ u.sup.queue = s.sup.queue ∧
        (∀ r, c = .room r → (endOf u r .endA).drive = .brake ∧ (endOf u r .endB).drive = .brake) ∧
        (c = .awning → u.awn.drive = .brake) ∧ (c = .level → u.lev.phase = .none) ∧
        (s.man.pump.holder = some c → u.man.pump.on = false) ∧
        s.Replied u 0x83 tag (plainReply .ok) ∧ u.store.cfg = s.store.cfg ∧ u.mon = s.mon ∧ u.term = s.term))

/-! ### Reads, settings, power, reports and alerts -/

/-- READ_INPUTS answers the INPUTS content and then clears the change flags (R164), and changes nothing else.

SET_LINK_OUTPUTS writes the three LINK_SET values, and every output terminal follows its role (R168).

READ_SUPPLY, GET_IDENTITY and GET answer from the state (R159, R183, R185) and change nothing but the link port.

That these requests end their step with the transmitter alone is the model's choice (log 42), and so are the ends that GET answers
for an enumerated entry (log 73), the fields of the contents that 12.2 and 12.3 leave open (logs 7, 40 and 59), and the outputs under
the spare latch, which follow R168 where the last row of R172 says otherwise (log 80). -/
def Obligations.ReadsAnswerAndOutputsFollow : Prop :=
  (∀ (s : State) (tag : Byte), s.Listening →
    ∃ t, exec (.readInputs tag) s = .next t ∧
      t.term = { s.term with flags := Vector.replicate 16 false, speedFlag := false } ∧
      s.Answered t 0x85 tag (plainReply .ok ++ inputsContent s) ∧ t = { s with term := t.term, link := t.link }) ∧
  (∀ (s : State) (tag mask : Byte), s.Listening → mask.toNat < 8 →
    ∃ t, exec (.setLinkOutputs tag mask) s = .next t ∧
      t.term = { s.term with
        linkSet := (mask.getLsbD 0, mask.getLsbD 1, mask.getLsbD 2), outputs := t.term.outputs } ∧
      (∀ o : Fin 8, t.term.outputs.get o = outputLevel t o) ∧
      (∀ o : Fin 8, s.mon.latches.spare.isSet = false →
        (s.store.cfg.outputRole o = 6 → t.term.outputs.get o = (mask.getLsbD 0 != s.store.cfg.outputLow o)) ∧
        (s.store.cfg.outputRole o = 7 → t.term.outputs.get o = (mask.getLsbD 1 != s.store.cfg.outputLow o)) ∧
        (s.store.cfg.outputRole o = 8 → t.term.outputs.get o = (mask.getLsbD 2 != s.store.cfg.outputLow o))) ∧
      s.Answered t 0x86 tag (plainReply .ok) ∧ t = { s with term := t.term, link := t.link }) ∧
  (∀ (s : State) (tag : Byte), s.Listening →
    s.AnswersOnly (.readSupply tag) 0x87 tag (plainReply .ok ++ supplyContent s) ∧
    s.AnswersOnly (.getIdentity tag) 0x93 tag (plainReply .ok ++ identityContent s) ∧
    ∀ (gc ic : Byte),
      match Group.ofCode gc.toNat with
      | none => s.AnswersOnly (.get tag gc ic) 0x88 tag (plainReply .badRequest)
      | some g =>
        match entrySpec g ic.toNat with
        | none => s.AnswersOnly (.get tag gc ic) 0x88 tag (plainReply .badRequest)
        | some e => s.AnswersOnly (.get tag gc ic) 0x88 tag
            (GetAnswer.payload ⟨s.store.cfg.entry g ic.toNat, e.lo, e.hi, e.dflt, e.zeroAbsent⟩))

/-- A SET of an entry or code that does not exist is answered BAD_REQUEST (R194); one whose gate is closed is answered BUSY:
its owning channel waits, runs or stops (R186), a demand or the budget while the part is not at rest (R151), or the terminal or
the role that it names belongs to an engaged pendant role (R161). None of them changes anything else.

A SET that passes its gate stores its value: a numeric entry's value moved to the nearer end of its range, an
enumerated entry's value as it is (R186). The reply carries the value stored and whether it was moved. No other entry of the
table changes but two kinds: a room that becomes fitted or changes its kind loses its learned stroke and both its end coasts
(R101), and the terminal that held a role loses it to the terminal that takes it (R161).

That a SET of the value that stands passes the gate of the terminals, and that one that gives a terminal an engaged role which no
terminal holds is BUSY too, is the model's reading of R161 (log 32); the absent marker in the reply is its reading of 12.2
(log 39). -/
def Obligations.SetTakenOrRefused : Prop :=
  (∀ (s : State) (tag gc ic : Byte) (w : BitVec 32), s.Listening →
    (entryExists gc ic = false ∨ setValueAllowed gc ic w = false →
      s.AnswersOnly (.set tag gc ic w) 0x89 tag (plainReply .badRequest)) ∧
    ∀ (g : Group) (e : EntrySpec), Group.ofCode gc.toNat = some g → entrySpec g ic.toNat = some e →
      codeAllowed e w.toInt = true →
      ((∃ c, e.owner = some c ∧ ((chanOf s c).state = .pending ∨ runningOrStopping s c = true)) ∨
        (g = .supply ∧ ic.toNat < 7 ∧ (allAtRest s && s.sup.queue.isEmpty) = false) ∨
        (g = .terminals ∧ ic.toNat < 64 ∧
          s.store.cfg.entry .terminals ic.toNat ≠ storedValue .terminals ic.toNat e w.toInt ∧
          ∃ x, engaged s x = true ∧
            (s.store.cfg.inputRole (terminalOfEntry ic.toNat) = some x ∨
              ic.toNat % 4 = 0 ∧ InRole.ofCode (storedValue .terminals ic.toNat e w.toInt) = some x))) →
      s.AnswersOnly (.set tag gc ic w) 0x89 tag (plainReply .busy)) ∧
  (∀ (s : State) (tag gc ic : Byte) (w : BitVec 32) (g : Group) (e : EntrySpec),
    s.Listening → Group.ofCode gc.toNat = some g → entrySpec g ic.toNat = some e →
    codeAllowed e w.toInt = true → setGated s g ic.toNat e w.toInt = false →
    ic.toNat < (s.store.cfg.group g).length →
    let v := storedValue g ic.toNat e w.toInt
    ∃ u, exec (.set tag gc ic w) s = .next (finish u) ∧ u.store.cfg.entry g ic.toNat = v ∧
      (e.codes = none → e.step = 1 → e.zeroAbsent = false → ¬ (g = .interlock ∧ ic.toNat < 24) →
        (e.lo ≤ w.toInt → w.toInt ≤ e.hi → v = w.toInt) ∧ (w.toInt < e.lo → v = e.lo) ∧
          (e.hi < w.toInt → v = e.hi)) ∧
      (e.codes.isSome = true → ¬ (g = .interlock ∧ ic.toNat < 24) → v = w.toInt) ∧
      (∀ i, i ≠ ic.toNat → (g = .terminals → movedFrom s.store.cfg ic.toNat v ≠ some i) →
        u.store.cfg.entry g i = s.store.cfg.entry g i) ∧
      (let room := (ic.toNat - 1) / 8
       let fresh := g = .rooms ∧ ic.toNat ≠ 0 ∧
         ((ic.toNat - 1) % 8 = 0 ∧ v = 1 ∧ s.store.cfg.entry .rooms ic.toNat ≠ 1 ∨
           (ic.toNat - 1) % 8 = 1 ∧ v ≠ s.store.cfg.entry .rooms ic.toNat)
       ∀ k i, k ≠ g →
         (fresh ∧ k = .learned ∧ (i = 8 + room ∨ i = 12 + 2 * room ∨ i = 13 + 2 * room) →
           u.store.cfg.entry k i = 0) ∧
         (¬ (fresh ∧ k = .learned ∧ (i = 8 + room ∨ i = 12 + 2 * room ∨ i = 13 + 2 * room)) →
           u.store.cfg.entry k i = s.store.cfg.entry k i)) ∧
      u.link.replies = s.link.replies ++ [{
        kind := 0x89, tag := tag,
        payload := SetOutcome.payload (.stored v (e.zeroAbsent && v == 0) (v != w.toInt)
          (g == .terminals && (movedFrom s.store.cfg ic.toNat v).isSome)) }] ∧
      u.store.marking = s.store.marking ∧ u.store.image = s.store.image ∧ u.now = s.now ∧ u.power = s.power)

/-- SAVE (R187): BUSY while one is in progress; otherwise ACCEPTED, and the image of the table as it stands waits its turn
behind the jobs already waiting, or begins at once where none is.

LOAD_DEFAULTS (R188): BUSY unless the part is at rest; otherwise the whole table takes its defaults, the marking
becomes DEFAULT, no channel is present any more, and the memory is not touched.

That an image write begun leaves no valid image is the model's choice (log 3). -/
def Obligations.SaveAndLoadDefaults : Prop :=
  (∀ (s : State) (tag : Byte), s.Listening →
    (s.store.saving = true → s.AnswersOnly (.save tag) 0x8A tag (plainReply .busy)) ∧
    (s.store.saving = false →
      ∃ t, exec (.save tag) s = .next t ∧ t.store.saving = true ∧ s.Answered t 0x8A tag (plainReply .accepted) ∧
        (∀ j, s.store.job = some j →
          t.store = { s.store with saving := true, waiting := s.store.waiting ++ [.image s.store.cfg] }) ∧
        (s.store.job = none → s.store.waiting = [] →
          t.store = { s.store with saving := true, job := some (.image s.store.cfg), image := none }) ∧
        t.store.cfg = s.store.cfg ∧ t.store.marking = s.store.marking ∧ t = { s with store := t.store, link := t.link })) ∧
  (∀ (s : State) (tag : Byte), s.Listening →
    (¬ ((∀ c, s.present c = true → (chanOf s c).state = .idle ∨ (chanOf s c).state = .faulted) ∧ s.sup.queue = []) →
      s.AnswersOnly (.loadDefaults tag) 0x8B tag (plainReply .busy)) ∧
    ((∀ c, s.present c = true → (chanOf s c).state = .idle ∨ (chanOf s c).state = .faulted) → s.sup.queue = [] →
      ∃ u, exec (.loadDefaults tag) s = .next (finish u) ∧ u.store.cfg = Cfg.default ∧ u.store.marking = .default ∧
        (∀ c, u.present c = false) ∧ (∀ c, s.present c = true → chanOf u c = {}) ∧
        u.store.image = s.store.image ∧ u.store.snap = s.store.snap ∧ u.store.snapMark = s.store.snapMark ∧
        u.wind.lockout = (if s.store.cfg.windFitted = true then none else s.wind.lockout) ∧
        Source.store ∈ u.link.reports ∧
        u.link.replies = s.link.replies ++ [{ kind := 0x8B, tag := tag, payload := plainReply .ok }]))

/-- ENTER_WATCH and ENTER_SLEEP (R190): BUSY unless the part is at rest, ENTER_SLEEP refused AWNING_NOT_IN with the awning
out; otherwise the part enters the state, telemetry leaves the queue and stops (R180), the drift timer is clear (R83), the
gradient record is marked stale (R171), and SLEEP empties the wind ring and the supply samples (R135, R146).

That gust and average are 0 in SLEEP is the model's reading (log 47). -/
def Obligations.RestEntered : Prop :=
  ∀ (s : State) (tag : Byte), s.Listening →
    let rest := (∀ c, s.present c = true → (chanOf s c).state = .idle ∨ (chanOf s c).state = .faulted) ∧
      s.sup.queue = []
    let out := s.present .awning = true ∧ s.awn.status ≠ .pin
    let enters := fun (i : Instr) (kind : Byte) (p : PowerState) =>
      ∃ u, exec i s = .next (finish u) ∧ u.power = { s.power with state := p } ∧
        u.link = { s.link with
          replies := s.link.replies ++ [{ kind := kind, tag := tag, payload := plainReply .ok }],
          reports := s.link.reports.filter (fun x => x != .telemetry), telemetryAt := none } ∧
        u.lev = { s.lev with drift := none, jacks := u.lev.jacks } ∧
        (∀ j, jackOf u j = { jackOf s j with bandSince := none }) ∧
        u.scan = { s.scan with grad := { s.scan.grad with stale := true } } ∧
        u.man = { s.man with lineBandSince := none } ∧
        (p = .watch → u.wind = s.wind ∧ u.mon = s.mon) ∧
        (p = .sleep → u.wind = { s.wind with ring := [], bin := 0, binEnd := none, gust := 0, avg := 0 } ∧
          u.mon = { s.mon with samples := [], avg := none }) ∧
        u = { s with
          power := u.power, link := u.link, lev := u.lev, scan := u.scan, man := u.man, wind := u.wind,
          mon := u.mon }
    (¬ rest → s.AnswersOnly (.enterWatch tag) 0x8C tag (plainReply .busy) ∧
      s.AnswersOnly (.enterSleep tag) 0x8D tag (plainReply .busy)) ∧
    (rest → enters (.enterWatch tag) 0x8C .watch) ∧
    (rest → out → s.AnswersOnly (.enterSleep tag) 0x8D tag
      (replyHead .refused (some .awningNotIn) none false false false)) ∧
    (rest → ¬ out → enters (.enterSleep tag) 0x8D .sleep)

/-- RESET_PART, PAUSE_REPORTS, RESUME_REPORTS and REQUEST_REPORT (R179, R192): each is answered OK; the reset waits for its
reply, the paused flag takes its value, and the named source joins the queue whatever its enable. -/
def Obligations.ReportsControlled : Prop :=
  ∀ (s : State) (tag : Byte) (x : Source), s.Listening →
    (∃ t, exec (.resetPart tag) s = .next t ∧ s.OnlyLink t ∧ t.link = { s.link with
      replies := s.link.replies ++ [{ kind := 0x8E, tag := tag, payload := plainReply .ok, resets := true }],
      tx := t.link.tx, attention := t.link.attention }) ∧
    (∃ t, exec (.pauseReports tag) s = .next t ∧ s.OnlyLink t ∧ t.link = { s.link with
      replies := s.link.replies ++ [{ kind := 0x8F, tag := tag, payload := plainReply .ok }],
      paused := true, tx := t.link.tx, attention := t.link.attention }) ∧
    (∃ t, exec (.resumeReports tag) s = .next t ∧ s.OnlyLink t ∧ t.link = { s.link with
      replies := s.link.replies ++ [{ kind := 0x90, tag := tag, payload := plainReply .ok }],
      paused := false, tx := t.link.tx, attention := t.link.attention }) ∧
    (∃ t, exec (.requestReport tag x) s = .next t ∧ s.OnlyLink t ∧ t.link = { s.link with
      replies := s.link.replies ++ [{ kind := 0x91, tag := tag, payload := plainReply .ok }],
      reports := if x ∈ s.link.reports then s.link.reports else s.link.reports ++ [x],
      tx := t.link.tx, attention := t.link.attention })

/-- ACK_ALERT (R182): of each named alert a set latch is cleared while the condition is inactive and stays set while it is
active, a clear latch stays clear; the reply lists the named alerts whose latches stay set, in the mask's bits; nothing is
queued and no output changes. A ceasing that follows queues ALERTS where the alert is enabled and its latch was left set, and
one that came first let the latch clear. -/
def Obligations.AckAlertClears : Prop :=
  (∀ (s : State) (tag : Byte) (mask : Half), s.Listening → (Req.ackAlert mask).encoded = true →
    ∃ t, exec (.ackAlert tag mask) s = .next t ∧ s.OnlyLink t ∧
      (∀ a : Alert, t.link.alerts.get a =
        if mask.getLsbD a.idx = true ∧ (s.link.alerts.get a).latch = true ∧ (s.link.alerts.get a).cond = false then
          { s.link.alerts.get a with latch := false }
        else s.link.alerts.get a) ∧
      (∃ data : List Byte, data.length = 2 ∧
        (∀ a : Alert, (data.getD (a.idx / 8) 0).getLsbD (a.idx % 8) =
          (mask.getLsbD a.idx && (t.link.alerts.get a).latch)) ∧
        t.link = { s.link with
          alerts := t.link.alerts,
          replies := s.link.replies ++ [{ kind := 0x92, tag := tag, payload := plainReply .ok ++ data }],
          tx := t.link.tx, attention := t.link.attention })) ∧
  (∀ (s : State) (a : Alert), (s.link.alerts.get a).cond = true → (s.link.alerts.get a).latch = true →
    (setAlertCond a false s).link.alerts.get a = { cond := false, latch := true } ∧
    (s.store.cfg.alertEnabled a = true → s.store.cfg.sourceEnabled .alerts = true →
      Source.alerts ∈ (setAlertCond a false s).link.reports))

/-- Every request with a field outside its encoding, and every well-formed frame that cannot be decoded, is answered
BAD_REQUEST with reason 0, item 0xFF, flags 0 and no data, and changes nothing (R175, R194). -/
def Obligations.BadRequestAnswered : Prop :=
  ∀ (s : State) (i : Instr) (tag : Byte) (q : Req),
    s.Listening → requestOf i = some (tag, q) → q.encoded = false →
    s.AnswersOnly i (replyKind q.kind) tag [4, 0, 0xFF, 0]

/-! ### The link port -/

/-- A request's frame meets the receiver (R173, R174): discarded in IGNORE and DRAIN, lost in HELD, a wake by its SYNC alone
outside RUN, held while four replies wait, and served otherwise. During start-up nothing is taken (log 14).

That a request command in ASSEMBLING is served is the model's choice (log 11). -/
def Obligations.RequestMeetsReceiver : Prop :=
  ∀ (s : State) (i : Instr) (tag : Byte) (q : Req), requestOf i = some (tag, q) →
    (s.power.startingUp = true → exec i s = .next s) ∧
    (s.power.startingUp = false →
      (s.link.rx = .ignore ∨ s.link.rx = .drain → exec i s = .next s) ∧
      (s.link.rx = .held → exec i s = .next { s with link := { s.link with bytesLost := true } }) ∧
      (s.link.rx = .hunt ∨ s.link.rx = .assembling →
        (s.power.state ≠ .run →
          ∃ u, exec i s = .next (finish u) ∧ u.power.state = .run ∧ u.link.rx = .drain ∧
            u.link.postureCause = some .link ∧ Source.posture ∈ u.link.reports ∧
            u.link.replies = s.link.replies) ∧
        (s.power.state = .run → 4 ≤ s.link.replies.length →
          exec i s = .next { s with link := { s.link with
            rx := .held, rxBuf := [], held := some ⟨tag, q⟩, bytesLost := false } }) ∧
        (s.power.state = .run → s.link.replies.length < 4 → exec i s = .next (serve tag q s))))

/-- The decoder of requests reads every encodable request back from its KIND and payload (12.1, 12.2). -/
def Obligations.RequestsDecode : Prop :=
  ∀ q : Req, q.encoded = true → decodeRequest q.kind q.payload = q

/-- A request sent byte by byte is the request command: from HUNT in RUN with an empty assembly buffer, the frame of an
encodable request, taken one LINK_BYTE at a time, leaves the part as its command does. -/
def Obligations.BytesMakeRequest : Prop :=
  ∀ (s : State) (i : Instr) (tag : Byte) (q : Req),
    requestOf i = some (tag, q) → q.encoded = true → s.power.startingUp = false → s.power.state = .run →
    s.link.rx = .hunt → s.link.rxBuf = [] →
    (encodeRequest tag q).foldl
      (fun (o : Host.Outcome State Fault Refusal) b => match o with
        | .next t => exec (.linkByte b) t
        | x => x) (.next s) = exec i s

/-- One byte by the receiver's state (R173, R174). A frame whose CHECK fails is discarded without reply; one with LENGTH
above 120 puts the receiver in DRAIN.

The receiver's events (R173, R174, R191): a bad CHECK, a LENGTH above 120, the gap of 20 byte-times, the quiet line, and
a SYNC outside RUN. The bad frames change nothing in IGNORE and DRAIN, are noted as lost bytes in HELD, and wake a part outside
RUN by their SYNC; the gap, the quiet line and the SYNC change nothing where the receiver is in another state than theirs. A
SYNC that finds the part already woken by another cause is lost, and the receiver drains (R144).

A held request is handed to service when the reply buffer has room, and the receiver then enters DRAIN where bytes were
lost and HUNT otherwise (R174); before that it waits.

That the two bad frames empty the assembly buffer, that the timeouts act when they are sent, and that SYNC_AT_REST in RUN stands
for a byte lost after another wake is the model's reading (logs 5, 12 and 13). -/
def Obligations.ReceiverTable : Prop :=
  (∀ (s : State) (b : Byte), s.power.startingUp = false →
    let buf := s.link.rxBuf ++ [b]
    let becomes := fun (l : Link) => exec (.linkByte b) s = .next { s with link := l }
    (s.link.rx = .ignore ∨ s.link.rx = .drain → exec (.linkByte b) s = .next s) ∧
    (s.link.rx = .held → becomes { s.link with bytesLost := true }) ∧
    (s.link.rx = .hunt → b ≠ 0xA5 → exec (.linkByte b) s = .next s) ∧
    (s.link.rx = .hunt → b = 0xA5 → s.power.state = .run → becomes { s.link with rx := .assembling, rxBuf := [b] }) ∧
    (s.link.rx = .hunt → b = 0xA5 → s.power.state ≠ .run →
      ∃ u, exec (.linkByte b) s = .next (finish u) ∧ u.power.state = .run ∧ u.link.rx = .drain ∧
        u.link.postureCause = some .link ∧ Source.posture ∈ u.link.reports) ∧
    (s.link.rx = .assembling →
      (s.link.rxBuf = [] → becomes { s.link with rxBuf := buf }) ∧
      (∀ x len rest, buf = x :: len :: rest →
        (120 < len.toNat → becomes { s.link with rx := .drain, rxBuf := [] }) ∧
        (len.toNat ≤ 120 → buf.length ≠ len.toNat + 5 → becomes { s.link with rxBuf := buf }) ∧
        (len.toNat ≤ 120 → buf.length = len.toNat + 5 →
          ((buf.drop 1).map BitVec.toNat).sum % 256 ≠ 0 → becomes { s.link with rx := .hunt, rxBuf := [] })))) ∧
  (∀ s : State, s.power.startingUp = false →
    let wakes := fun (i : Instr) =>
      ∃ u, exec i s = .next (finish u) ∧ u.power.state = .run ∧ u.link.rx = .drain ∧
        u.link.postureCause = some .link ∧ Source.posture ∈ u.link.reports
    (∀ i, i = .frameBadCheck ∨ i = .frameTooLong →
      (s.link.rx = .ignore ∨ s.link.rx = .drain → exec i s = .next s) ∧
      (s.link.rx = .held → exec i s = .next { s with link := { s.link with bytesLost := true } }) ∧
      (s.power.state ≠ .run → s.link.rx = .hunt ∨ s.link.rx = .assembling → wakes i)) ∧
    (s.power.state = .run → (s.link.rx = .hunt ∨ s.link.rx = .assembling) →
      exec .frameBadCheck s = .next { s with link := { s.link with rx := .hunt, rxBuf := [] } } ∧
      exec .frameTooLong s = .next { s with link := { s.link with rx := .drain, rxBuf := [] } }) ∧
    exec .assemblyGapTimeout s =
      .next (if s.link.rx = .assembling then { s with link := { s.link with rx := .hunt, rxBuf := [] } } else s) ∧
    exec .drainQuietTimeout s =
      .next (if s.link.rx = .drain then { s with link := { s.link with rx := .hunt } } else s) ∧
    (s.link.rx ≠ .hunt → exec .syncAtRest s = .next s) ∧
    (s.power.state = .run → s.link.rx = .hunt →
      exec .syncAtRest s = .next (finish { s with link := { s.link with rx := .drain } })) ∧
    (s.power.state ≠ .run → s.link.rx = .hunt → wakes .syncAtRest)) ∧
  (∀ (s : State) (h : HeldReq), s.power.startingUp = false → s.link.rx = .held → s.link.held = some h →
    (s.link.replies.length < 4 →
      exec .heldRequestServed s = .next (serve h.tag h.req { s with link := { s.link with
        rx := if s.link.bytesLost = true then .drain else .hunt, held := none, bytesLost := false } })) ∧
    (4 ≤ s.link.replies.length → exec .heldRequestServed s = .next s))

/-- FRAME_SENT: a sent reply leaves the buffer, and the next frame is chosen in the order of R176: the oldest reply, part 2
of the report begun (R193), the report of the oldest source, whose channel's completions become 0 (R177). Outside RUN, while
paused, and once the reply of a RESET_PART has gone (R192), no report begins. With neither a reply nor a report left, idle fill
begins a TELEMETRY report straight away where its spacing allows it, and else the line falls idle (R176, R180).

The telemetry timer's expiry puts TELEMETRY in the queue and starts the next interval (R180); before it is due nothing
happens. Idle fill begins a TELEMETRY report when the transmitter is idle and 100 ms have passed (R176, R180).

That the next interval counts from the moment the last one fell due is the model's reading (log 45). From which millisecond on the
two expiries act, and that they change nothing before it, is its choice (log 1), and so are the hold of part 2 by a pause taken while
part 1 is on the line (log 81) and the fields of TELEMETRY that 12.3 leaves open (logs 7 and 40). -/
def Obligations.TransmitterChooses : Prop :=
  (∀ (s : State) (left : List Reply) (due : Bool), s.power.startingUp = false →
    ((∃ b r, s.link.tx = some (.reply b) ∧ s.link.replies = r :: left ∧ due = (s.link.resetDue || r.resets)) ∨
     (∃ x b, s.link.tx = some (.report x b) ∧ s.link.replies = left ∧ due = s.link.resetDue)) →
    ∃ t, exec .frameSent s = .next t ∧ t = { s with link := t.link, chans := t.chans } ∧
      t.link.replies = left ∧ t.link.resetDue = due ∧ t.link.rx = s.link.rx ∧ t.link.alerts = s.link.alerts ∧
      (due = true → t.link.tx = none) ∧
      (∀ r l, due = false → left = r :: l →
        t.link.tx = some (.reply (frame r.kind r.tag r.payload)) ∧ t.link.reports = s.link.reports) ∧
      (due = false → left = [] → s.power.state ≠ .run ∨ s.link.paused = true →
        t.link.tx = none ∧ t.link.reports = s.link.reports ∧ t.link.part2 = s.link.part2) ∧
      (due = false → left = [] → s.power.state = .run → s.link.paused = false →
        (∀ p, s.link.part2 = some p →
          t.link.tx = some (.report p.source p.bytes) ∧ t.link.part2 = none ∧ t.link.reports = s.link.reports) ∧
        (∀ x l, s.link.part2 = none → s.link.reports = x :: l →
          t.link.tx = some (.report x (frame (reportKind x) 0 (reportContent s x).1)) ∧ t.link.reports = l ∧
          (∀ c, chanOf t c = if x = .chan c then { chanOf s c with completions := 0 } else chanOf s c)) ∧
        (s.link.part2 = none → s.link.reports = [] →
          let fills := s.store.cfg.telemetryMode = 2 ∧
            (s.link.lastTelemetry = none ∨ ∃ x, s.link.lastTelemetry = some x ∧ x + 100 ≤ s.now)
          t.link.reports = [] ∧ t.chans = s.chans ∧
          (fills →
            t.link.tx = some (.report .telemetry (frame 0x4A 0 (telemetryPart1 s))) ∧
            t.link.part2 = some ⟨.telemetry, frame 0x4A 0 (telemetryPart2 s)⟩ ∧ t.link.lastTelemetry = some s.now) ∧
          (¬ fills →
            t.link.tx = none ∧ t.link.part2 = none ∧ t.link.lastTelemetry = s.link.lastTelemetry)))) ∧
  (∀ s : State, s.power.startingUp = false →
    (∀ x, s.link.telemetryAt = some x → s.power.state = .run → x ≤ s.now →
      ∃ u, exec .telemetryTimerExpiry s = .next (finish u) ∧ Source.telemetry ∈ u.link.reports ∧
        u.link = { s.link with
          reports := u.link.reports, telemetryAt := some (x + s.store.cfg.telemetryInterval) } ∧
        (Source.telemetry ∈ s.link.reports → u.link.reports = s.link.reports) ∧ s.OnlyLink u) ∧
    (telemetryDue s = false → exec .telemetryTimerExpiry s = .next s) ∧
    (s.store.cfg.telemetryMode = 2 → s.link.tx = none → s.link.replies = [] → s.link.reports = [] →
      s.link.part2 = none → s.link.paused = false → s.link.resetDue = false → s.power.state = .run →
      (s.link.lastTelemetry = none ∨ ∃ x, s.link.lastTelemetry = some x ∧ x + 100 ≤ s.now) →
      ∃ t, exec .idleFillSpacingExpiry s = .next t ∧ s.OnlyLink t ∧
        t.link.tx = some (.report .telemetry (frame 0x4A 0 (telemetryPart1 s))) ∧
        t.link.part2 = some ⟨.telemetry, frame 0x4A 0 (telemetryPart2 s)⟩ ∧ t.link.lastTelemetry = some s.now ∧
        t.link.reports = [] ∧ t.link.attention = false) ∧
    (idleFillDue s = false → exec .idleFillSpacingExpiry s = .next s))

/-! ### Resets, start-up and the memory -/

/-- A reset of any kind returns every block to its reset values and records its kind; the memory's image, snapshot and
marker stay (R189, R192), and so do the model's clock and its waiting commands. The REQUEST reset waits for its reply.

During start-up no command but a reset or START_UP_END changes anything (log 14, a choice of the model: R192 gives
start-up as steps of its own, and R173 says that frames sent during it are lost).

That nothing else outlives a reset is the model's reading (log 38). -/
def Obligations.ResetsReturn : Prop :=
  (∀ s : State,
    let after := fun (c : ResetCause) => { State.reset with
      now := s.now, pending := s.pending,
      store := { State.reset.store with image := s.store.image, snap := s.store.snap, snapMark := s.store.snapMark },
      power := { State.reset.power with state := .run, resetCause := c, startingUp := true } }
    exec .powerOnReset s = .next (after .powerOn) ∧ exec .pinReset s = .next (after .pin) ∧
    exec .requestReset s = .next (if s.link.resetDue = true then after .request else s)) ∧
  (∀ (s : State) (i : Instr), s.power.startingUp = true → isReset i = false → exec i s = .next s)

/-- START_UP_END (R192) of a part whose channels are IDLE, as every reset leaves them: the table comes from the stored image,
or takes its defaults with the marking DEFAULT and, where the CRC failed, STORE_FAULT; the levels of the lines are taken;
the receiver hunts, and POSTURE waits in the queue with the reset cause and the attention line asserted for it (R178). With the
marker clear, a present room or awning raises POSITION_UNCERTAIN, whose latch sets whatever its switch then gives (R57, R106,
R127). Once started up, the command changes nothing.

That the command carries what start-up reads is the model's choice (log 9), that the transmitter takes the report at its next
choice its reading (log 67), that the alert comes before the first switches its reading of R192 (log 68), and that the marker ends
start-up as step 2 read it, because the posture that is built asks for no snapshot, its reading of R189 (log 36). -/
def Obligations.StartUpEnds : Prop :=
  ∀ (s : State) (reads : StartUpReads),
    (s.power.startingUp = false → exec (.startUpEnd reads) s = .next s) ∧
    (s.power.startingUp = true → (∀ c, (chanOf s c).state = .idle) →
      ∃ u, exec (.startUpEnd reads) s = .next (finishStartUp u) ∧ u.power = { s.power with startingUp := false } ∧
        u.link.rx = .hunt ∧ Source.posture ∈ u.link.reports ∧
        (finishStartUp u).link.attention = true ∧ Source.posture ∈ (finishStartUp u).link.reports ∧
        u.link.postureCause = some (resetPosture s.power.resetCause) ∧
        (∀ c, reads.settingsAnswer = true → s.store.image = some c →
          u.store.cfg = c ∧ u.store.marking = .stored ∧ u.store.storeFault = s.store.storeFault) ∧
        (reads.settingsAnswer = true → s.store.image = none →
          u.store.cfg = Cfg.default ∧ u.store.marking = .default ∧ u.store.storeFault = true) ∧
        (reads.settingsAnswer = false →
          u.store.cfg = Cfg.default ∧ u.store.marking = .default ∧ u.store.storeFault = s.store.storeFault) ∧
        u.store.markerClean = (reads.snapshotAnswer && s.store.snapMark) ∧
        (u.store.markerClean = false → (u.present .awning = true ∨ ∃ r, u.present (.room r) = true) →
          (s.link.alerts.get .positionUncertain).cond = false →
          (u.link.alerts.get .positionUncertain).latch = true ∧
            (u.store.cfg.alertEnabled .positionUncertain = true → u.store.cfg.sourceEnabled .alerts = true →
              Source.alerts ∈ u.link.reports)) ∧
        u.term.raw = reads.inputs ∧ u.term.deb = reads.inputs ∧ u.mon.faultSense = reads.faultSense ∧
        u.mon.senseLines = reads.faultSense ∧
        u.mon.currents = reads.scan.currents ∧ u.awn.inSwitch = reads.awningIn ∧
        (∀ r, (roomOf u r).inSwitch = reads.roomIn.get r) ∧ (∀ j, (jackOf u j).stowed = reads.stowed.get j) ∧
        (∀ c, (chanOf u c).state = .idle) ∧ u.now = s.now ∧ u.pending = s.pending)

/-- The end of an image write (R187): OK stores the image, marks the configuration STORED and ends STORE_FAULT; FAULT raises
it and keeps the marking. Either ends the SAVE and keeps the working table.

The ends of a marker clear and of a snapshot write (R189): done, the memory's marker is clear, or the contents stand
with the marker set; failed, STORE_FAULT is raised and the memory keeps what it holds.

What a failed job leaves in the memory is the model's choice (log 3), and so is that a failed marker clear sets the mark of a
failed snapshot, and a done one clears it (log 62). -/
def Obligations.MemoryJobsEnd : Prop :=
  (∀ (s : State) (c : Cfg), s.power.startingUp = false → s.store.job = some (.image c) →
    (∃ u, exec (.imageWriteEnd true) s = .next (finish u) ∧
      u.store = { s.store with
        job := none, saving := false, lastSave := some .ok, image := some c, marking := .stored,
        storeFault := false, waiting := u.store.waiting, markerClean := u.store.markerClean } ∧
      (s.store.cfg.sourceEnabled .store = true → Source.store ∈ u.link.reports) ∧
      (s.present .level = true →
        u.store.waiting = s.store.waiting ∧ u.chans = s.chans ∧ u.lev = s.lev ∧ u.man = s.man)) ∧
    (∃ u, exec (.imageWriteEnd false) s = .next (finish u) ∧
      u.store = { s.store with job := none, saving := false, lastSave := some .fault, storeFault := true } ∧
      (s.store.cfg.sourceEnabled .store = true → Source.store ∈ u.link.reports) ∧
      u = { s with store := u.store, link := u.link })) ∧
  (∀ (s : State) (ok : Bool), s.power.startingUp = false →
    (s.store.job = some .markerClear →
      ∃ u, exec (.markerClearEnd ok) s = .next (finish u) ∧ u = { s with store := u.store, link := u.link } ∧
        u.store = if ok = true then { s.store with job := none, snapMark := false, snapFailed := false }
          else { s.store with job := none, snapFailed := true, storeFault := true }) ∧
    (∀ c, s.store.job = some (.snapshot (some c)) →
      ∃ u, exec (.snapshotWriteEnd ok) s = .next (finish u) ∧ u = { s with store := u.store, link := u.link } ∧
        u.store = if ok = true then
            { s.store with job := none, snap := c, snapMark := true, snapFailed := false }
          else { s.store with job := none, snapFailed := true, storeFault := true }))

/-! ### The channel supervisor and the protections -/

/-- The answers of an admission scan in the words of R8, R149 and R153: what conflicts, when the pump is free, and when the demand
fits. A count of rooms above a limit that has been lowered conflicts too (log 69), and a latch recorded to LEVEL that is FAULTED
holds the pump's answer with no cooldown running (log 64): both are the model's reading.

ADMISSION_SCAN of a queue of one (R7): the entry takes the first unfavourable answer as its waiting-for value, or is
admitted as R11 gives: out of the queue, its demand in the reservation table, the pump's holder where it needs the pump, the
snapshot marker's clear asked for, and RUNNING, or already STOPPING where its job ended at once. Its entry into RUNNING is
evaluated: another waiting channel whose row it leaves with an unsatisfied item is cancelled INTERLOCK, a running one
aborted with the first such item, and no other channel's record changes, but that a room whose motion ends at its admission may
leave IN and so end LEVEL's retraction for ALL_ROOMS_IN. That every row is evaluated afresh, at the entry into RUNNING and between
two writes of one step, is the model's reading of R28 and R29 (log 8).

The walk over two entries: one that needs the pump is not admitted past an older one that needs it (R9), and a current
wait of 5 s or more stops the walk, while a younger one, whose row the later entry's start and end leave satisfied, lets that entry
past (R10).

That the row walks the queue without a cause, and that a conflict is examined before the pump of R9, is the model's reading (logs 15 and 43). -/
def Obligations.AdmissionScans : Prop :=
  (∀ s : State,
    let moves := fun (c : Ch) => (chanOf s c).state = .running ∨ (chanOf s c).state = .stopping
    let present := fun (c : Ch) => s.present c = true
    (conflicts s .level = true ↔ ∃ r, present (.room r) ∧ moves (.room r)) ∧
    (∀ r, conflicts s (.room r) = true ↔
      (present .level ∧ moves .level) ∨
      (s.store.cfg.underAwning r = true ∧ present .awning ∧ moves .awning) ∨
      s.store.cfg.roomLimit ≤
        ([Room.a, .b, .c, .d].filter (fun x => s.present (.room x) && runningOrStopping s (.room x))).length) ∧
    (conflicts s .awning = true ↔
      ∃ r, present (.room r) ∧ s.store.cfg.underAwning r = true ∧ moves (.room r)) ∧
    (pumpFree s = true ↔ s.man.pump.holder = none ∧ s.man.pump.runState = .none ∧
      ¬ (s.mon.latches.pump.isSet = true ∧ s.mon.latches.pump.ch = some .level ∧ (chanOf s .level).state = .faulted)) ∧
    (∀ c, automaticRetract s c = true → c = .awning →
      (currentOk s c = true ↔ s.mon.latches.awning.isSet = false)) ∧
    (∀ c, automaticRetract s c = false → (currentOk s c = true ↔
      s.mon.supply = .normal ∧ motorsClear s c = true ∧
        ordinarySum s + demandOf s c ≤ s.store.cfg.budget - s.store.cfg.awningDemand))) ∧
  (∀ (s : State) (c : Ch) (o : Op) (since : Nat),
    s.power.startingUp = false → s.sup.queue = [⟨c, since⟩] → s.present c = true →
    (chanOf s c).state = .pending → (chanOf s c).op = some o →
    ∃ u, exec .admissionScan s = .next (finish u) ∧
      let waits := fun (w : Waiting) =>
        chanOf u c = { chanOf s c with waiting := some w } ∧ (∀ d, d ≠ c → chanOf u d = chanOf s d) ∧
          u = { s with chans := u.chans, sup := { s.sup with scanDue := false }, link := u.link }
      if conflicts s c = true then waits .conflict
      else if needsPump s c = true ∧ pumpFree s = false then waits .pump
      else if currentOk s c = false then waits .current
      else
        (let w := modChan c (fun q => { q with state := .running }) s
         ∀ d, d ≠ c →
           (∀ i, chanUnsat w d = some i →
             ((chanOf s d).state = .pending → s.Cancelled u d .interlock) ∧
             ((chanOf s d).state = .running → s.Stopped u d (.aborted (.item i)))) ∧
           (chanUnsat w d = none ∨ ((chanOf s d).state ≠ .pending ∧ (chanOf s d).state ≠ .running) →
             chanOf u d = chanOf s d ∨
               d = .level ∧ (∃ r, c = .room r) ∧ chanMotion s d = some .jackRetract ∧
                 (s.Cancelled u d .interlock ∨ s.Stopped u d (.aborted (.item .allRoomsIn))))) ∧
        u.sup.queue = [] ∧
        ((chanOf u c).state = .running ∨ (chanOf u c).state = .stopping) ∧ (chanOf u c).waiting = none ∧
        (chanOf u c).admitted = s.now ∧ (chanOf u c).op = some o ∧ (chanOf u c).owner = (chanOf s c).owner ∧
        (chanOf u c).hold = (chanOf s c).hold ∧ (chanOf u c).deadline = (chanOf s c).deadline ∧
        u.mon.resv = s.mon.resv.set c (some ⟨demandOf s c, automaticRetract s c⟩) ∧
        (needsPump s c = true → u.man.pump.holder = some c ∧
          u.man.pump.dir = some (opDir o (chanOf s c).operand)) ∧
        (needsPump s c = false → u.man.pump.holder = s.man.pump.holder) ∧ u.store.markerClean = false) ∧
  (∀ (s : State) (a b : Ch) (m n : Nat), a ≠ b → s.sup.queue = [⟨a, m⟩, ⟨b, n⟩] →
    (chanOf s a).state = .pending → (chanOf s b).state = .pending →
    let u := scan s
    let bStays := fun (w : Waiting) =>
      u.sup.queue = s.sup.queue ∧ chanOf u b = { chanOf s b with waiting := some w }
    (conflicts s a = true → needsPump s a = true → needsPump s b = true → conflicts s b = false →
      bStays .pump) ∧
    (conflicts s a = false → (needsPump s a = true → pumpFree s = true) → currentOk s a = false →
      (m + 5000 ≤ s.now → bStays .current ∧ (chanOf u a).waiting = some .current) ∧
      (s.now < m + 5000 → (chanOf s b).op ≠ none → needsPump s b = false → conflicts s b = false →
        currentOk s b = true → chanUnsat (modChan b (fun q => { q with state := .running }) s) a = none →
        (a = .level → ∀ r, b = .room r → (roomOf s r).inSwitch = false) →
        u.sup.queue = [⟨a, m⟩] ∧ ((chanOf u b).state = .running ∨ (chanOf u b).state = .stopping))))

/-- A termination is taken for a RUNNING channel alone (R16): it is written with the motion's owner, the channel enters
STOPPING, its outputs come off, and no other channel's record changes; for any other channel it is disregarded, so that the
first termination stands.

One NORMAL end touches another channel: an EXTEND that ends with its room's in-switch active writes OUT, which ends LEVEL's
waiting retraction INTERLOCK for ALL_ROOMS_IN, before the switch gives IN (R28). That the disregarded switch is taken then is the
model's reading of R104 (log 18), and that the OUT is evaluated first its reading of R28 (log 8). -/
def Obligations.TerminationTaken : Prop :=
  ∀ (s : State) (c : Ch) (w : Term),
    let t := terminate c w s
    let late := w = .normal ∧ ∃ r, c = .room r ∧ kindOf s r ≠ .hydraulic ∧ (roomOf s r).inSwitch = true ∧
      outwardMotion s r = true
    ((chanOf s c).state ≠ .running → t = s) ∧
    ((chanOf s c).state = .running →
      s.Stopped t c w ∧ (∀ d, d ≠ c → d ≠ .level ∨ ¬ late → chanOf t d = chanOf s d) ∧
      (late → s.present c = true → (chanOf s c).op = some .extend → chanMotion s .level = some .jackRetract →
        (chanOf s .level).state = .pending → s.Cancelled t .level .interlock) ∧
      (∀ r, late → c = .room r → (roomOf t r).status = .pin ∧ (roomOf t r).conf = .known) ∧
      (chanOf t c).op = (chanOf s c).op ∧
      (∀ r, c = .room r → (endOf t r .endA).drive = .brake ∧ (endOf t r .endB).drive = .brake) ∧
      (c = .awning → t.awn.drive = .brake) ∧ (c = .level → t.lev.phase = .none) ∧
      (s.man.pump.holder = some c → t.man.pump.on = false ∧ t.man.pump.holder = some c) ∧
      (¬ late → t.mon = s.mon) ∧ t.store.cfg = s.store.cfg)

/-- WAIT_EXPIRED and HOLD_EXPIRY act when they are due: a waiting entry leaves CANCELLED with WAIT_EXPIRED (R12), and a
hold-to-run motion whose deadline has passed leaves CANCELLED with RELEASED or ends RELEASED (R14). Not due, they change
nothing.

From which millisecond on an expiry acts is the model's choice (log 1). -/
def Obligations.WaitsAndHoldsExpire : Prop :=
  ∀ (s : State) (c : Ch), s.power.startingUp = false →
    let cancelled := fun (i : Instr) (d : CancelDetail) =>
      ∃ u, exec i s = .next (finish u) ∧ s.Cancelled u c d ∧ (∀ x, x ≠ c → chanOf u x = chanOf s x) ∧
        u.sup.queue = s.sup.queue.filter (fun e => e.ch != c) ∧ u.sup.scanDue = true ∧
        u = { s with chans := u.chans, sup := u.sup, link := u.link, mon := u.mon }
    (∀ t, (chanOf s c).state = .pending → enqueuedAt s c = some t → t + s.store.cfg.waitTimeout * 1000 ≤ s.now →
      cancelled (.waitExpired c) .waitExpired) ∧
    (waitOver s c = false → exec (.waitExpired c) s = .next s) ∧
    ((chanOf s c).hold = true → (chanOf s c).deadline ≤ s.now → pendantRenews s c = false →
      ((chanOf s c).state = .pending → cancelled (.holdExpiry c) .released) ∧
      ((chanOf s c).state = .running →
        ∃ u, exec (.holdExpiry c) s = .next (finish u) ∧ s.Stopped u c .released ∧
          (∀ x, x ≠ c → chanOf u x = chanOf s x) ∧ u.sup.queue = s.sup.queue)) ∧
    (holdOver s c = false → exec (.holdExpiry c) s = .next s)

/-- The end of STOPPING (R18, R45) of a channel with no deferred start: no reservation, not the pump's holder, FAULTED with
its fault after an ABNORMAL termination and IDLE otherwise, its operation, owner and hold removed. The holder of the pump leaves
its valves closed and the direction valve at REST (R45), where no other entry waits. The ends of an electric room that stood at
their targets and all drove learn their coasts (R120), and so does an awning that drove to its stop point (R134); after any other
ending the configuration is unchanged.

AWNING with a deferred start (R6): from IDLE the AUTO_RETRACT is accepted and nothing stays owed, after a fault the start is
refused FAULTED, and a retract of cause DRIVE_AWAY or IGNITION is owed (R35). AWNING with an owed retract enters IDLE with the
retract started again (R36). That the outcome of a deferred start writes the owed retract is the model's reading (log 54).

From which millisecond on an expiry acts is the model's choice (log 1). -/
def Obligations.StoppingEnds : Prop :=
  ∀ (s : State) (c : Ch), s.power.startingUp = false →
    let abnormal := ∃ f w, (chanOf s c).last = some ⟨.abnormal f, w⟩
    let due := (chanOf s c).state = .stopping ∧ (chanOf s c).stopEnds ≤ s.now ∧ c ∉ s.sup.queue.map QEntry.ch
    (stoppingDue s c = false → exec (.stoppingEnd c) s = .next s) ∧
    (due → (chanOf s c).deferred = none → (c = .awning → s.sup.owed = none) →
      ∃ u, exec (.stoppingEnd c) s = .next (finish u) ∧
        (chanOf u c).op = none ∧ (chanOf u c).owner = none ∧ (chanOf u c).hold = false ∧
        (chanOf u c).last = (chanOf s c).last ∧ (chanOf u c).completions = (chanOf s c).completions ∧
        (∀ f w, (chanOf s c).last = some ⟨.abnormal f, w⟩ →
          (chanOf u c).state = .faulted ∧ (chanOf u c).fault = some f) ∧
        (¬ abnormal → (chanOf u c).state = .idle ∧ (chanOf u c).fault = none) ∧
        u.mon.resv.get c = none ∧ u.man.pump.holder ≠ some c ∧
        (s.sup.queue = [] → s.man.pump.holder = some c →
          u.man.pump.holder = none ∧ u.man.dirValve = .rest ∧ (c = .level → ∀ j, valveOpen u j = false) ∧
            (∀ r, c = .room r → u.man.roomValves.get r = false)) ∧
        (∀ r, c = .room r → kindOf s r ≠ .hydraulic →
          let learns := (roomOf s r).onTarget = true ∧ ∀ e, e ∈ roomEnds s r → (endOf s r e).drove = true
          (∀ e d, learns → e ∈ roomEnds s r → (endOf s r e).driveOff = some d →
            endCoastIdx r e < (s.store.cfg.group .learned).length →
            u.store.cfg.endCoast r e = learnCoast 20 (s.store.cfg.endCoast r e) ((endOf s r e).count - d)) ∧
          (¬ learns → u.store.cfg = s.store.cfg) ∧
          (∀ e, (endOf u r e).driveOff = none ∧ (endOf u r e).target = none ∧ (endOf u r e).paused = false) ∧
          (roomOf u r).homeSearch = false) ∧
        (c = .awning →
          (∀ d, s.awn.onTarget = true → s.awn.drove = true → s.awn.driveOff = some d →
            21 < (s.store.cfg.group .learned).length →
            u.store.cfg.awningCoast = learnCoast 30 s.store.cfg.awningCoast (s.awn.count - d)) ∧
          (¬ (s.awn.onTarget = true ∧ s.awn.drove = true) ∨ s.awn.driveOff = none → u.store.cfg = s.store.cfg) ∧
          u.awn.target = none ∧ u.awn.stopPoint = none ∧ u.awn.driveOff = none ∧ u.awn.homeSearch = false)) ∧
    (∀ cause, due → c = .awning → s.present .awning = true →
      (let retracts := ∃ u, exec (.stoppingEnd c) s = .next (finish u) ∧
          (chanOf u .awning).op = some .autoRetract ∧ (chanOf u .awning).owner = some .automatic ∧
          (chanOf u .awning).autoCause = some cause ∧ (chanOf u .awning).deferred = none ∧
          ((chanOf u .awning).state = .pending ∨ runningOrStopping u .awning = true) ∧ u.sup.owed = none
       (¬ abnormal → s.power.state = .run → allStopActive s = false → firstUnsat s .awning .awningIn true = none →
          ((chanOf s .awning).deferred = some ⟨.autoRetract, some cause⟩ → retracts) ∧
          ((chanOf s .awning).deferred = none → s.sup.owed = some cause → s.awn.status ≠ .pin → retracts))) ∧
      (abnormal → (chanOf s .awning).deferred = some ⟨.autoRetract, some cause⟩ → cause ≠ .wind →
        ∃ u, exec (.stoppingEnd c) s = .next (finish u) ∧ (chanOf u .awning).state = .faulted ∧
          (chanOf u .awning).deferred = none ∧ u.sup.owed = some cause))

/-- The interlock evaluation (R28): a waiting channel whose row has an unsatisfied item is cancelled INTERLOCK, a running one
ends ABORTED with the first such item in the order of R27, and no other channel's record changes. The evaluation of every
row afresh is the model's reading of R28 (log 8).

ALL_STOP going active (R39): every present PENDING channel is cancelled STOP, every RUNNING one ends STOPPED, a STOPPING
one keeps its termination and loses its deferred start, and the others are unchanged. -/
def Obligations.InterlocksAndAllStop : Prop :=
  (∀ (s : State) (c : Ch),
    (∀ m i, chanMotion s c = some m →
      firstUnsat s c m ((chanOf s c).owner == some .automatic && (chanOf s c).op == some .autoRetract) = some i →
      ((chanOf s c).state = .pending → s.Cancelled (sweep s) c .interlock) ∧
      ((chanOf s c).state = .running → s.Stopped (sweep s) c (.aborted (.item i)))) ∧
    ((chanUnsat s c = none ∨ ((chanOf s c).state ≠ .pending ∧ (chanOf s c).state ≠ .running)) →
      chanOf (sweep s) c = chanOf s c)) ∧
  (∀ (s : State) (c : Ch),
    (s.present c = true → (chanOf s c).state = .pending → s.Cancelled (allStop s) c .stop) ∧
    (s.present c = true → (chanOf s c).state = .running → s.Stopped (allStop s) c .stopped) ∧
    (s.present c = true → (chanOf s c).state = .stopping →
      chanOf (allStop s) c = { chanOf s c with deferred := none }) ∧
    (s.present c = false ∨ (chanOf s c).state = .idle ∨ (chanOf s c).state = .faulted →
      chanOf (allStop s) c = chanOf s c))

/-- A protective retract request by the state of AWNING (R35): nothing with the awning IN or absent; owed where no START is
made, and where the START is refused ALL_STOP_HELD or BUSY; nothing owed where it is refused otherwise, as INTERLOCK. From IDLE the
AUTOMATIC START is accepted; a waiting EXTEND is cancelled INTERLOCK and a running one aborted, and the START is then accepted, or
kept as the deferred start while AWNING stops; an AUTOMATIC retract that waits or runs answers ALREADY and keeps its own cause.

The drive-away condition (R33): a transition begins it in a coach that is not travel-ready, the debounced brake going
active ends it with a DRIVE_AWAY retract that is owed (R36), and a coach already moving under it is not taken again. The alert's
latch sets at the beginning itself and ALERTS is queued where it is enabled (R34).

What the beginning does (R37): the protective request and the auto-stow, each only where its entry is on. The auto-stow is a
STOW of owner AUTOMATIC where every present room is IN, LEVEL is IDLE, a present jack is not STOWED and R4 does not refuse it; in
every other case LEVEL is as it was. -/
def Obligations.RetractsRequested : Prop :=
  (∀ (s : State) (cause : AutoCause),
    let q := chanOf s .awning
    let u := protectiveRequest cause s
    let waits := q.state = .pending ∨ q.state = .running
    let owes := fun (o : Option AutoCause) => u = { s with sup := { s.sup with owed := o } }
    let held := allStopActive s = true ∨ s.power.state ≠ .run
    let bars := fun (x : Option Item) => firstUnsat s .awning .awningIn true = x
    let starts := u.sup.owed = none ∧ (chanOf u .awning).state = .pending ∧ (chanOf u .awning).op = some .autoRetract ∧
      (chanOf u .awning).owner = some .automatic ∧ (chanOf u .awning).autoCause = some cause ∧
      (chanOf u .awning).hold = false ∧ (∀ d, d ≠ .awning → chanOf u d = chanOf s d)
    (s.present .awning = false ∨ s.awn.status = .pin → u = s) ∧
    (s.present .awning = true → s.awn.status ≠ .pin →
      (q.state = .faulted ∨ waits ∧ q.op = some .retract → owes (some cause)) ∧
      (held → q.state = .idle ∨ q.state = .stopping ∨ waits ∧ q.op = some .autoRetract ∧ q.owner = some .automatic →
        owes (some cause)) ∧
      (¬ held → q.state = .stopping →
        u.sup.owed = none ∧ chanOf u .awning = { q with deferred := some ⟨.autoRetract, some cause⟩ } ∧
          ∀ d, d ≠ .awning → chanOf u d = chanOf s d) ∧
      (¬ held → waits → q.op = some .autoRetract → q.owner = some .automatic → owes none) ∧
      (¬ held → q.state = .idle →
        (bars none → starts ∧ u.sup.queue = s.sup.queue ++ [⟨.awning, s.now⟩]) ∧ (∀ i, bars (some i) → owes none)) ∧
      (q.state = .pending → q.op = some .extend →
        (chanOf u .awning).last = some ⟨.cancelled .interlock, q.owner⟩ ∧
        (¬ held → bars none → starts ∧
          u.sup.queue = s.sup.queue.filter (fun e => e.ch != .awning) ++ [⟨.awning, s.now⟩]) ∧
        (∀ i, ¬ held → bars (some i) → s.Cancelled u .awning .interlock ∧ u.sup.owed = none) ∧
        (held → s.Cancelled u .awning .interlock ∧ u.sup.owed = some cause)) ∧
      (q.state = .running → q.op = some .extend →
        s.Stopped u .awning (.aborted (.item (protectiveItem s cause))) ∧
        (¬ held → u.sup.owed = none ∧ (chanOf u .awning).deferred = some ⟨.autoRetract, some cause⟩) ∧
        (held → u.sup.owed = some cause ∧ (chanOf u .awning).deferred = q.deferred)))) ∧
  (∀ (s : State) (i : Item),
    (travelReady s = true ∨ s.sup.driveAway = true → driveAwayBegin i s = s) ∧
    (travelReady s = false → s.sup.driveAway = false →
      (driveAwayBegin i s).sup.driveAway = true ∧ (driveAwayBegin i s).sup.driveAwayBy = i) ∧
    (roleChange .brake true s).sup.driveAway = false ∧
    (s.sup.owed = some .driveAway → (roleChange .brake true s).sup.owed = none) ∧
    (s.sup.owed ≠ some .driveAway → (roleChange .brake true s).sup.owed = s.sup.owed)) ∧
  (∀ (s : State) (i : Item), travelReady s = false → s.sup.driveAway = false →
    let u := driveAwayBegin i s
    let begun := setAlertCond .driveAway true { s with sup := { s.sup with driveAway := true, driveAwayBy := i } }
    let stows := s.store.cfg.autoStow = true ∧ (∀ r, s.present (.room r) = true → (roomOf s r).status = .pin) ∧
      (chanOf s .level).state = .idle ∧ (∃ j, s.jackPresent j = true ∧ (jackOf s j).contact ≠ .stowed) ∧
      s.power.state = .run ∧ allStopActive s = false ∧ firstUnsat s .level .jackRetract false = none
    ((s.link.alerts.get .driveAway).cond = false →
      u.link.alerts.get .driveAway = { cond := true, latch := true } ∧
        (s.store.cfg.alertEnabled .driveAway = true → s.store.cfg.sourceEnabled .alerts = true →
          Source.alerts ∈ u.link.reports)) ∧
    (s.store.cfg.autoStow = false →
      u = if s.store.cfg.driveAwayRetract = true then protectiveRequest .driveAway begun else begun) ∧
    (stows → (chanOf u .level).state = .pending ∧ (chanOf u .level).op = some .stow ∧
      (chanOf u .level).owner = some .automatic ∧ (chanOf u .level).hold = false ∧
      ⟨.level, s.now⟩ ∈ u.sup.queue) ∧
    (¬ stows → chanOf u .level = chanOf s .level))

/-- A bin end at threshold (R137): the lockout starts or is restarted at its full length. The wind retract is requested where the
awning is present and not IN, and AWNING neither waits nor runs with an AUTOMATIC AUTO_RETRACT of cause WIND nor carries a deferred
start of that cause; else nothing more changes. The request makes WIND_RETRACT active, after a wake with cause WIND where the part
is in WATCH (R142).

The request by the state of AWNING (R139): from IDLE the AUTOMATIC START is accepted, or refused where a role cell bars it; a
waiting EXTEND is cancelled INTERLOCK and the START is made; a running one is aborted WIND and the START kept as the deferred start;
STOPPING keeps it, in place of any earlier one; an AUTOMATIC retract of another cause takes the cause WIND; a hand RETRACT is left
to its owner, and a FAULTED channel stays so. While ALL_STOP is active no channel changes.

Where the START is accepted, kept or answered ALREADY, nothing is owed (R36), and every under-awning room gives way (R140): a running
one is aborted AWNING_CONFLICT, a waiting one cancelled INTERLOCK, and no other room changes.

Outside RUN, AWNING is IDLE or FAULTED (R190), which the invariant of the channels states. From which millisecond on an expiry acts
is the model's choice (log 1). -/
def Obligations.WindRetracts : Prop :=
  ∀ s : State,
    let q := chanOf s .awning
    s.power.startingUp = false → windBinDue s = true → windAtThreshold (windBin s) = true →
    (s.power.state ≠ .run → q.state = .idle ∨ q.state = .faulted) →
    let waits := q.state = .pending ∨ q.state = .running
    let protects := waits ∧ q.op = some .autoRetract ∧ q.owner = some .automatic
    let standing := (protects ∧ q.autoCause = some .wind) ∨ q.deferred.bind Deferred.cause = some .wind
    let calls := s.present .awning = true ∧ s.awn.status ≠ .pin ∧ ¬ standing
    let clear := firstUnsat (startLockout (windBin s)) .awning .awningIn true = none
    ∃ u, exec .windBinEnd s = .next (finish u) ∧
      u.wind.lockout = some (s.now + s.store.cfg.lockoutLength * 60000) ∧
      (¬ calls → u = { s with wind := u.wind } ∧ u.wind.retract = s.wind.retract) ∧
      (calls →
        let leaves := u.chans = s.chans ∧ u.sup.owed = s.sup.owed
        let gives :=
          (∀ r, underAwning s r = true →
            ((chanOf s (.room r)).state = .running → s.Stopped u (.room r) (.aborted .awningConflict)) ∧
            ((chanOf s (.room r)).state = .pending → s.Cancelled u (.room r) .interlock) ∧
            ((chanOf s (.room r)).state ≠ .running → (chanOf s (.room r)).state ≠ .pending →
              chanOf u (.room r) = chanOf s (.room r))) ∧
          (∀ r, underAwning s r = false → chanOf u (.room r) = chanOf s (.room r)) ∧
          chanOf u .level = chanOf s .level ∧ u.sup.owed = none
        let starts := (chanOf u .awning).state = .pending ∧ (chanOf u .awning).op = some .autoRetract ∧
          (chanOf u .awning).owner = some .automatic ∧ (chanOf u .awning).autoCause = some .wind ∧
          Ch.awning ∈ u.sup.queue.map QEntry.ch ∧ gives
        u.wind.retract = true ∧ u.power.state = .run ∧
        (s.power.state ≠ .run → u.link.postureCause = some .wind ∧ Source.posture ∈ u.link.reports) ∧
        (allStopActive s = true → leaves) ∧
        (allStopActive s = false →
          (q.state = .idle → (clear → starts) ∧ (¬ clear → u.chans = s.chans)) ∧
          (q.state = .pending → q.op = some .extend →
            (clear → starts ∧ (chanOf u .awning).last = some ⟨.cancelled .interlock, q.owner⟩) ∧
            (¬ clear → s.Cancelled u .awning .interlock ∧ u.sup.owed = s.sup.owed ∧
              ∀ c, c ≠ .awning → chanOf u c = chanOf s c)) ∧
          (q.state = .running → q.op = some .extend →
            s.Stopped u .awning (.aborted (.item .wind)) ∧
              (chanOf u .awning).deferred = some ⟨.autoRetract, some .wind⟩ ∧ gives) ∧
          (q.state = .stopping → chanOf u .awning = { q with deferred := some ⟨.autoRetract, some .wind⟩ } ∧ gives) ∧
          (protects →
            chanOf u .awning = { q with autoCause := some .wind } ∧ u.awn.lastAuto = some .wind ∧ gives ∧
              (s.store.cfg.sourceEnabled (.chan .awning) = true → Source.chan .awning ∈ u.link.reports)) ∧
          (waits → q.op = some .retract → leaves) ∧ (q.state = .faulted → leaves)))

/-! ### Terminals and sensors -/

/-- A raw level of a general input is seen (R162): the timer starts, runs on, or is cancelled; nothing else changes.

A debounce timer expires (R162, R164): the debounced level takes the raw level, the timer stops, the change flag is set
and INPUTS is signalled; a terminal without a role does nothing more. Not due, the command changes nothing.

The reading of a terminal with a role goes to the role's consumers. IGNITION going active and a pendant role whose effective state
goes active wake the part first, and no other change does (R162, R191). Then a pendant role and its partner are decoded (R165);
BRAKE going inactive begins the drive-away condition and going active ends it, with a DRIVE_AWAY retract that is owed (R33, R36);
IGNITION going active makes its protective request where the entry is on (R38), and going inactive ends a retract owed for it (R36);
ALL_STOP going active cancels, stops, or takes the deferred start of every present channel (R39), and going inactive has an owed
retract requested again (R36); a hydraulic limit is handed to its room (R56). PARK_GEAR is read by the interlocks alone.

From which millisecond on an expiry acts is the model's choice (log 1), and so is that a partner let go starts the role that is still
pressed, as R165 says and a row of R172 does not (log 63). That a role that reads inactive leaves the mask, and that the mask holds
back no wake, is its reading of R161 and R162 (log 30). -/
def Obligations.InputsDebounce : Prop :=
  (∀ (s : State) (t : Fin 16) (high : Bool), s.power.startingUp = false →
    ∃ u, exec (.inputRawChange t high) s = .next u ∧
      u = { s with term := { s.term with raw := s.term.raw.set t high, timers := u.term.timers } } ∧
      (high = s.term.deb.get t → u.term.timers.get t = none) ∧
      (high ≠ s.term.deb.get t → s.term.timers.get t = none →
        u.term.timers.get t = some (s.now + s.store.cfg.debounceMs t)) ∧
      (high ≠ s.term.deb.get t → s.term.timers.get t ≠ none → u.term.timers.get t = s.term.timers.get t) ∧
      (∀ x, x ≠ t → u.term.timers.get x = s.term.timers.get x)) ∧
  (∀ (s : State) (t : Fin 16), s.power.startingUp = false →
    (debounceDue s t = false → exec (.inputDebounceExpiry t) s = .next s) ∧
    (debounceDue s t = true →
      ∃ u, exec (.inputDebounceExpiry t) s = .next (finish u) ∧
        u.term = { s.term with
          deb := s.term.deb.set t (s.term.raw.get t), timers := s.term.timers.set t none,
          flags := s.term.flags.set t true, mask := u.term.mask } ∧
        (s.store.cfg.sourceEnabled .inputs = true → Source.inputs ∈ u.link.reports) ∧
        (s.store.cfg.inputRole t = none → u.term.mask = s.term.mask ∧ u = { s with term := u.term, link := u.link }) ∧
        u.store.cfg = s.store.cfg ∧ u.scan = s.scan ∧ u.now = s.now)) ∧
  (∀ (s : State) (t : Fin 16) (x : InRole), s.power.startingUp = false → debounceDue s t = true →
    s.store.cfg.inputRole t = some x →
    let w := takeLevel t s
    let active := s.term.raw.get t != s.store.cfg.inputLow t
    let byIgnition := x == .ignition && roleActive w .ignition && !roleActive s .ignition
    let byPendant := (pairOf x).any (fun p => effective w p && !effective s p)
    let v := if byIgnition = true then wake .ignition w else if byPendant = true then wake .pendant w else w
    ∃ u, exec (.inputDebounceExpiry t) s = .next (finish u) ∧
      (byIgnition = false → byPendant = false → u.power = s.power) ∧
      (byIgnition = true ∨ byPendant = true → u.power.state = .run ∧
        (s.power.state ≠ .run → Source.posture ∈ u.link.reports ∧
          u.link.postureCause = some (if byIgnition = true then .ignition else .pendant))) ∧
      (isPendant x = true → u = trimMask ((pairOf x).foldl (fun z p => pendantDecode s z p) v)) ∧
      (x = .brake →
        (active = false → u = trimMask (driveAwayBegin .brake w)) ∧
        (active = true → u.chans = s.chans ∧ u.sup = { s.sup with
          driveAway := false, owed := if s.sup.owed = some .driveAway then none else s.sup.owed })) ∧
      (x = .ignition →
        (active = true → s.store.cfg.ignitionRetract = true → u = trimMask (protectiveRequest .ignition v)) ∧
        (active = true → s.store.cfg.ignitionRetract = false → u.chans = v.chans ∧ u.sup = v.sup) ∧
        (active = false → u.chans = s.chans ∧ u.sup = { s.sup with
          owed := if s.sup.owed = some .ignition then none else s.sup.owed })) ∧
      (x = .allStop →
        (active = true → ∀ c,
          (s.present c = true →
            ((chanOf s c).state = .pending → s.Cancelled u c .stop) ∧
            ((chanOf s c).state = .running → s.Stopped u c .stopped) ∧
            ((chanOf s c).state = .stopping → chanOf u c = { chanOf s c with deferred := none })) ∧
          (s.present c = false ∨ (chanOf s c).state = .idle ∨ (chanOf s c).state = .faulted → chanOf u c = chanOf s c)) ∧
        (active = false → u.chans = s.chans ∧
          u.sup = { s.sup with owedDue := s.sup.owedDue || s.sup.owed.isSome })) ∧
      (∀ r, x = .outLimit r ∨ x = .inLimit r → u = trimMask (roleChange x active w)) ∧
      (x = .parkGear → u = trimMask w))

/-- The pendant (R165 to R167): a held role whose effective state goes active starts its room or the awning, outward or
inward, with owner PENDANT and hold, and one that goes inactive releases it. LEVEL_AUTO and STOW start an IDLE LEVEL without hold,
cancel a waiting one, stop a running one, and do nothing at their release. A START that R4 refuses leaves the part as it was.

A masked role is not taken, which is the model's reading of R161 and R162 (log 30). -/
def Obligations.PendantDecodes : Prop :=
  ∀ (old s : State) (r : Room),
    let on := fun (x : InRole) => effective old x = false ∧ effective s x = true
    let off := fun (x : InRole) => effective old x = true ∧ effective s x = false
    let held : List (InRole × Ch × Op × Motion) :=
      [(.roomOut r, .room r, .extend, .roomOut), (.roomIn r, .room r, .retract, .roomIn),
        (.awningOut, .awning, .extend, .awningOut), (.awningIn, .awning, .retract, .awningIn)]
    let press : List (InRole × Op × Motion) := [(.levelAuto, .autoLevel, .jackExtend), (.stow, .stow, .jackRetract)]
    let refused := fun (c : Ch) (o : Op) (m : Motion) =>
      s.power.state ≠ .run ∨ s.present c = false ∨ allStopActive s = true ∨ (chanOf s c).state ≠ .idle ∨
        jobCheck s c o 0 ≠ none ∨ firstUnsat s c m false ≠ none
    let started := fun (u : State) (c : Ch) (o : Op) (hold : Bool) =>
      (chanOf u c).state = .pending ∧ (chanOf u c).op = some o ∧ (chanOf u c).owner = some .pendant ∧
        (chanOf u c).hold = hold ∧ (chanOf u c).deadline = (if hold = true then s.now + s.store.cfg.holdWindow else 0) ∧
        (∀ d, d ≠ c → chanOf u d = chanOf s d) ∧ u.sup.queue = s.sup.queue ++ [⟨c, s.now⟩]
    (∀ x c o m, (x, c, o, m) ∈ held →
      (on x → x ∈ s.term.mask → pendantDecode old s x = s) ∧
      (on x → x ∉ s.term.mask →
        (¬ refused c o m → started (pendantDecode old s x) c o true) ∧ (refused c o m → pendantDecode old s x = s)) ∧
      (off x →
        ((chanOf s c).owner = some .pendant → (chanOf s c).hold = true →
          ((chanOf s c).state = .running → s.Stopped (pendantDecode old s x) c .released) ∧
          ((chanOf s c).state = .pending → s.Cancelled (pendantDecode old s x) c .released)) ∧
        ((chanOf s c).owner ≠ some .pendant ∨ (chanOf s c).hold = false ∨
            ((chanOf s c).state ≠ .running ∧ (chanOf s c).state ≠ .pending) →
          pendantDecode old s x = s))) ∧
    (∀ x o m, (x, o, m) ∈ press →
      (on x → x ∈ s.term.mask → pendantDecode old s x = s) ∧ (off x → pendantDecode old s x = s) ∧
      (on x → x ∉ s.term.mask →
        ((chanOf s .level).state = .idle →
          (¬ refused .level o m → started (pendantDecode old s x) .level o false) ∧
          (refused .level o m → pendantDecode old s x = s)) ∧
        ((chanOf s .level).state = .faulted ∨ (chanOf s .level).state = .stopping → pendantDecode old s x = s) ∧
        (s.present .level = true → (chanOf s .level).state = .running →
          s.Stopped (pendantDecode old s x) .level .stopped) ∧
        (s.present .level = true → (chanOf s .level).state = .pending →
          s.Cancelled (pendantDecode old s x) .level .stop)))

/-- Speed pulses (R163): a pulse of 2 ms or more joins the last second's, and the third makes the coach moving; a narrower
one, or one without SPEED assigned, changes nothing. The oldest pulse falls out after 1000 ms, and with two or fewer left the
coach is not moving.

That a pulse carries its width, and that the window is judged by the millisecond, is the model's choice (logs 1 and 50). -/
def Obligations.SpeedCounts : Prop :=
  ∀ (s : State) (width : Nat), s.power.startingUp = false →
    let recent := s.term.pulses.filter (fun t => s.now < t + 1000)
    (s.store.cfg.speedAssigned = true → 2 ≤ width →
      ∃ u, exec (.speedPulse width) s = .next (finish u) ∧ u.term.pulses = recent ++ [s.now] ∧
        u.term.moving = (s.term.moving || 2 < (recent ++ [s.now]).length) ∧
        (u.term.moving ≠ s.term.moving → u.term.speedFlag = true) ∧ u.term.deb = s.term.deb) ∧
    (s.store.cfg.speedAssigned = false ∨ width < 2 → exec (.speedPulse width) s = .next (finish s)) ∧
    (speedWindowDue s = true →
      ∃ u, exec .speedWindowExpiry s = .next (finish u) ∧ u.term.pulses = recent ∧
        u.term.moving = (s.term.moving && 2 < recent.length) ∧
        (u.term.moving ≠ s.term.moving → u.term.speedFlag = true) ∧ u = { s with term := u.term, link := u.link }) ∧
    (speedWindowDue s = false → exec .speedWindowExpiry s = .next s)

/-- STOWED_SWITCH_CHANGE (R61, R62): the switch takes its level, a present jack's contact state is derived from the switch,
the flag and the pressure against the threshold of its last pressure sample, and STOWED removes the ground stroke; no other
jack's contact changes.

The row is the change of the debounced level, the model's reading (log 41). -/
def Obligations.StowedSwitchDerives : Prop :=
  ∀ (s : State) (j : Jack) (active : Bool), s.power.startingUp = false →
    ∃ u, exec (.stowedSwitchChange j active) s = .next (finish u) ∧ (jackOf u j).stowed = active ∧
      (s.jackPresent j = true →
        (active = true → (jackOf u j).contact = .stowed ∧
          ((jackOf s j).contact ≠ .stowed → (jackOf u j).ground = none)) ∧
        (active = false → (jackOf s j).fault = false →
          (jackOf u j).contact =
            if (jackOf s j).threshold ≤ (jackOf s j).pressure then .ground else .air) ∧
        (active = false → (jackOf s j).fault = true →
          (jackOf u j).contact = if (jackOf s j).held = .stowed then .air else (jackOf s j).held)) ∧
      (s.jackPresent j = false → (jackOf u j).contact = (jackOf s j).contact) ∧
      (∀ k, k ≠ j → (jackOf u k).contact = (jackOf s k).contact ∧ (jackOf u k).stowed = (jackOf s k).stowed) ∧
      (∀ k, (jackOf u k).stroke = (jackOf s k).stroke ∧ (jackOf u k).pressure = (jackOf s k).pressure) ∧
      u.mon = s.mon ∧ u.store.cfg = s.store.cfg ∧ u.scan = s.scan

/-- ANALOG_SCAN (R169, R170): in RUN the in-band readings of a present jack without a flag give its stroke and pressure, and
its contact state is derived from the pressure and the present threshold (R61); an out-of-band reading sets the flag and freezes
both, and the currents, the fault-sense lines (R156) and the supply are taken; in WATCH the supply alone is taken; in SLEEP
nothing.

A sensor fault flag clears after 1 s in band (R170, R61, R52): the live values are handed on and the contact state is
derived from them. Not due, the command changes nothing.

That either reading out of band freezes both, and that the line pressure follows in-band readings under its flag, is the model's reading (logs 34 and 35); the millisecond of the clearing is its choice (log 1). -/
def Obligations.ScansTakeReadings : Prop :=
  (∀ (s : State) (reads : Analog), s.power.startingUp = false →
    let band := fun (x : Nat) => 200 ≤ x ∧ x ≤ 9800
    ∃ u, exec (.analogScan reads) s = .next (finish u) ∧
      (s.power.state = .run →
        (∀ j, s.jackPresent j = true → (jackOf s j).fault = false →
          (band (reads.strokes.get j) → band (reads.pressures.get j) →
            (jackOf u j).fault = false ∧ (jackOf u j).stroke = scaleReading 400 (reads.strokes.get j) ∧
              (jackOf u j).pressure = scaleReading 250 (reads.pressures.get j) ∧
              (jackOf u j).threshold = s.store.cfg.groundContact ∧
              (jackOf u j).contact =
                (if (jackOf s j).stowed = true then .stowed
                else if s.store.cfg.groundContact ≤ scaleReading 250 (reads.pressures.get j) then .ground else .air)) ∧
          (¬ (band (reads.strokes.get j) ∧ band (reads.pressures.get j)) →
            (jackOf u j).fault = true ∧ (jackOf u j).stroke = (jackOf s j).stroke ∧
              (jackOf u j).pressure = (jackOf s j).pressure ∧ (jackOf u j).threshold = (jackOf s j).threshold)) ∧
        (band reads.line → u.man.line = scaleReading 250 reads.line ∧ u.man.lineFault = s.man.lineFault) ∧
        (¬ band reads.line → u.man.line = s.man.line ∧ u.man.lineFault = true) ∧
        u.mon.currents = reads.currents ∧ (∀ d, u.mon.faultSense.get d = s.mon.senseLines.get d) ∧
        u.mon.sample = min 2000 reads.supply) ∧
      (s.power.state = .watch → u.mon.samples = (min 2000 reads.supply :: s.mon.samples).take 8 ∧
        (∀ j, (jackOf u j).stroke = (jackOf s j).stroke ∧ (jackOf u j).pressure = (jackOf s j).pressure ∧
          (jackOf u j).fault = (jackOf s j).fault) ∧
        u.man.line = s.man.line ∧ u.mon.currents = s.mon.currents) ∧
      (s.power.state = .sleep → u = s) ∧ u.scan.grad = s.scan.grad ∧ u.store.cfg = s.store.cfg) ∧
  (∀ (s : State) (j : Jack), s.power.startingUp = false →
    (jackFlagDue s j = true →
      ∃ u, exec (.sensorFlagClear (.jack j)) s = .next (finish u) ∧ (jackOf u j).fault = false ∧
        (jackOf u j).bandSince = none ∧ (jackOf u j).stroke = scaleReading 400 (s.scan.strokes.get j) ∧
        (jackOf u j).pressure = scaleReading 250 (s.scan.pressures.get j) ∧
        (jackOf u j).threshold = s.store.cfg.groundContact ∧
        (jackOf u j).contact =
          (if (jackOf s j).stowed = true then .stowed
          else if s.store.cfg.groundContact ≤ scaleReading 250 (s.scan.pressures.get j) then .ground else .air) ∧
        (∀ k, k ≠ j → (jackOf u k).fault = (jackOf s k).fault ∧ (jackOf u k).contact = (jackOf s k).contact)) ∧
    (jackFlagDue s j = false → exec (.sensorFlagClear (.jack j)) s = .next s) ∧
    (lineFlagDue s = true →
      ∃ u, exec (.sensorFlagClear .line) s = .next (finish u) ∧ u.man.lineFault = false ∧
        u.man.lineBandSince = none ∧ u.man.line = s.man.line ∧ u = { s with man := u.man, lev := u.lev }) ∧
    (lineFlagDue s = false → exec (.sensorFlagClear .line) s = .next s))

/-- The supply's average and state (R146, R147): from the eighth sample on, the average is the sum of the eight div 8, and
the table is applied until no row applies, so that one average can take the state two steps.

Entering BROWN (R150): every RUNNING channel ends ABORTED with cause SUPPLY but an awning retract, and every other
channel keeps its record. -/
def Obligations.SupplyFollowsAverage : Prop :=
  (∀ (s : State) (v : Nat),
    let l := (min 2000 v :: s.mon.samples).take 8
    let u := supplySample v s
    u.mon.samples = l ∧
    (l.length < 8 → u = { s with mon := { s.mon with samples := l, sample := min 2000 v } }) ∧
    (l.length = 8 →
      u.mon.avg = some (l.sum / 8) ∧
      u.mon.supply =
        match s.mon.supply with
        | .normal => if l.sum / 8 < 1080 then .brown else if l.sum / 8 < 1140 then .sag else .normal
        | .sag => if 1170 ≤ l.sum / 8 then .normal else if l.sum / 8 < 1080 then .brown else .sag
        | .brown => if 1170 ≤ l.sum / 8 then .normal else if 1110 ≤ l.sum / 8 then .sag else .brown)) ∧
  (∀ (s : State) (v : Nat) (c : Ch),
    s.mon.supply ≠ .brown → (supplySample v s).mon.supply = .brown →
    ((chanOf s c).state = .running →
      ¬ (c = .awning ∧ ((chanOf s c).op = some .retract ∨ (chanOf s c).op = some .autoRetract)) →
      s.Stopped (supplySample v s) c (.aborted .supply)) ∧
    ((chanOf s c).state ≠ .running ∨
        (c = .awning ∧ ((chanOf s c).op = some .retract ∨ (chanOf s c).op = some .autoRetract)) →
      chanOf (supplySample v s) c = chanOf s c))

/-- A trip timer reaches 50 ms (R155): the driver goes off, its latch sets with the channel of R154, and a RUNNING recorded
channel ends ABNORMAL, OVERCURRENT, naming the driver. Not due, the command changes nothing.

A fault-sense line changes (R156): in RUN the line takes its level, and a set latch with no recorded channel, or one that is
absent, IDLE or PENDING, clears when the line is inactive, which makes a scan due; any other latch keeps. In WATCH and SLEEP no
current sample reads the line, and only its level changes.

That the row is the change of the debounced level (log 41), that a change is read in its own step in RUN and moves only its level
outside RUN (log 44), and that a trip timer runs out outside RUN too (log 20) is the model's reading. That a latch which clears
keeps no recorded channel (log 77), and from which millisecond on an expiry acts (log 1), is its choice. -/
def Obligations.OvercurrentLatches : Prop :=
  (∀ (s : State) (d : Driver) (c : Ch), s.power.startingUp = false →
    (tripDue s d = false → exec (.tripTimerExpiry d) s = .next s) ∧
    (tripDue s d = true → tripChannel s d = some c → (chanOf s c).state = .running → s.present c = true →
      ∃ u, exec (.tripTimerExpiry d) s = .next (finish u) ∧
        u.mon.latches.get d = { isSet := true, ch := some c } ∧
        (∀ x, x ≠ d → u.mon.latches.get x = s.mon.latches.get x) ∧
        s.Stopped u c (.abnormal ⟨.overcurrent, .driver d⟩) ∧ (∀ x, x ≠ c → chanOf u x = chanOf s x) ∧
        (d = .pump → u.man.pump.on = false ∧ (s.man.pump.on = true → u.man.pump.tripped = true)) ∧
        (∀ r e, d = .roomEnd r e → (endOf u r e).drive = .brake) ∧ (d = .awning → u.awn.drive = .brake)) ∧
    (tripDue s .spare = true →
      ∃ u, exec (.tripTimerExpiry .spare) s = .next (finish u) ∧ u.chans = s.chans ∧
        (u.mon.latches.get .spare).isSet = s.mon.faultSense.get .spare)) ∧
  (∀ (s : State) (d : Driver) (active : Bool), s.power.startingUp = false →
    let free := (s.mon.latches.get d).ch = none ∨ ∃ c, (s.mon.latches.get d).ch = some c ∧
      (s.present c = false ∨ (chanOf s c).state = .idle ∨ (chanOf s c).state = .pending)
    ∃ u, exec (.faultSenseChange d active) s = .next (finish u) ∧ u.mon.senseLines = s.mon.senseLines.set d active ∧
      (s.power.state ≠ .run → u = { s with mon := { s.mon with senseLines := u.mon.senseLines } }) ∧
      (s.power.state = .run →
        u.mon.faultSense = s.mon.faultSense.set d active ∧
        (active = false → free → (s.mon.latches.get d).isSet = true →
          u.mon.latches = s.mon.latches.set d {} ∧ u.sup = { s.sup with scanDue := true }) ∧
        (active = true ∨ ¬ free ∨ (s.mon.latches.get d).isSet = false →
          u.mon.latches = s.mon.latches ∧ u.sup = s.sup) ∧
        u = { s with mon := u.mon, sup := u.sup }))

/-- An inclinometer poll (R171, R87): a good read is corrected by the zero offsets and clamped, marked saturated at a limit,
and makes the record VALID; a failed one holds the values, the first three mark the record stale, and the fourth makes it
INVALID. With LEVEL not RUNNING a good read enters the settle window and a failed one does not (R70). Outside RUN nothing is
polled. -/
def Obligations.PollKeepsRecord : Prop :=
  ∀ s : State, s.power.startingUp = false →
    (s.power.state ≠ .run → ∀ r, exec (.inclinometerPoll r) s = .next (finish s)) ∧
    (s.power.state = .run →
      (∀ r : RawGrad, -1000 ≤ r.pitch → r.pitch ≤ 1000 → -1000 ≤ r.roll → r.roll ≤ 1000 →
        ∃ u, exec (.inclinometerPoll (some r)) s = .next (finish u) ∧
          (∃ q, u.scan.grad = { reading := some q, stale := false, valid := true, failures := 0 } ∧
            q.raw = ⟨r.pitch, r.roll⟩ ∧
            q.cor = ⟨min 1000 (max (-1000) (r.pitch - s.store.cfg.pitchZero)),
              min 1000 (max (-1000) (r.roll - s.store.cfg.rollZero))⟩ ∧
            (q.sat = true ↔ r.pitch = 1000 ∨ r.pitch = -1000 ∨ r.roll = 1000 ∨ r.roll = -1000 ∨
              q.cor.pitch ≠ r.pitch - s.store.cfg.pitchZero ∨ q.cor.roll ≠ r.roll - s.store.cfg.rollZero) ∧
            ((chanOf s .level).state ≠ .running →
              u.lev.ring =
                (if s.lev.ring.length < 20 then s.lev.ring else s.lev.ring.drop 1) ++ [⟨q.cor, q.raw, q.sat⟩]))) ∧
      (∃ u, exec (.inclinometerPoll none) s = .next (finish u) ∧
        u.scan.grad = { s.scan.grad with
          stale := s.scan.grad.stale || decide (s.scan.grad.failures < 3), failures := min 4 (s.scan.grad.failures + 1),
          valid := s.scan.grad.valid && s.scan.grad.failures + 1 < 4 } ∧
        u.lev.ring = s.lev.ring))

/-! ### Levelling -/

/-- The levelling time limits and the stall (R69, R72, R73, R76, R79): each ends the run ABNORMAL with its fault and the
jacks it names, the phase over and a pump it holds off.

When the levelling limits, the stall, the settle give-up, the trim wait and the drift timer are due, and that a command that is
not due changes nothing (R69, R70, R72, R75, R76, R79, R83).

The millisecond of each limit, and that the 90 s act at the first open valve after them, is the model's choice (logs 1 and 28). -/
def Obligations.LevelLimits : Prop :=
  (∀ s : State, s.power.startingUp = false →
    let ends := fun (i : Instr) (k : FaultKind) (l : List Jack) =>
      ∃ u, exec i s = .next (finish u) ∧ s.Stopped u .level (.abnormal ⟨k, .jacks l⟩) ∧ u.lev.phase = .none ∧
        (∀ c, c ≠ .level → chanOf u c = chanOf s c) ∧ (s.man.pump.holder = some .level → u.man.pump.on = false) ∧
        u.mon = s.mon ∧ u.store.cfg = s.store.cfg
    (groundLimitDue s = true →
      ends .groundTimeLimit .noGround ((presentJacks s).filter (fun j => (jackOf s j).contact != .ground))) ∧
    (liftLimitDue s = true → ends .liftTimeLimit .stall (openJacks s)) ∧
    (stallDue s = true → ends .levelStall .stall (openJacks s)) ∧
    (trimLimitDue s = true → ends .trimTimeLimit .stall (openJacks s)) ∧
    (stowLimitDue s = true →
      ends .stowTimeLimit .notStowed ((presentJacks s).filter (fun j => (jackOf s j).contact != .stowed)))) ∧
  (∀ s : State, s.power.startingUp = false →
    let run := (chanOf s .level).state = .running
    (groundLimitDue s = true ↔ run ∧ (∃ j, s.jackPresent j = true ∧ (jackOf s j).contact ≠ .ground) ∧
      (s.lev.phase = .ground ∧ s.lev.phaseSince + 60000 ≤ s.now ∨
        s.lev.phase = .measure ∧ s.lev.sub = .reground ∧ s.lev.stepSince + 60000 ≤ s.now)) ∧
    (liftLimitDue s = true ↔ run ∧ s.lev.phase = .lift ∧ s.lev.phaseSince + 90000 ≤ s.now ∧
      ∃ j, valveOpen s j = true) ∧
    (trimLimitDue s = true ↔ run ∧ s.lev.phase = .trim ∧ s.lev.phaseSince + 90000 ≤ s.now ∧
      ∃ j, valveOpen s j = true) ∧
    (stallDue s = true ↔ run ∧
      (s.lev.phase = .ground ∨ s.lev.phase = .lift ∨ s.lev.phase = .measure ∧ s.lev.sub = .reground ∨
        s.lev.phase = .trim ∧ s.lev.sub = .stepping) ∧
      s.man.deadhead ≠ none ∧ ∃ q, s.lev.stall = some q ∧ q.since + 2000 ≤ s.now) ∧
    (giveUpDue s = true ↔ run ∧ s.lev.sub = .settling ∧ s.lev.settleSince + 5000 ≤ s.now) ∧
    (trimWaitDue s = true ↔ run ∧ s.lev.phase = .trim ∧ s.lev.sub = .waiting ∧ s.lev.trimUntil ≤ s.now) ∧
    (stowLimitDue s = true ↔ run ∧ s.lev.phase = .stow ∧ (chanOf s .level).admitted + 120000 ≤ s.now ∧
      ∃ j, s.jackPresent j = true ∧ (jackOf s j).contact ≠ .stowed) ∧
    (driftDue s = true ↔ s.power.state = .run ∧ (chanOf s .level).state = .idle ∧
      (s.lev.status = .levelled ∨ s.lev.status = .limited) ∧ ∃ t, s.lev.drift = some t ∧ t + 10000 ≤ s.now) ∧
    (groundLimitDue s = false → exec .groundTimeLimit s = .next s) ∧
    (liftLimitDue s = false → exec .liftTimeLimit s = .next s) ∧
    (stallDue s = false → exec .levelStall s = .next s) ∧ (trimLimitDue s = false → exec .trimTimeLimit s = .next s) ∧
    (stowLimitDue s = false → exec .stowTimeLimit s = .next s) ∧
    (giveUpDue s = false → exec .settleGiveUp s = .next s) ∧ (trimWaitDue s = false → exec .trimWaitEnd s = .next s) ∧
    (driftDue s = false → exec .driftTimerExpiry s = .next s))

/-- SETTLE_GIVE_UP (R70, R75, R78): the gradients are the floor means of the pairs held, the run is marked unsettled, and
STABILISE's SETTLE ends NORMAL with the level status STABILISED and its gradients final. With no pair held the gradients are free
values, for which no number is stated (log 55).

TRIM_WAIT_END (R76, R97): the jacks of the lighter diagonal that can step take a step target 2 mm above their strokes, or
their caps, and LEVEL stays RUNNING in a step.

The drift timer has run 10 s (R83, R84): the level status is DISTURBED, the timer is clear, and LEVELLED or LIMITED no
longer stands; no jack moves.

The millisecond of each expiry is the model's choice (log 1), and the cap of a jack without a ground stroke rests on a free value (log 23). -/
def Obligations.LevelTimersAct : Prop :=
  (∀ s : State, s.power.startingUp = false → giveUpDue s = true →
    let mean := fun (f : RingEntry → Int) => Int.fdiv (s.lev.ring.map f).sum s.lev.ring.length
    ∃ u g, exec .settleGiveUp s = .next (finish u) ∧ u.lev.measured = g ∧
      (s.lev.ring ≠ [] → g = ⟨mean (fun e => e.cor.pitch), mean (fun e => e.cor.roll)⟩) ∧
      (∀ p, s.lev.plan = some p → ∃ q, u.lev.plan = some q ∧ q.unsettled = true ∧ q.op = p.op) ∧
      (s.lev.phase = .settle → ∀ q, u.lev.plan = some q → q.first = some g) ∧
      (s.lev.phase = .settle → (chanOf s .level).op = some .stabilise →
        s.Stopped u .level .normal ∧ u.lev.status = .stabilised ∧ u.lev.phase = .none ∧
          ∀ q, u.lev.plan = some q → q.final = some g ∧ q.outcome = some .stabilised) ∧
      (∀ c, c ≠ .level → chanOf u c = chanOf s c)) ∧
  (∀ (s : State) (d : List Jack), s.power.startingUp = false → trimWaitDue s = true → s.lev.cornerDone = false →
    lighterDiagonal (jackOf s .lf).pressure (jackOf s .rf).pressure (jackOf s .lr).pressure (jackOf s .rr).pressure =
      some d → d.filter (fun j => canStep s j) ≠ [] →
    ∃ u, exec .trimWaitEnd s = .next (finish u) ∧ u.lev.phase = .trim ∧ u.lev.sub = .stepping ∧
      (∀ j, j ∈ d → canStep s j = true → (jackOf u j).stepTarget = some (min ((jackOf s j).stroke + 2) (trimCap s j))) ∧
      (∀ j, ¬ (j ∈ d ∧ canStep s j = true) → (jackOf u j).stepTarget = (jackOf s j).stepTarget) ∧
      u.chans = s.chans ∧ u = { s with lev := u.lev, man := u.man }) ∧
  (∀ s : State, s.power.startingUp = false → driftDue s = true →
    ∃ u, exec .driftTimerExpiry s = .next (finish u) ∧
      u.lev = { s.lev with status := .disturbed, drift := none } ∧
      (s.store.cfg.sourceEnabled .posture = true → Source.posture ∈ u.link.reports) ∧
      u = { s with lev := u.lev, link := u.link, store := u.store } ∧ u.store.cfg = s.store.cfg)

/-- PLAN's tests in their order (R71, R91): a saturated pair or a gradient beyond the limit ends the run EXCESS_SLOPE with
every jack valve as it was; then a faulted jack or an invalid gradient ends it SENSOR; then gradients within tolerance on
both axes enter TRIM with the outcome LEVELLED and no lift.

That the fault detail names every present jack whose flag is set is the model's choice (log 70). -/
def Obligations.PlanTests : Prop :=
  ∀ (s : State) (g : Grad) (sat : Bool), (chanOf s .level).state = .running →
    let u := makePlan g sat s
    let beyond := sat = true ∨ s.store.cfg.excessLimit < g.pitch.natAbs ∨ s.store.cfg.excessLimit < g.roll.natAbs
    let within := (g.pitch.natAbs : Int) ≤ s.store.cfg.tolerance ∧ (g.roll.natAbs : Int) ≤ s.store.cfg.tolerance
    let faulty := ∃ j, s.jackPresent j = true ∧ (jackOf s j).fault = true
    (beyond → s.Stopped u .level (.abnormal ⟨.excessSlope, .none⟩) ∧ u.man.jackValves = s.man.jackValves) ∧
    (¬ beyond → faulty → s.Stopped u .level (.abnormal ⟨.sensor, .jacks (faultedJacks s)⟩)) ∧
    (¬ beyond → ¬ faulty → s.scan.grad.valid = false → s.Stopped u .level (.abnormal ⟨.sensor, .none⟩)) ∧
    (¬ beyond → ¬ faulty → s.scan.grad.valid = true → within →
      u = enterTrim .levelled (modLev (fun l => { l with phase := .plan, sub := .none, measured := g }) s) ∧
      u.lev.passes = s.lev.passes ∧ u.lev.outcome = some .levelled)

/-- The diagonal share test (R97): none at a total of 0 or a lighter share of 35 per cent or more, else the diagonal with the
lesser sum. -/
def Obligations.LoadShareTest : Prop :=
  ∀ lf rf lr rr : Nat,
    let first := lf + rr
    let second := rf + lr
    (first + second = 0 → lighterDiagonal lf rf lr rr = none) ∧
    (0 < first + second →
      (35 ≤ 100 * min first second / (first + second) → lighterDiagonal lf rf lr rr = none) ∧
      (100 * min first second / (first + second) < 35 →
        (first < second → lighterDiagonal lf rf lr rr = some [.lf, .rr]) ∧
        (second < first → lighterDiagonal lf rf lr rr = some [.rf, .lr]) ∧ first ≠ second))

/-- The lift plan (R93 to R96): H is the greatest relative height, k the least floor of 1000 times availability over plane
lift and at most 1000, a scaled lift below 3 mm becomes 0, and every target lies between its jack's stroke and its cap.

Coast learning (R99): the result lies within the cap, an overrun below 0 counts as 0, and a steady overrun leaves a coast
that is at most one below it or two above it where it stands. -/
def Obligations.LiftPlanAndCoastBounds : Prop :=
  (∀ (g : Grad) (cap : Nat) (l : List PlanJack),
    let h := fun (p : PlanJack) => g.pitch * p.x + g.roll * p.y
    let k := planScale g cap l
    let lift := fun (p : PlanJack) => planLift g (topHeight g l) k p
    let limit := fun (p : PlanJack) => max (min p.smax (p.ground + cap)) p.stroke
    (∀ p ∈ l, h p ≤ topHeight g l) ∧ (l ≠ [] → ∃ p ∈ l, h p = topHeight g l) ∧ k ≤ 1000 ∧
    (∀ p ∈ l, 0 < planeLift g (topHeight g l) p →
      k ≤ 1000 * (limit p - p.stroke) / planeLift g (topHeight g l) p) ∧
    (k = 1000 ∨ ∃ p ∈ l, 0 < planeLift g (topHeight g l) p ∧
      k = 1000 * (limit p - p.stroke) / planeLift g (topHeight g l) p) ∧
    (∀ p ∈ l, lift p = 0 ∨ 3 ≤ lift p) ∧ (∀ p ∈ l, lift p ≤ limit p - p.stroke) ∧
    planLifts g cap l = l.map (fun p => ⟨p.jack, lift p, p.stroke + lift p⟩) ∧
    (∀ p ∈ l, p.stroke ≤ p.stroke + lift p ∧ p.stroke + lift p ≤ limit p)) ∧
  (∀ (cap old : Nat) (x : Int), old ≤ cap →
    learnCoast cap old x ≤ cap ∧ (x ≤ 0 → learnCoast cap old x = learnCoast cap old 0) ∧
    (0 ≤ x → x ≤ cap → (learnCoast cap old x = old ↔ x ≤ old + 1 ∧ (old : Int) ≤ x + 2)) ∧
    (0 ≤ x → x ≤ cap → learnCoast cap old x = (3 * old + x.toNat + 2) / 4))

/-- What each phase of the levelling engine does on a change of a jack's stroke, contact state, switch or flag, while LEVEL
runs and holds the pump; with LEVEL not RUNNING, and in the settle steps, the change does nothing.

The entry to GROUND (R67, R68, R69): the valves of the jacks in AIR or STOWED open and the pump goes on, and a grounded jack without
a ground stroke takes its stroke. A jack whose flag is set by then ends the run ABNORMAL, SENSOR with every jack valve closed; that
it ends at the entry, naming the first such jack, is the model's reading (log 82).

GROUND (R68, R69): the valve of a grounded jack closes, a jack that the engine closed and that returns to AIR opens again, a jack
in AIR at its max stroke ends the run NO_GROUND, and with every jack grounded the pump goes off and SETTLE begins. The reground
step of MEASURE (R75) does the same for its jacks; that a jack once closed there is not opened again is the model's choice
(log 56). A SETTLE of AUTO_LEVEL or STABILISE, in either phase, that is entered with the gradient INVALID ends the run ABNORMAL,
SENSOR (R70, R82); that it ends at its entry is the model's reading (log 75).

LIFT (R72): each valve closes at the target less the coast with the close stroke recorded; when all are closed, lifts and targets
go and MEASURE is entered, which settles at once where no present jack is in AIR, STOWED ones or not; R75 says so of jacks that
are all in GROUND, and the rest is the model's reading (log 29). A step of TRIM (R76): each valve closes at its step target; when
all are closed the pump goes off, the steps are counted and the wait of 500 ms begins. STOW (R79) and JOG (R80): a valve closes as
its jack reaches its end, and with all at their ends the pump goes off and the motion ends NORMAL. -/
def Obligations.PhasesReact : Prop :=
  ∀ s : State,
    let u := levelReact s
    let open_ := fun (j : Jack) => s.jackPresent j = true ∧ valveOpen s j = true
    let contact := fun (j : Jack) => (jackOf s j).contact
    let grounded := ∀ j, s.jackPresent j = true → contact j = .ground
    let maxed := fun (j : Jack) => contact j = .air ∧ s.store.cfg.maxStroke j ≤ (jackOf s j).stroke
    let noGround := ∃ k, valveOpen u k = true ∧ maxed k ∧ s.Stopped u .level (.abnormal ⟨.noGround, .jacks [k]⟩)
    let settles := u.lev.sub = .settling ∧ u.lev.settleSince = s.now ∧ u.lev.ring = [] ∧ u.man.pump.on = false ∧
      u.chans = s.chans
    let lossy := s.scan.grad.valid = false ∧
      ((chanOf s .level).op = some .autoLevel ∨ (chanOf s .level).op = some .stabilise)
    let lost := s.Stopped u .level (.abnormal ⟨.sensor, .none⟩) ∧ u.lev.phase = .none ∧ u.man.pump.on = false
    let owned := ∀ j, valveOpen s j = true → s.jackPresent j = true
    ((chanOf s .level).state ≠ .running ∨ s.lev.phase = .settle ∨ s.lev.sub = .settling ∧ s.lev.phase = .measure → u = s) ∧
    ((chanOf s .level).state = .running → s.man.pump.holder = some .level → s.man.dirValve ≠ .retract →
      (s.lev.phase = .ground →
        (∀ j, open_ j → contact j = .ground → valveOpen u j = false) ∧
        (∀ j, s.jackPresent j = true → (jackOf s j).closedHere = true → contact j = .air → valveOpen u j = true) ∧
        ((∃ j, open_ j ∧ maxed j) → noGround) ∧
        (grounded → owned → (¬ lossy → u.lev.phase = .settle ∧ settles) ∧ (lossy → lost)) ∧
        (¬ grounded → (∀ j, s.jackPresent j = true → ¬ maxed j) →
          u.lev.phase = .ground ∧ u.chans = s.chans ∧ u.man.pump = s.man.pump)) ∧
      (s.lev.phase = .measure → s.lev.sub = .reground →
        (∀ j, open_ j → contact j = .ground → valveOpen u j = false) ∧
        (∀ j, valveOpen s j = false → valveOpen u j = false) ∧
        ((∃ j, open_ j ∧ maxed j) → noGround) ∧
        (grounded → (¬ lossy → u.lev.phase = .measure ∧ settles) ∧ (lossy → lost)) ∧
        (¬ grounded → (∀ j, open_ j → ¬ maxed j) →
          u.lev.phase = .measure ∧ u.lev.sub = .reground ∧ u.chans = s.chans ∧ u.man.pump = s.man.pump)) ∧
      (s.lev.phase = .lift →
        let below := fun (j : Jack) =>
          ∃ t, (jackOf s j).target = some t ∧ (jackOf s j).stroke + s.store.cfg.jackCoast j < t
        let lasts := ∃ j, valveOpen s j = true ∧ (s.jackPresent j = false ∨ below j)
        (lasts → u.chans = s.chans ∧ u.lev.phase = .lift ∧ u.man.pump = s.man.pump ∧
          ∀ j, open_ j →
            (below j → valveOpen u j = true ∧ (jackOf u j).close = (jackOf s j).close) ∧
            (¬ below j → valveOpen u j = false ∧ (jackOf u j).close = some (jackOf s j).stroke)) ∧
        (¬ lasts → (∀ j, (jackOf u j).lift = none ∧ (jackOf u j).target = none) ∧
          ((∀ j, s.jackPresent j = true → contact j ≠ .air) → (∀ j, valveOpen u j = false) ∧ (lossy → lost) ∧
            (¬ lossy → u.lev.phase = .measure ∧ settles ∧
              ∀ j, open_ j → (jackOf u j).close = some (jackOf s j).stroke)) ∧
          (∀ j, s.jackPresent j = true → contact j = .air →
            u.lev.phase = .measure ∧ u.chans = s.chans ∧ u.lev.sub = .reground ∧ valveOpen u j = true ∧ u.lev.stepSince = s.now))) ∧
      (s.lev.phase = .trim → s.lev.sub = .stepping →
        let reached := fun (j : Jack) => ∃ g, (jackOf s j).stepTarget = some g ∧ g ≤ (jackOf s j).stroke
        let lasts := ∃ j, valveOpen s j = true ∧ ¬ (s.jackPresent j = true ∧ reached j)
        u.chans = s.chans ∧
        (lasts → u.lev = s.lev ∧ u.man.pump = s.man.pump ∧
          ∀ j, open_ j → (valveOpen u j = false ↔ reached j)) ∧
        (¬ lasts → u.lev.sub = .waiting ∧ u.lev.trimUntil = s.now + 500 ∧ u.man.pump.on = false ∧
          (∀ j, valveOpen u j = false ∧ (jackOf u j).stepTarget = none) ∧
          ∀ p c, s.lev.plan = some p → p.trim = some c →
            ∃ q n, u.lev.plan = some q ∧ q.trim = some n ∧
              ∀ j, n.get j = c.get j + if (jackOf s j).stepTarget = none then 0 else 1))) ∧
    ((chanOf s .level).state = .running → s.man.pump.holder = some .level →
      (s.lev.phase = .stow →
        (∀ j, s.jackPresent j = true → contact j = .stowed → valveOpen u j = false) ∧
        (∀ j, s.jackPresent j = true → contact j ≠ .stowed → valveOpen u j = valveOpen s j) ∧
        ((∀ j, s.jackPresent j = true → contact j = .stowed) →
          s.Stopped u .level .normal ∧ u.man.pump.on = false ∧
            ((chanOf s .level).op = some .stow → u.lev.status = .unlevelled)) ∧
        ((∃ j, s.jackPresent j = true ∧ contact j ≠ .stowed) → u.chans = s.chans ∧ u.man.pump = s.man.pump)) ∧
      (s.lev.phase = .jog →
        let ends := fun (j : Jack) =>
          if jogDir (chanOf s .level).operand = .extend then
            s.store.cfg.maxStroke j ≤ (jackOf s j).stroke ∨ (jackOf s j).fault = true
          else (jackOf s j).stowed = true
        let lasts := ∃ j, valveOpen s j = true ∧ ¬ (s.jackPresent j = true ∧ ends j)
        (∀ j, open_ j → (valveOpen u j = false ↔ ends j)) ∧ (∀ j, valveOpen s j = false → valveOpen u j = false) ∧
        (lasts → u.chans = s.chans ∧ u.man.pump = s.man.pump) ∧
        (¬ lasts → (∃ j, (jackOf s j).jogged = true) → s.Stopped u .level .normal ∧ u.man.pump.on = false))) ∧
    (∀ (o : Op) (v : Nat), o = .autoLevel ∨ o = .stabilise → runs s .level o = true → s.man.pump.holder = some .level →
      s.man.dirValve ≠ .retract →
      let b := levelBegin o v s
      (∀ j l, faultedJacks s = j :: l →
        s.Stopped b .level (.abnormal ⟨.sensor, .jacks [j]⟩) ∧ b.lev.phase = .none ∧ b.man.pump.on = false ∧
          ∀ k, s.jackPresent k = true → valveOpen b k = false) ∧
      (faultedJacks s = [] → ¬ grounded →
        b.lev.phase = .ground ∧ b.lev.phaseSince = s.now ∧ b.chans = s.chans ∧
          (s.mon.latches.pump.isSet = false → b.man.pump.on = true) ∧
          ∀ j, s.jackPresent j = true →
            (contact j ≠ .ground → valveOpen b j = true ∧ (jackOf b j).ground = (jackOf s j).ground) ∧
            (contact j = .ground → valveOpen b j = valveOpen s j ∧
              (jackOf b j).ground = some ((jackOf s j).ground.getD (jackOf s j).stroke))))

/-! ### The pump, the rooms and the awning -/

/-- COOLDOWN_END (R47, R48): it comes when the time has run and, after an overcurrent stop, the pump's latch is clear; the run
ends, the hot flag clears, PUMP_HOT ceases and a scan is due. A latch recorded to LEVEL that is FAULTED holds the cooldown too
(R156), after a stop of any cause: that it does so after one that no trip caused is the model's reading (log 64).

PUMP_DUTY_LIMIT (R49): at 180 s the pump stops with a cooldown of half the run and at least 10 s, the hot flag is set and
PUMP_HOT is active, and the holder ends ABNORMAL, PUMP_TIME. The pump driver's trip timer stops, so no trip follows (R58); that
it stops is the model's reading (log 65).

From which millisecond on an expiry acts is the model's choice (log 1). -/
def Obligations.PumpLimits : Prop :=
  (∀ s : State, s.power.startingUp = false →
    (cooldownDue s = true ↔ s.man.pump.runState = .resting ∧ s.man.pump.cooldown = 0 ∧
      ¬ (s.mon.latches.pump.isSet = true ∧ (s.man.pump.tripped = true ∨
        s.mon.latches.pump.ch = some .level ∧ (chanOf s .level).state = .faulted))) ∧
    (cooldownDue s = false → exec .cooldownEnd s = .next s) ∧
    (cooldownDue s = true →
      ∃ u, exec .cooldownEnd s = .next (finish u) ∧
        u.man.pump = { s.man.pump with runState := .none, runTime := 0, hot := false, tripped := false } ∧
        (u.link.alerts.get .pumpHot).cond = false ∧
        u = { s with
          man := { s.man with pump := u.man.pump }, sup := { s.sup with scanDue := true },
          link := { s.link with alerts := u.link.alerts, reports := u.link.reports } })) ∧
  (∀ (s : State) (c : Ch), s.power.startingUp = false →
    (dutyDue s = false → exec .pumpDutyLimit s = .next s) ∧
    (s.man.pump.on = true → 180000 ≤ s.man.pump.runTime → s.man.pump.holder = some c →
      (chanOf s c).state = .running →
      ∃ u, exec .pumpDutyLimit s = .next (finish u) ∧
        u.man.pump = { s.man.pump with
          on := false, runState := .resting, lastRun := s.man.pump.runTime,
          cooldown := max (s.man.pump.runTime / 2) 10000, tripped := false, hot := true } ∧
        (u.link.alerts.get .pumpHot).cond = true ∧ s.Stopped u c (.abnormal ⟨.pumpTime, .none⟩) ∧
        (∀ x, x ≠ c → chanOf u x = chanOf s x) ∧
        u.mon = { s.mon with tripSince := s.mon.tripSince.set .pump none }))

/-- HYDRAULIC rooms (R54, R55): after a deadhead of 1 s an EXTEND ends OUT and KNOWN, a RETRACT IN and KNOWN, unless the
limit terminal of the direction reads inactive, which is OBSTRUCTION and PART; the travel time limit ends ABNORMAL,
TRAVEL_TIME.

The limit terminals of a present HYDRAULIC room (R56): one going active writes its own end and KNOWN, both active UNKNOWN and
UNCERTAIN, one going inactive under the status of its own end PART; nothing else of the room or of a channel changes. A room of
another kind is not touched.

The admission of a HYDRAULIC room (R52, R53, R56): PART unless the limit of its direction is active, its valve opened and the pump
on; with the line-pressure fault flag set it ends ABNORMAL, SENSOR, with its valve as it was, and the PART that it has written
cancels a waiting retraction of LEVEL whatever a limit then gives (R28). That the motion ends before it drives is the model's
reading (log 66), and so is that the PART is evaluated before the end (log 8).

From which millisecond on an expiry acts is the model's choice (log 1). -/
def Obligations.HydraulicRoomsEnd : Prop :=
  (∀ (s : State) (r : Room) (o : Op), s.power.startingUp = false →
    let lim : InRole := if o = .retract then .inLimit r else .outLimit r
    (deadheadDue s r = false → exec (.hydraulicDeadheadEnd r) s = .next s) ∧
    (travelDue s r = false → exec (.hydraulicTravelTime r) s = .next s) ∧
    (deadheadDue s r = true → (chanOf s (.room r)).op = some o → o = .extend ∨ o = .retract →
      ∃ u, exec (.hydraulicDeadheadEnd r) s = .next (finish u) ∧
        (if roleAssigned s lim = true ∧ roleActive s lim = false then
          s.Stopped u (.room r) (.abnormal ⟨.obstruction, .none⟩) ∧ (roomOf u r).status = .part
        else
          s.Stopped u (.room r) .normal ∧ (roomOf u r).status = (if o = .retract then .pin else .pout) ∧
            (roomOf u r).conf = .known) ∧
        u.man.pump.on = false ∧ (∀ x, x ≠ .room r → chanOf u x = chanOf s x) ∧
        ∀ x, x ≠ r → roomOf u x = roomOf s x) ∧
    (travelDue s r = true →
      ∃ u, exec (.hydraulicTravelTime r) s = .next (finish u) ∧
        s.Stopped u (.room r) (.abnormal ⟨.travelTime, .none⟩) ∧
        (s.man.pump.holder = some (.room r) → u.man.pump.on = false) ∧
        ∀ x, x ≠ .room r → chanOf u x = chanOf s x)) ∧
  (∀ (s : State) (r : Room) (out active : Bool),
    let u := roleChange (if out = true then .outLimit r else .inLimit r) active s
    let both := limitActive s (.outLimit r) = true ∧ limitActive s (.inLimit r) = true
    let own : Pos := if out = true then .pout else .pin
    let writes := fun (v : Pos) (k : Conf) => (roomOf u r).status = v ∧ (roomOf u r).conf = k
    (hydraulic s r = false → u = s) ∧
    (hydraulic s r = true →
      (both → writes .unknown .uncertain) ∧
      (¬ both → active = true → writes own .known) ∧
      (¬ both → active = false →
        writes (if (roomOf s r).status = own then .part else (roomOf s r).status) (roomOf s r).conf) ∧
      (roomOf u r).ends = (roomOf s r).ends ∧ (∀ x, x ≠ r → roomOf u x = roomOf s x) ∧ u.chans = s.chans)) ∧
  (∀ (s : State) (r : Room) (o : Op),
    (chanOf s (.room r)).state = .running → s.man.pump.holder = some (.room r) → o = .extend ∨ o = .retract →
    let u := hydraulicBegin r o s
    let lim : InRole := if o = .retract then .inLimit r else .outLimit r
    (s.man.lineFault = true →
      s.Stopped u (.room r) (.abnormal ⟨.sensor, .none⟩) ∧ u.man.roomValves = s.man.roomValves ∧ u.man.pump.on = false ∧
        (limitActive s lim = false → s.present (.room r) = true → chanMotion s .level = some .jackRetract →
          (chanOf s .level).state = .pending → s.Cancelled u .level .interlock)) ∧
    (s.man.lineFault = false →
      (roomOf u r).status = (if limitActive s lim = true then (roomOf s r).status else .part) ∧
      (roomOf u r).conf = (roomOf s r).conf ∧ u.man.roomValves = s.man.roomValves.set r true ∧
      (s.mon.latches.pump.isSet = false → u.man.pump.on = true) ∧ u.chans = s.chans))

/-- ROOM_HALL_PULSE (R103, R112): the end's count moves by one in the direction of travel, its consecutive counter is 0, and
the other end and the other rooms keep their counts; with the channel neither RUNNING nor STOPPING, or no such end, it is not
counted.

A twin room racked beyond its limit by a counted pulse ends ABNORMAL, RACK, naming the end that leads in the direction of
travel, with both ends at BRAKE (R111).

ROOM_PULSE_LATE_EXPIRY (R112, R113): up to three times in a row the pulse is assumed, moving the count and both assumed
counters; the fourth time the room ends ABNORMAL, HALL, naming the end. Not due, the command changes nothing.

The twin synchronisation (R110): at a counted pulse of a motion with both ends in the leg, an end that leads by more than 6 pulses
is paused at BRAKE with its timers stopped, a paused end whose lead is 2 or less is driven on in the direction of the leg with its
pulse-late timer restarted, and any other end keeps its drive and its flag.

The millisecond of an expiry, and that the rack is examined first at a pulse, is the model's choice (logs 1 and 25). -/
def Obligations.RoomPulsesCount : Prop :=
  (∀ (s : State) (r : Room) (e : Side), s.power.startingUp = false →
    (hasEnd s r e = false ∨ runningOrStopping s (.room r) = false →
      exec (.roomHallPulse r e) s = .next (finish s)) ∧
    (hasEnd s r e = true → runningOrStopping s (.room r) = true → (roomOf s r).inSwitch = false →
      (chanOf s (.room r)).op = some .extend ∨
        ((endOf s r .endA).target = none ∧ (endOf s r .endB).target = none) →
      ∃ u, exec (.roomHallPulse r e) s = .next (finish u) ∧
        (endOf u r e).count =
          (if outwardMotion s r = true then min 32767 ((endOf s r e).count + 1)
          else max (-32767) ((endOf s r e).count - 1)) ∧
        (endOf u r e).consec = 0 ∧ (endOf u r e.other).count = (endOf s r e.other).count ∧
        (endOf u r e.other).consec = (endOf s r e.other).consec ∧ (∀ x, x ≠ r → roomOf u x = roomOf s x) ∧
        (∀ c, c ≠ .room r → chanOf u c = chanOf s c) ∧
        ((chanOf s (.room r)).state = .stopping → u.chans = s.chans ∧ u.store.cfg = s.store.cfg))) ∧
  (∀ (s : State) (r : Room) (e : Side), s.power.startingUp = false →
    hasEnd s r e = true → kindOf s r = .twin → (chanOf s (.room r)).state = .running →
    (roomOf s r).inSwitch = false →
    let a := if e = .endA then movedCount s r (endOf s r .endA).count else (endOf s r .endA).count
    let b := if e = .endB then movedCount s r (endOf s r .endB).count else (endOf s r .endB).count
    s.store.cfg.rackLimit r < (a - b).natAbs →
    ∃ u, exec (.roomHallPulse r e) s = .next (finish u) ∧
      s.Stopped u (.room r) (.abnormal ⟨.rack, .side
        (if outwardMotion s r = true then (if b < a then .endA else .endB)
        else (if a < b then .endA else .endB))⟩) ∧
      (endOf u r .endA).drive = .brake ∧ (endOf u r .endB).drive = .brake ∧
      (endOf u r .endA).count = a ∧ (endOf u r .endB).count = b) ∧
  (∀ (s : State) (r : Room) (e : Side), s.power.startingUp = false →
    (roomLateDue s r e = false → exec (.roomPulseLateExpiry r e) s = .next s) ∧
    (roomLateDue s r e = true → 3 ≤ (endOf s r e).consec →
      ∃ u, exec (.roomPulseLateExpiry r e) s = .next (finish u) ∧
        s.Stopped u (.room r) (.abnormal ⟨.hall, .side e⟩) ∧ (endOf u r .endA).drive = .brake ∧
        (endOf u r .endB).drive = .brake) ∧
    (roomLateDue s r e = true → (endOf s r e).consec < 3 → (roomOf s r).inSwitch = false →
      (chanOf s (.room r)).op = some .extend ∨
        ((endOf s r .endA).target = none ∧ (endOf s r .endB).target = none) →
      ∃ u, exec (.roomPulseLateExpiry r e) s = .next (finish u) ∧
        (endOf u r e).count = movedCount s r (endOf s r e).count ∧
        (endOf u r e).consec = (endOf s r e).consec + 1 ∧
        (endOf u r e).assumed = min 65535 ((endOf s r e).assumed + 1) ∧
        (endOf u r e.other).count = (endOf s r e.other).count ∧ (∀ x, x ≠ r → roomOf u x = roomOf s x))) ∧
  (∀ (s : State) (r : Room) (e : Side), s.power.startingUp = false →
    hasEnd s r e = true → kindOf s r = .twin → (chanOf s (.room r)).state = .running → (roomOf s r).inSwitch = false →
    (roomOf s r).leg ≠ .out → (roomOf s r).homeSearch = false →
    (∀ x, (endOf s r x).target = none ∧ (endOf s r x).driveOff = none ∧
      ((endOf s r x).drive ≠ .brake ∨ (endOf s r x).paused = true)) →
    let count := fun (x : Side) => if x = e then movedCount s r (endOf s r x).count else (endOf s r x).count
    let lead := fun (x : Side) => if outwardMotion s r = true then count x - count x.other else count x.other - count x
    (count .endA - count .endB).natAbs ≤ s.store.cfg.rackLimit r →
    ∃ u, exec (.roomHallPulse r e) s = .next (finish u) ∧ (chanOf u (.room r)).state = .running ∧
      ∀ x, (endOf u r x).count = count x ∧
        ((endOf s r x).paused = false → 6 < lead x →
          (endOf u r x).paused = true ∧ (endOf u r x).drive = .brake ∧ (endOf u r x).lateAt = none ∧
            (endOf u r x).stallSince = none) ∧
        ((endOf s r x).paused = true → lead x ≤ 2 → (s.mon.latches.get (.roomEnd r x)).isSet = false →
          (endOf u r x).paused = false ∧ (endOf u r x).drive = (if outwardMotion s r = true then .dout else .din) ∧
            (endOf u r x).lateAt = some (s.now + s.store.cfg.roomLate r)) ∧
        ((endOf s r x).paused = false ∧ lead x ≤ 6 ∨ (endOf s r x).paused = true ∧ 2 < lead x →
          (endOf u r x).paused = (endOf s r x).paused ∧ (endOf u r x).drive = (endOf s r x).drive))

/-- ROOM_IN_SWITCH_CHANGE of an electric room (R104, R116, R119): going active it ends a RETRACT NORMAL and writes home, writes
home in a room that does not run, stores a LEARN's candidate, and is disregarded in an outward motion; going inactive it
turns IN to PART. A HYDRAULIC or absent room keeps the level alone.

The row is the change of the debounced level, the model's reading (log 41). -/
def Obligations.RoomSwitchHomes : Prop :=
  ∀ (s : State) (r : Room) (active : Bool), s.power.startingUp = false →
    ∃ u, exec (.roomInSwitchChange r active) s = .next (finish u) ∧ (roomOf u r).inSwitch = active ∧
      (∀ x, x ≠ r → roomOf u x = roomOf s x) ∧ (∀ c, c ≠ .room r → chanOf u c = chanOf s c) ∧
      (let home := (endOf u r .endA).count = 0 ∧ (endOf u r .endB).count = 0 ∧
          (endOf u r .endA).assumed = 0 ∧ (endOf u r .endB).assumed = 0 ∧ (roomOf u r).status = .pin ∧
          (roomOf u r).conf = .known
       (electric s r = false ∨ (roomOf s r).inSwitch = active →
          u = { s with rooms := s.rooms.set r { roomOf s r with inSwitch := active } }) ∧
       (electric s r = true → (roomOf s r).inSwitch ≠ active →
          (active = false → chanOf u (.room r) = chanOf s (.room r) ∧ (roomOf u r).conf = (roomOf s r).conf ∧
            (roomOf u r).status = (if (roomOf s r).status = .pin then .part else (roomOf s r).status)) ∧
          (active = true → (chanOf s (.room r)).state ≠ .running →
            home ∧ chanOf u (.room r) = chanOf s (.room r)) ∧
          (active = true → (chanOf s (.room r)).state = .running → outwardMotion s r = true →
            u = { s with rooms := s.rooms.set r { roomOf s r with inSwitch := true } }) ∧
          (active = true → (chanOf s (.room r)).state = .running → (chanOf s (.room r)).op = some .retract →
            s.Stopped u (.room r) .normal ∧ home ∧ u.store.cfg = s.store.cfg) ∧
          (active = true → (chanOf s (.room r)).state = .running → (chanOf s (.room r)).op = some .learn →
            (roomOf s r).leg = .inward → ∀ n, (roomOf s r).candidate = some n →
              s.Stopped u (.room r) .normal ∧ home ∧ u.store.cfg = s.store.cfg.put .learned (8 + r.idx) n)))

/-- ROOM_STALL (R114 to R118): an EXTEND within 20 pulses of its learned stroke, or without one, ends NORMAL and OUT, one
further off OBSTRUCTION; a RETRACT ends OBSTRUCTION; a LEARN's outward leg of 200 pulses or more turns to its reversal with
the position as candidate, and a shorter one ends LEARN_RANGE. Not due, the command changes nothing.

LEARN_REVERSAL_END (R118): the ends whose latches are clear are driven IN with their pulse-late timers started; with the
in-switch still active (R104, R119) the LEARN ends NORMAL at home with its candidate learned. Not due, the command changes nothing.

From which millisecond on an expiry acts is the model's choice (log 1). -/
def Obligations.RoomStallsAndReversal : Prop :=
  (∀ (s : State) (r : Room) (e : Side), s.power.startingUp = false →
    (roomStallDue s r e = false → exec (.roomStall r e) s = .next s) ∧
    (roomStallDue s r e = true → (roomOf s r).inSwitch = false →
      ∃ u, exec (.roomStall r e) s = .next (finish u) ∧ (∀ c, c ≠ .room r → chanOf u c = chanOf s c) ∧
        (endOf u r .endA).drive = .brake ∧ (endOf u r .endB).drive = .brake ∧
        (let op := (chanOf s (.room r)).op
         let obstructed := s.Stopped u (.room r) (.abnormal ⟨.obstruction, .side e⟩)
         (op = some .extend →
            (∀ n, s.store.cfg.learnedStroke r = some n →
              (n - 20 ≤ roomPosition s r → s.Stopped u (.room r) .normal ∧ (roomOf u r).status = .pout) ∧
              (roomPosition s r < n - 20 → obstructed)) ∧
            (s.store.cfg.learnedStroke r = none → s.Stopped u (.room r) .normal ∧ (roomOf u r).status = .pout)) ∧
          (op = some .retract → obstructed) ∧
          (op = some .learn → (roomOf s r).leg ≠ .out → obstructed) ∧
          (op = some .learn → (roomOf s r).leg = .out →
            (roomPosition s r < 200 → s.Stopped u (.room r) (.abnormal ⟨.learnRange, .none⟩)) ∧
            (200 ≤ roomPosition s r →
              chanOf u (.room r) = chanOf s (.room r) ∧ (roomOf u r).leg = .reversal ∧
                (roomOf u r).candidate = some (roomPosition s r) ∧ (roomOf u r).reversalUntil = s.now + 150))))) ∧
  (∀ (s : State) (r : Room), s.power.startingUp = false →
    (reversalDue s r = false → exec (.learnReversalEnd r) s = .next s) ∧
    (∀ n, reversalDue s r = true → (roomOf s r).inSwitch = true → kindOf s r ≠ .hydraulic →
      (chanOf s (.room r)).op = some .learn → (roomOf s r).candidate = some n →
      ∃ u, exec (.learnReversalEnd r) s = .next (finish u) ∧ s.Stopped u (.room r) .normal ∧
        (roomOf u r).status = .pin ∧ (roomOf u r).conf = .known ∧
        (∀ e, (endOf u r e).count = 0 ∧ (endOf u r e).drive = .brake) ∧
        u.store.cfg = s.store.cfg.put .learned (8 + r.idx) n ∧ ∀ c, c ≠ .room r → chanOf u c = chanOf s c) ∧
    (reversalDue s r = true → (roomOf s r).inSwitch = false →
      ∃ u, exec (.learnReversalEnd r) s = .next (finish u) ∧ (roomOf u r).leg = .inward ∧
        (∀ e, e ∈ roomEnds s r → (s.mon.latches.get (.roomEnd r e)).isSet = false →
          (endOf u r e).drive = .din ∧ (endOf u r e).lateAt = some (s.now + s.store.cfg.roomLate r) ∧
            (endOf u r e).count = (endOf s r e).count) ∧
        u = { s with rooms := u.rooms } ∧ ∀ x, x ≠ r → roomOf u x = roomOf s x))

/-- AWNING_HALL_PULSE (R128, R132): the count moves by one in the direction of travel and the consecutive counter is 0; an
EXTEND that reaches its stop point ends NORMAL; not RUNNING or STOPPING, or absent, no pulse is counted.

AWNING_PULSE_LATE_EXPIRY (R129): up to three times in a row the pulse is assumed; the fourth time AWNING ends ABNORMAL,
HALL. Not due, the command changes nothing.

AWNING_IN_SWITCH_CHANGE and AWNING_STALL (R128, R132, R133): the in-switch ends a retract NORMAL at home; a stall of an
EXTEND within 30 pulses of its full extension ends NORMAL and OUT, one further off OBSTRUCTION, the first one without a full
extension learns it from 50 cm on, and a stall of a retract is OBSTRUCTION.

That AWNING_IN_SWITCH_CHANGE is the change of the debounced level (log 41), and that a switch which goes active in an EXTEND is kept
until the motion ends (log 18), is the model's reading; the millisecond of an expiry is its choice (log 1), and an extension beyond
800 cm is shown as 800 (log 16). -/
def Obligations.AwningPulsesAndEnds : Prop :=
  (∀ s : State, s.power.startingUp = false →
    (s.present .awning = false ∨ runningOrStopping s .awning = false →
      exec .awningHallPulse s = .next (finish s)) ∧
    (s.present .awning = true → runningOrStopping s .awning = true → s.awn.inSwitch = false →
      s.awn.switchLate = false →
      ∃ u, exec .awningHallPulse s = .next (finish u) ∧
        u.awn.count = (if (chanOf s .awning).op = some .extend then min 65535 (s.awn.count + 1)
          else max (-65535) (s.awn.count - 1)) ∧
        u.awn.consec = 0 ∧ u.awn.assumed = s.awn.assumed ∧ (∀ c, c ≠ .awning → chanOf u c = chanOf s c) ∧
        (∀ p, (chanOf s .awning).state = .running → (chanOf s .awning).op = some .extend →
          s.awn.stopPoint = some p → p ≤ s.awn.count + 1 → p ≤ 65535 →
          s.Stopped u .awning .normal ∧ u.awn.drive = .brake ∧
            u.awn.status = (if s.awn.target = s.store.cfg.fullExtension then .pout else .part)) ∧
        ((chanOf s .awning).state = .stopping → u = { s with awn := u.awn }))) ∧
  (∀ s : State, s.power.startingUp = false →
    (awningLateDue s = false → exec .awningPulseLateExpiry s = .next s) ∧
    (awningLateDue s = true → s.awn.inSwitch = false → s.awn.switchLate = false →
      ∃ u, exec .awningPulseLateExpiry s = .next (finish u) ∧ (∀ c, c ≠ .awning → chanOf u c = chanOf s c) ∧
        (s.awn.consec < 3 →
          u.awn.count = (if (chanOf s .awning).op = some .extend then min 65535 (s.awn.count + 1)
            else max (-65535) (s.awn.count - 1)) ∧
          u.awn.consec = s.awn.consec + 1 ∧ u.awn.assumed = min 65535 (s.awn.assumed + 1)) ∧
        (3 ≤ s.awn.consec → s.Stopped u .awning (.abnormal ⟨.hall, .none⟩) ∧ u.awn.drive = .brake ∧
          u.awn.count = s.awn.count))) ∧
  (∀ s : State, s.power.startingUp = false →
    let op := (chanOf s .awning).op
    let home := fun (u : State) => u.awn.count = 0 ∧ u.awn.assumed = 0 ∧ u.awn.status = .pin ∧ u.awn.conf = .known ∧
      u.sup.owed = none
    (s.present .awning = true → s.awn.inSwitch = false →
      ∃ u, exec (.awningInSwitchChange true) s = .next (finish u) ∧ u.awn.inSwitch = true ∧
        (∀ c, c ≠ .awning → chanOf u c = chanOf s c) ∧
        ((chanOf s .awning).state = .running → op ≠ some .extend → s.Stopped u .awning .normal ∧ home u) ∧
        ((chanOf s .awning).state ≠ .running → home u ∧ chanOf u .awning = chanOf s .awning) ∧
        ((chanOf s .awning).state = .running → op = some .extend →
          u = { s with awn := { s.awn with inSwitch := true, switchLate := true } })) ∧
    (s.present .awning = true → s.awn.inSwitch = true →
      ∃ u, exec (.awningInSwitchChange false) s = .next (finish u) ∧ u.chans = s.chans ∧ u.awn.conf = s.awn.conf ∧
        u.awn.status = (if s.awn.status = .pin then .part else s.awn.status)) ∧
    (awningStallDue s = false → exec .awningStall s = .next s) ∧
    (awningStallDue s = true → s.awn.inSwitch = false → s.awn.switchLate = false →
      ∃ u, exec .awningStall s = .next (finish u) ∧ u.awn.drive = .brake ∧ u.awn.count = s.awn.count ∧
        (op ≠ some .extend → s.Stopped u .awning (.abnormal ⟨.obstruction, .none⟩)) ∧
        (∀ f, op = some .extend → s.store.cfg.fullExtension = some f →
          ((f * s.store.cfg.pulsesPerCm : Int) - 30 ≤ s.awn.count →
            s.Stopped u .awning .normal ∧ u.awn.status = .pout) ∧
          (s.awn.count < (f * s.store.cfg.pulsesPerCm : Int) - 30 →
            s.Stopped u .awning (.abnormal ⟨.obstruction, .none⟩))) ∧
        (op = some .extend → s.store.cfg.fullExtension = none →
          (50 ≤ extensionOf s → s.Stopped u .awning .normal ∧ u.awn.status = .pout ∧
            u.store.cfg = s.store.cfg.put .learned 20 (extensionOf s)) ∧
          (extensionOf s < 50 → s.Stopped u .awning (.abnormal ⟨.obstruction, .none⟩)))))

/-- The wind watch (R135 to R137, R143): a pulse joins the bin in progress while the sensor is fitted and the part is in RUN
or WATCH; a bin end takes the count into the ring of ten and computes the gust and the average; at threshold the lockout
starts at its full length; LOCKOUT_END ends it and WIND_RETRACT.

An EXTEND is refused WIND_HOLD while the lockout runs, or from three quarters of the average threshold on (R138), which is the
threshold that the latest bin end took (R125).

From which millisecond on an expiry acts is the model's choice (log 1). -/
def Obligations.WindWatched : Prop :=
  ∀ s : State, s.power.startingUp = false →
    (s.store.cfg.windFitted = true → s.power.state ≠ .sleep → s.wind.binEnd ≠ none →
      exec .anemometerPulse s = .next { s with wind := { s.wind with bin := s.wind.bin + 1 } }) ∧
    (s.store.cfg.windFitted = false ∨ s.power.state = .sleep ∨ s.wind.binEnd = none →
      exec .anemometerPulse s = .next s) ∧
    (windBinDue s = false → exec .windBinEnd s = .next s) ∧
    (windBinDue s = true →
      let ring := (min 2000 s.wind.bin :: s.wind.ring).take 10
      let gust := ((ring.take 3).sum * s.store.cfg.windFactor + 150) / 300
      let avg := (ring.sum * s.store.cfg.windFactor + 500) / 1000
      let high := s.store.cfg.gustThreshold ≤ gust ∨ s.store.cfg.avgThreshold ≤ avg
      ∃ u, exec .windBinEnd s = .next (finish u) ∧ u.wind.ring = ring ∧ u.wind.bin = 0 ∧
        u.wind.binEnd = some (s.now + 1000) ∧ u.wind.gust = gust ∧ u.wind.avg = avg ∧
        u.wind.avgLimit = s.store.cfg.avgThreshold ∧
        (high → u.wind.lockout = some (s.now + s.store.cfg.lockoutLength * 60000)) ∧
        (¬ high → u = { s with wind := u.wind } ∧ u.wind.lockout = s.wind.lockout) ∧
        u.store.cfg = s.store.cfg ∧ u.term = s.term) ∧
    (lockoutDue s = false → exec .lockoutEnd s = .next s) ∧
    (lockoutDue s = true → ∃ u, exec .lockoutEnd s = .next (finish u) ∧
      u = { s with wind := { s.wind with lockout := none, retract := false } }) ∧
    (s.store.cfg.windFitted = true → s.awn.conf ≠ .uncertain → ∀ v,
      (jobCheck s .awning .extend v = some .windHold ↔ s.wind.lockout ≠ none ∨ 3 * s.wind.avgLimit ≤ 4 * s.wind.avg))
end

