-- ==== Sys2Proof/Laws/State.lean ====
section
/-! SUPPORT. One lemma per field per update of the state, true by rfl, and reading back what was written. -/

namespace Sys2Proof.Machine

/-! ### modSup -/

@[simp] theorem modSup_now (f : Supervisor → Supervisor) (s : State) : (modSup f s).now = s.now := rfl
@[simp] theorem modSup_pending (f : Supervisor → Supervisor) (s : State) : (modSup f s).pending = s.pending := rfl
@[simp] theorem modSup_link (f : Supervisor → Supervisor) (s : State) : (modSup f s).link = s.link := rfl
@[simp] theorem modSup_chans (f : Supervisor → Supervisor) (s : State) : (modSup f s).chans = s.chans := rfl
@[simp] theorem modSup_sup (f : Supervisor → Supervisor) (s : State) : (modSup f s).sup = f s.sup := rfl
@[simp] theorem modSup_lev (f : Supervisor → Supervisor) (s : State) : (modSup f s).lev = s.lev := rfl
@[simp] theorem modSup_man (f : Supervisor → Supervisor) (s : State) : (modSup f s).man = s.man := rfl
@[simp] theorem modSup_rooms (f : Supervisor → Supervisor) (s : State) : (modSup f s).rooms = s.rooms := rfl
@[simp] theorem modSup_awn (f : Supervisor → Supervisor) (s : State) : (modSup f s).awn = s.awn := rfl
@[simp] theorem modSup_wind (f : Supervisor → Supervisor) (s : State) : (modSup f s).wind = s.wind := rfl
@[simp] theorem modSup_mon (f : Supervisor → Supervisor) (s : State) : (modSup f s).mon = s.mon := rfl
@[simp] theorem modSup_term (f : Supervisor → Supervisor) (s : State) : (modSup f s).term = s.term := rfl
@[simp] theorem modSup_scan (f : Supervisor → Supervisor) (s : State) : (modSup f s).scan = s.scan := rfl
@[simp] theorem modSup_store (f : Supervisor → Supervisor) (s : State) : (modSup f s).store = s.store := rfl
@[simp] theorem modSup_power (f : Supervisor → Supervisor) (s : State) : (modSup f s).power = s.power := rfl

/-! ### modLev -/

@[simp] theorem modLev_now (f : Levelling → Levelling) (s : State) : (modLev f s).now = s.now := rfl
@[simp] theorem modLev_pending (f : Levelling → Levelling) (s : State) : (modLev f s).pending = s.pending := rfl
@[simp] theorem modLev_link (f : Levelling → Levelling) (s : State) : (modLev f s).link = s.link := rfl
@[simp] theorem modLev_chans (f : Levelling → Levelling) (s : State) : (modLev f s).chans = s.chans := rfl
@[simp] theorem modLev_sup (f : Levelling → Levelling) (s : State) : (modLev f s).sup = s.sup := rfl
@[simp] theorem modLev_lev (f : Levelling → Levelling) (s : State) : (modLev f s).lev = f s.lev := rfl
@[simp] theorem modLev_man (f : Levelling → Levelling) (s : State) : (modLev f s).man = s.man := rfl
@[simp] theorem modLev_rooms (f : Levelling → Levelling) (s : State) : (modLev f s).rooms = s.rooms := rfl
@[simp] theorem modLev_awn (f : Levelling → Levelling) (s : State) : (modLev f s).awn = s.awn := rfl
@[simp] theorem modLev_wind (f : Levelling → Levelling) (s : State) : (modLev f s).wind = s.wind := rfl
@[simp] theorem modLev_mon (f : Levelling → Levelling) (s : State) : (modLev f s).mon = s.mon := rfl
@[simp] theorem modLev_term (f : Levelling → Levelling) (s : State) : (modLev f s).term = s.term := rfl
@[simp] theorem modLev_scan (f : Levelling → Levelling) (s : State) : (modLev f s).scan = s.scan := rfl
@[simp] theorem modLev_store (f : Levelling → Levelling) (s : State) : (modLev f s).store = s.store := rfl
@[simp] theorem modLev_power (f : Levelling → Levelling) (s : State) : (modLev f s).power = s.power := rfl

/-! ### modMan -/

@[simp] theorem modMan_now (f : Manifold → Manifold) (s : State) : (modMan f s).now = s.now := rfl
@[simp] theorem modMan_pending (f : Manifold → Manifold) (s : State) : (modMan f s).pending = s.pending := rfl
@[simp] theorem modMan_link (f : Manifold → Manifold) (s : State) : (modMan f s).link = s.link := rfl
@[simp] theorem modMan_chans (f : Manifold → Manifold) (s : State) : (modMan f s).chans = s.chans := rfl
@[simp] theorem modMan_sup (f : Manifold → Manifold) (s : State) : (modMan f s).sup = s.sup := rfl
@[simp] theorem modMan_lev (f : Manifold → Manifold) (s : State) : (modMan f s).lev = s.lev := rfl
@[simp] theorem modMan_man (f : Manifold → Manifold) (s : State) : (modMan f s).man = f s.man := rfl
@[simp] theorem modMan_rooms (f : Manifold → Manifold) (s : State) : (modMan f s).rooms = s.rooms := rfl
@[simp] theorem modMan_awn (f : Manifold → Manifold) (s : State) : (modMan f s).awn = s.awn := rfl
@[simp] theorem modMan_wind (f : Manifold → Manifold) (s : State) : (modMan f s).wind = s.wind := rfl
@[simp] theorem modMan_mon (f : Manifold → Manifold) (s : State) : (modMan f s).mon = s.mon := rfl
@[simp] theorem modMan_term (f : Manifold → Manifold) (s : State) : (modMan f s).term = s.term := rfl
@[simp] theorem modMan_scan (f : Manifold → Manifold) (s : State) : (modMan f s).scan = s.scan := rfl
@[simp] theorem modMan_store (f : Manifold → Manifold) (s : State) : (modMan f s).store = s.store := rfl
@[simp] theorem modMan_power (f : Manifold → Manifold) (s : State) : (modMan f s).power = s.power := rfl

/-! ### modAwn -/

@[simp] theorem modAwn_now (f : AwnRec → AwnRec) (s : State) : (modAwn f s).now = s.now := rfl
@[simp] theorem modAwn_pending (f : AwnRec → AwnRec) (s : State) : (modAwn f s).pending = s.pending := rfl
@[simp] theorem modAwn_link (f : AwnRec → AwnRec) (s : State) : (modAwn f s).link = s.link := rfl
@[simp] theorem modAwn_chans (f : AwnRec → AwnRec) (s : State) : (modAwn f s).chans = s.chans := rfl
@[simp] theorem modAwn_sup (f : AwnRec → AwnRec) (s : State) : (modAwn f s).sup = s.sup := rfl
@[simp] theorem modAwn_lev (f : AwnRec → AwnRec) (s : State) : (modAwn f s).lev = s.lev := rfl
@[simp] theorem modAwn_man (f : AwnRec → AwnRec) (s : State) : (modAwn f s).man = s.man := rfl
@[simp] theorem modAwn_rooms (f : AwnRec → AwnRec) (s : State) : (modAwn f s).rooms = s.rooms := rfl
@[simp] theorem modAwn_awn (f : AwnRec → AwnRec) (s : State) : (modAwn f s).awn = f s.awn := rfl
@[simp] theorem modAwn_wind (f : AwnRec → AwnRec) (s : State) : (modAwn f s).wind = s.wind := rfl
@[simp] theorem modAwn_mon (f : AwnRec → AwnRec) (s : State) : (modAwn f s).mon = s.mon := rfl
@[simp] theorem modAwn_term (f : AwnRec → AwnRec) (s : State) : (modAwn f s).term = s.term := rfl
@[simp] theorem modAwn_scan (f : AwnRec → AwnRec) (s : State) : (modAwn f s).scan = s.scan := rfl
@[simp] theorem modAwn_store (f : AwnRec → AwnRec) (s : State) : (modAwn f s).store = s.store := rfl
@[simp] theorem modAwn_power (f : AwnRec → AwnRec) (s : State) : (modAwn f s).power = s.power := rfl

/-! ### modWind -/

@[simp] theorem modWind_now (f : WindRec → WindRec) (s : State) : (modWind f s).now = s.now := rfl
@[simp] theorem modWind_pending (f : WindRec → WindRec) (s : State) : (modWind f s).pending = s.pending := rfl
@[simp] theorem modWind_link (f : WindRec → WindRec) (s : State) : (modWind f s).link = s.link := rfl
@[simp] theorem modWind_chans (f : WindRec → WindRec) (s : State) : (modWind f s).chans = s.chans := rfl
@[simp] theorem modWind_sup (f : WindRec → WindRec) (s : State) : (modWind f s).sup = s.sup := rfl
@[simp] theorem modWind_lev (f : WindRec → WindRec) (s : State) : (modWind f s).lev = s.lev := rfl
@[simp] theorem modWind_man (f : WindRec → WindRec) (s : State) : (modWind f s).man = s.man := rfl
@[simp] theorem modWind_rooms (f : WindRec → WindRec) (s : State) : (modWind f s).rooms = s.rooms := rfl
@[simp] theorem modWind_awn (f : WindRec → WindRec) (s : State) : (modWind f s).awn = s.awn := rfl
@[simp] theorem modWind_wind (f : WindRec → WindRec) (s : State) : (modWind f s).wind = f s.wind := rfl
@[simp] theorem modWind_mon (f : WindRec → WindRec) (s : State) : (modWind f s).mon = s.mon := rfl
@[simp] theorem modWind_term (f : WindRec → WindRec) (s : State) : (modWind f s).term = s.term := rfl
@[simp] theorem modWind_scan (f : WindRec → WindRec) (s : State) : (modWind f s).scan = s.scan := rfl
@[simp] theorem modWind_store (f : WindRec → WindRec) (s : State) : (modWind f s).store = s.store := rfl
@[simp] theorem modWind_power (f : WindRec → WindRec) (s : State) : (modWind f s).power = s.power := rfl

/-! ### modMon -/

@[simp] theorem modMon_now (f : Monitor → Monitor) (s : State) : (modMon f s).now = s.now := rfl
@[simp] theorem modMon_pending (f : Monitor → Monitor) (s : State) : (modMon f s).pending = s.pending := rfl
@[simp] theorem modMon_link (f : Monitor → Monitor) (s : State) : (modMon f s).link = s.link := rfl
@[simp] theorem modMon_chans (f : Monitor → Monitor) (s : State) : (modMon f s).chans = s.chans := rfl
@[simp] theorem modMon_sup (f : Monitor → Monitor) (s : State) : (modMon f s).sup = s.sup := rfl
@[simp] theorem modMon_lev (f : Monitor → Monitor) (s : State) : (modMon f s).lev = s.lev := rfl
@[simp] theorem modMon_man (f : Monitor → Monitor) (s : State) : (modMon f s).man = s.man := rfl
@[simp] theorem modMon_rooms (f : Monitor → Monitor) (s : State) : (modMon f s).rooms = s.rooms := rfl
@[simp] theorem modMon_awn (f : Monitor → Monitor) (s : State) : (modMon f s).awn = s.awn := rfl
@[simp] theorem modMon_wind (f : Monitor → Monitor) (s : State) : (modMon f s).wind = s.wind := rfl
@[simp] theorem modMon_mon (f : Monitor → Monitor) (s : State) : (modMon f s).mon = f s.mon := rfl
@[simp] theorem modMon_term (f : Monitor → Monitor) (s : State) : (modMon f s).term = s.term := rfl
@[simp] theorem modMon_scan (f : Monitor → Monitor) (s : State) : (modMon f s).scan = s.scan := rfl
@[simp] theorem modMon_store (f : Monitor → Monitor) (s : State) : (modMon f s).store = s.store := rfl
@[simp] theorem modMon_power (f : Monitor → Monitor) (s : State) : (modMon f s).power = s.power := rfl

/-! ### modTerm -/

@[simp] theorem modTerm_now (f : Terminals → Terminals) (s : State) : (modTerm f s).now = s.now := rfl
@[simp] theorem modTerm_pending (f : Terminals → Terminals) (s : State) : (modTerm f s).pending = s.pending := rfl
@[simp] theorem modTerm_link (f : Terminals → Terminals) (s : State) : (modTerm f s).link = s.link := rfl
@[simp] theorem modTerm_chans (f : Terminals → Terminals) (s : State) : (modTerm f s).chans = s.chans := rfl
@[simp] theorem modTerm_sup (f : Terminals → Terminals) (s : State) : (modTerm f s).sup = s.sup := rfl
@[simp] theorem modTerm_lev (f : Terminals → Terminals) (s : State) : (modTerm f s).lev = s.lev := rfl
@[simp] theorem modTerm_man (f : Terminals → Terminals) (s : State) : (modTerm f s).man = s.man := rfl
@[simp] theorem modTerm_rooms (f : Terminals → Terminals) (s : State) : (modTerm f s).rooms = s.rooms := rfl
@[simp] theorem modTerm_awn (f : Terminals → Terminals) (s : State) : (modTerm f s).awn = s.awn := rfl
@[simp] theorem modTerm_wind (f : Terminals → Terminals) (s : State) : (modTerm f s).wind = s.wind := rfl
@[simp] theorem modTerm_mon (f : Terminals → Terminals) (s : State) : (modTerm f s).mon = s.mon := rfl
@[simp] theorem modTerm_term (f : Terminals → Terminals) (s : State) : (modTerm f s).term = f s.term := rfl
@[simp] theorem modTerm_scan (f : Terminals → Terminals) (s : State) : (modTerm f s).scan = s.scan := rfl
@[simp] theorem modTerm_store (f : Terminals → Terminals) (s : State) : (modTerm f s).store = s.store := rfl
@[simp] theorem modTerm_power (f : Terminals → Terminals) (s : State) : (modTerm f s).power = s.power := rfl

/-! ### modScan -/

@[simp] theorem modScan_now (f : Scanner → Scanner) (s : State) : (modScan f s).now = s.now := rfl
@[simp] theorem modScan_pending (f : Scanner → Scanner) (s : State) : (modScan f s).pending = s.pending := rfl
@[simp] theorem modScan_link (f : Scanner → Scanner) (s : State) : (modScan f s).link = s.link := rfl
@[simp] theorem modScan_chans (f : Scanner → Scanner) (s : State) : (modScan f s).chans = s.chans := rfl
@[simp] theorem modScan_sup (f : Scanner → Scanner) (s : State) : (modScan f s).sup = s.sup := rfl
@[simp] theorem modScan_lev (f : Scanner → Scanner) (s : State) : (modScan f s).lev = s.lev := rfl
@[simp] theorem modScan_man (f : Scanner → Scanner) (s : State) : (modScan f s).man = s.man := rfl
@[simp] theorem modScan_rooms (f : Scanner → Scanner) (s : State) : (modScan f s).rooms = s.rooms := rfl
@[simp] theorem modScan_awn (f : Scanner → Scanner) (s : State) : (modScan f s).awn = s.awn := rfl
@[simp] theorem modScan_wind (f : Scanner → Scanner) (s : State) : (modScan f s).wind = s.wind := rfl
@[simp] theorem modScan_mon (f : Scanner → Scanner) (s : State) : (modScan f s).mon = s.mon := rfl
@[simp] theorem modScan_term (f : Scanner → Scanner) (s : State) : (modScan f s).term = s.term := rfl
@[simp] theorem modScan_scan (f : Scanner → Scanner) (s : State) : (modScan f s).scan = f s.scan := rfl
@[simp] theorem modScan_store (f : Scanner → Scanner) (s : State) : (modScan f s).store = s.store := rfl
@[simp] theorem modScan_power (f : Scanner → Scanner) (s : State) : (modScan f s).power = s.power := rfl

/-! ### modStore -/

@[simp] theorem modStore_now (f : Store → Store) (s : State) : (modStore f s).now = s.now := rfl
@[simp] theorem modStore_pending (f : Store → Store) (s : State) : (modStore f s).pending = s.pending := rfl
@[simp] theorem modStore_link (f : Store → Store) (s : State) : (modStore f s).link = s.link := rfl
@[simp] theorem modStore_chans (f : Store → Store) (s : State) : (modStore f s).chans = s.chans := rfl
@[simp] theorem modStore_sup (f : Store → Store) (s : State) : (modStore f s).sup = s.sup := rfl
@[simp] theorem modStore_lev (f : Store → Store) (s : State) : (modStore f s).lev = s.lev := rfl
@[simp] theorem modStore_man (f : Store → Store) (s : State) : (modStore f s).man = s.man := rfl
@[simp] theorem modStore_rooms (f : Store → Store) (s : State) : (modStore f s).rooms = s.rooms := rfl
@[simp] theorem modStore_awn (f : Store → Store) (s : State) : (modStore f s).awn = s.awn := rfl
@[simp] theorem modStore_wind (f : Store → Store) (s : State) : (modStore f s).wind = s.wind := rfl
@[simp] theorem modStore_mon (f : Store → Store) (s : State) : (modStore f s).mon = s.mon := rfl
@[simp] theorem modStore_term (f : Store → Store) (s : State) : (modStore f s).term = s.term := rfl
@[simp] theorem modStore_scan (f : Store → Store) (s : State) : (modStore f s).scan = s.scan := rfl
@[simp] theorem modStore_store (f : Store → Store) (s : State) : (modStore f s).store = f s.store := rfl
@[simp] theorem modStore_power (f : Store → Store) (s : State) : (modStore f s).power = s.power := rfl

/-! ### modLink -/

@[simp] theorem modLink_now (f : Link → Link) (s : State) : (modLink f s).now = s.now := rfl
@[simp] theorem modLink_pending (f : Link → Link) (s : State) : (modLink f s).pending = s.pending := rfl
@[simp] theorem modLink_link (f : Link → Link) (s : State) : (modLink f s).link = f s.link := rfl
@[simp] theorem modLink_chans (f : Link → Link) (s : State) : (modLink f s).chans = s.chans := rfl
@[simp] theorem modLink_sup (f : Link → Link) (s : State) : (modLink f s).sup = s.sup := rfl
@[simp] theorem modLink_lev (f : Link → Link) (s : State) : (modLink f s).lev = s.lev := rfl
@[simp] theorem modLink_man (f : Link → Link) (s : State) : (modLink f s).man = s.man := rfl
@[simp] theorem modLink_rooms (f : Link → Link) (s : State) : (modLink f s).rooms = s.rooms := rfl
@[simp] theorem modLink_awn (f : Link → Link) (s : State) : (modLink f s).awn = s.awn := rfl
@[simp] theorem modLink_wind (f : Link → Link) (s : State) : (modLink f s).wind = s.wind := rfl
@[simp] theorem modLink_mon (f : Link → Link) (s : State) : (modLink f s).mon = s.mon := rfl
@[simp] theorem modLink_term (f : Link → Link) (s : State) : (modLink f s).term = s.term := rfl
@[simp] theorem modLink_scan (f : Link → Link) (s : State) : (modLink f s).scan = s.scan := rfl
@[simp] theorem modLink_store (f : Link → Link) (s : State) : (modLink f s).store = s.store := rfl
@[simp] theorem modLink_power (f : Link → Link) (s : State) : (modLink f s).power = s.power := rfl

/-! ### modPower -/

@[simp] theorem modPower_now (f : Power → Power) (s : State) : (modPower f s).now = s.now := rfl
@[simp] theorem modPower_pending (f : Power → Power) (s : State) : (modPower f s).pending = s.pending := rfl
@[simp] theorem modPower_link (f : Power → Power) (s : State) : (modPower f s).link = s.link := rfl
@[simp] theorem modPower_chans (f : Power → Power) (s : State) : (modPower f s).chans = s.chans := rfl
@[simp] theorem modPower_sup (f : Power → Power) (s : State) : (modPower f s).sup = s.sup := rfl
@[simp] theorem modPower_lev (f : Power → Power) (s : State) : (modPower f s).lev = s.lev := rfl
@[simp] theorem modPower_man (f : Power → Power) (s : State) : (modPower f s).man = s.man := rfl
@[simp] theorem modPower_rooms (f : Power → Power) (s : State) : (modPower f s).rooms = s.rooms := rfl
@[simp] theorem modPower_awn (f : Power → Power) (s : State) : (modPower f s).awn = s.awn := rfl
@[simp] theorem modPower_wind (f : Power → Power) (s : State) : (modPower f s).wind = s.wind := rfl
@[simp] theorem modPower_mon (f : Power → Power) (s : State) : (modPower f s).mon = s.mon := rfl
@[simp] theorem modPower_term (f : Power → Power) (s : State) : (modPower f s).term = s.term := rfl
@[simp] theorem modPower_scan (f : Power → Power) (s : State) : (modPower f s).scan = s.scan := rfl
@[simp] theorem modPower_store (f : Power → Power) (s : State) : (modPower f s).store = s.store := rfl
@[simp] theorem modPower_power (f : Power → Power) (s : State) : (modPower f s).power = f s.power := rfl

/-! ### modPump -/

@[simp] theorem modPump_now (f : Pump → Pump) (s : State) : (modPump f s).now = s.now := rfl
@[simp] theorem modPump_pending (f : Pump → Pump) (s : State) : (modPump f s).pending = s.pending := rfl
@[simp] theorem modPump_link (f : Pump → Pump) (s : State) : (modPump f s).link = s.link := rfl
@[simp] theorem modPump_chans (f : Pump → Pump) (s : State) : (modPump f s).chans = s.chans := rfl
@[simp] theorem modPump_sup (f : Pump → Pump) (s : State) : (modPump f s).sup = s.sup := rfl
@[simp] theorem modPump_lev (f : Pump → Pump) (s : State) : (modPump f s).lev = s.lev := rfl
@[simp] theorem modPump_man (f : Pump → Pump) (s : State) :
    (modPump f s).man = { s.man with pump := f s.man.pump } := rfl
@[simp] theorem modPump_rooms (f : Pump → Pump) (s : State) : (modPump f s).rooms = s.rooms := rfl
@[simp] theorem modPump_awn (f : Pump → Pump) (s : State) : (modPump f s).awn = s.awn := rfl
@[simp] theorem modPump_wind (f : Pump → Pump) (s : State) : (modPump f s).wind = s.wind := rfl
@[simp] theorem modPump_mon (f : Pump → Pump) (s : State) : (modPump f s).mon = s.mon := rfl
@[simp] theorem modPump_term (f : Pump → Pump) (s : State) : (modPump f s).term = s.term := rfl
@[simp] theorem modPump_scan (f : Pump → Pump) (s : State) : (modPump f s).scan = s.scan := rfl
@[simp] theorem modPump_store (f : Pump → Pump) (s : State) : (modPump f s).store = s.store := rfl
@[simp] theorem modPump_power (f : Pump → Pump) (s : State) : (modPump f s).power = s.power := rfl

/-! ### modChan -/

@[simp] theorem modChan_now (c : Ch) (f : ChanRec → ChanRec) (s : State) : (modChan c f s).now = s.now := rfl
@[simp] theorem modChan_pending (c : Ch) (f : ChanRec → ChanRec) (s : State) : (modChan c f s).pending = s.pending := rfl
@[simp] theorem modChan_link (c : Ch) (f : ChanRec → ChanRec) (s : State) : (modChan c f s).link = s.link := rfl
@[simp] theorem modChan_chans (c : Ch) (f : ChanRec → ChanRec) (s : State) :
    (modChan c f s).chans = s.chans.set c (f (s.chans.get c)) := rfl
@[simp] theorem modChan_sup (c : Ch) (f : ChanRec → ChanRec) (s : State) : (modChan c f s).sup = s.sup := rfl
@[simp] theorem modChan_lev (c : Ch) (f : ChanRec → ChanRec) (s : State) : (modChan c f s).lev = s.lev := rfl
@[simp] theorem modChan_man (c : Ch) (f : ChanRec → ChanRec) (s : State) : (modChan c f s).man = s.man := rfl
@[simp] theorem modChan_rooms (c : Ch) (f : ChanRec → ChanRec) (s : State) : (modChan c f s).rooms = s.rooms := rfl
@[simp] theorem modChan_awn (c : Ch) (f : ChanRec → ChanRec) (s : State) : (modChan c f s).awn = s.awn := rfl
@[simp] theorem modChan_wind (c : Ch) (f : ChanRec → ChanRec) (s : State) : (modChan c f s).wind = s.wind := rfl
@[simp] theorem modChan_mon (c : Ch) (f : ChanRec → ChanRec) (s : State) : (modChan c f s).mon = s.mon := rfl
@[simp] theorem modChan_term (c : Ch) (f : ChanRec → ChanRec) (s : State) : (modChan c f s).term = s.term := rfl
@[simp] theorem modChan_scan (c : Ch) (f : ChanRec → ChanRec) (s : State) : (modChan c f s).scan = s.scan := rfl
@[simp] theorem modChan_store (c : Ch) (f : ChanRec → ChanRec) (s : State) : (modChan c f s).store = s.store := rfl
@[simp] theorem modChan_power (c : Ch) (f : ChanRec → ChanRec) (s : State) : (modChan c f s).power = s.power := rfl

/-! ### modRoom -/

@[simp] theorem modRoom_now (r : Room) (f : RoomRec → RoomRec) (s : State) : (modRoom r f s).now = s.now := rfl
@[simp] theorem modRoom_pending (r : Room) (f : RoomRec → RoomRec) (s : State) : (modRoom r f s).pending = s.pending := rfl
@[simp] theorem modRoom_link (r : Room) (f : RoomRec → RoomRec) (s : State) : (modRoom r f s).link = s.link := rfl
@[simp] theorem modRoom_chans (r : Room) (f : RoomRec → RoomRec) (s : State) : (modRoom r f s).chans = s.chans := rfl
@[simp] theorem modRoom_sup (r : Room) (f : RoomRec → RoomRec) (s : State) : (modRoom r f s).sup = s.sup := rfl
@[simp] theorem modRoom_lev (r : Room) (f : RoomRec → RoomRec) (s : State) : (modRoom r f s).lev = s.lev := rfl
@[simp] theorem modRoom_man (r : Room) (f : RoomRec → RoomRec) (s : State) : (modRoom r f s).man = s.man := rfl
@[simp] theorem modRoom_rooms (r : Room) (f : RoomRec → RoomRec) (s : State) :
    (modRoom r f s).rooms = s.rooms.set r (f (s.rooms.get r)) := rfl
@[simp] theorem modRoom_awn (r : Room) (f : RoomRec → RoomRec) (s : State) : (modRoom r f s).awn = s.awn := rfl
@[simp] theorem modRoom_wind (r : Room) (f : RoomRec → RoomRec) (s : State) : (modRoom r f s).wind = s.wind := rfl
@[simp] theorem modRoom_mon (r : Room) (f : RoomRec → RoomRec) (s : State) : (modRoom r f s).mon = s.mon := rfl
@[simp] theorem modRoom_term (r : Room) (f : RoomRec → RoomRec) (s : State) : (modRoom r f s).term = s.term := rfl
@[simp] theorem modRoom_scan (r : Room) (f : RoomRec → RoomRec) (s : State) : (modRoom r f s).scan = s.scan := rfl
@[simp] theorem modRoom_store (r : Room) (f : RoomRec → RoomRec) (s : State) : (modRoom r f s).store = s.store := rfl
@[simp] theorem modRoom_power (r : Room) (f : RoomRec → RoomRec) (s : State) : (modRoom r f s).power = s.power := rfl

/-! ### modJack -/

@[simp] theorem modJack_now (j : Jack) (f : JackRec → JackRec) (s : State) : (modJack j f s).now = s.now := rfl
@[simp] theorem modJack_pending (j : Jack) (f : JackRec → JackRec) (s : State) : (modJack j f s).pending = s.pending := rfl
@[simp] theorem modJack_link (j : Jack) (f : JackRec → JackRec) (s : State) : (modJack j f s).link = s.link := rfl
@[simp] theorem modJack_chans (j : Jack) (f : JackRec → JackRec) (s : State) : (modJack j f s).chans = s.chans := rfl
@[simp] theorem modJack_sup (j : Jack) (f : JackRec → JackRec) (s : State) : (modJack j f s).sup = s.sup := rfl
@[simp] theorem modJack_lev (j : Jack) (f : JackRec → JackRec) (s : State) :
    (modJack j f s).lev = { s.lev with jacks := s.lev.jacks.set j (f (s.lev.jacks.get j)) } := rfl
@[simp] theorem modJack_man (j : Jack) (f : JackRec → JackRec) (s : State) : (modJack j f s).man = s.man := rfl
@[simp] theorem modJack_rooms (j : Jack) (f : JackRec → JackRec) (s : State) : (modJack j f s).rooms = s.rooms := rfl
@[simp] theorem modJack_awn (j : Jack) (f : JackRec → JackRec) (s : State) : (modJack j f s).awn = s.awn := rfl
@[simp] theorem modJack_wind (j : Jack) (f : JackRec → JackRec) (s : State) : (modJack j f s).wind = s.wind := rfl
@[simp] theorem modJack_mon (j : Jack) (f : JackRec → JackRec) (s : State) : (modJack j f s).mon = s.mon := rfl
@[simp] theorem modJack_term (j : Jack) (f : JackRec → JackRec) (s : State) : (modJack j f s).term = s.term := rfl
@[simp] theorem modJack_scan (j : Jack) (f : JackRec → JackRec) (s : State) : (modJack j f s).scan = s.scan := rfl
@[simp] theorem modJack_store (j : Jack) (f : JackRec → JackRec) (s : State) : (modJack j f s).store = s.store := rfl
@[simp] theorem modJack_power (j : Jack) (f : JackRec → JackRec) (s : State) : (modJack j f s).power = s.power := rfl

/-! ### modEnd -/

@[simp] theorem modEnd_now (r : Room) (e : Side) (f : EndRec → EndRec) (s : State) : (modEnd r e f s).now = s.now := rfl
@[simp] theorem modEnd_pending (r : Room) (e : Side) (f : EndRec → EndRec) (s : State) : (modEnd r e f s).pending = s.pending := rfl
@[simp] theorem modEnd_link (r : Room) (e : Side) (f : EndRec → EndRec) (s : State) : (modEnd r e f s).link = s.link := rfl
@[simp] theorem modEnd_chans (r : Room) (e : Side) (f : EndRec → EndRec) (s : State) : (modEnd r e f s).chans = s.chans := rfl
@[simp] theorem modEnd_sup (r : Room) (e : Side) (f : EndRec → EndRec) (s : State) : (modEnd r e f s).sup = s.sup := rfl
@[simp] theorem modEnd_lev (r : Room) (e : Side) (f : EndRec → EndRec) (s : State) : (modEnd r e f s).lev = s.lev := rfl
@[simp] theorem modEnd_man (r : Room) (e : Side) (f : EndRec → EndRec) (s : State) : (modEnd r e f s).man = s.man := rfl
@[simp] theorem modEnd_rooms (r : Room) (e : Side) (f : EndRec → EndRec) (s : State) :
    (modEnd r e f s).rooms = s.rooms.set r { s.rooms.get r with ends := (s.rooms.get r).ends.set e (f ((s.rooms.get r).ends.get e)) } := rfl
@[simp] theorem modEnd_awn (r : Room) (e : Side) (f : EndRec → EndRec) (s : State) : (modEnd r e f s).awn = s.awn := rfl
@[simp] theorem modEnd_wind (r : Room) (e : Side) (f : EndRec → EndRec) (s : State) : (modEnd r e f s).wind = s.wind := rfl
@[simp] theorem modEnd_mon (r : Room) (e : Side) (f : EndRec → EndRec) (s : State) : (modEnd r e f s).mon = s.mon := rfl
@[simp] theorem modEnd_term (r : Room) (e : Side) (f : EndRec → EndRec) (s : State) : (modEnd r e f s).term = s.term := rfl
@[simp] theorem modEnd_scan (r : Room) (e : Side) (f : EndRec → EndRec) (s : State) : (modEnd r e f s).scan = s.scan := rfl
@[simp] theorem modEnd_store (r : Room) (e : Side) (f : EndRec → EndRec) (s : State) : (modEnd r e f s).store = s.store := rfl
@[simp] theorem modEnd_power (r : Room) (e : Side) (f : EndRec → EndRec) (s : State) : (modEnd r e f s).power = s.power := rfl

/-! ### putCfg -/

@[simp] theorem putCfg_now (g : Group) (i : Nat) (v : Int) (s : State) : (putCfg g i v s).now = s.now := rfl
@[simp] theorem putCfg_pending (g : Group) (i : Nat) (v : Int) (s : State) : (putCfg g i v s).pending = s.pending := rfl
@[simp] theorem putCfg_link (g : Group) (i : Nat) (v : Int) (s : State) : (putCfg g i v s).link = s.link := rfl
@[simp] theorem putCfg_chans (g : Group) (i : Nat) (v : Int) (s : State) : (putCfg g i v s).chans = s.chans := rfl
@[simp] theorem putCfg_sup (g : Group) (i : Nat) (v : Int) (s : State) : (putCfg g i v s).sup = s.sup := rfl
@[simp] theorem putCfg_lev (g : Group) (i : Nat) (v : Int) (s : State) : (putCfg g i v s).lev = s.lev := rfl
@[simp] theorem putCfg_man (g : Group) (i : Nat) (v : Int) (s : State) : (putCfg g i v s).man = s.man := rfl
@[simp] theorem putCfg_rooms (g : Group) (i : Nat) (v : Int) (s : State) : (putCfg g i v s).rooms = s.rooms := rfl
@[simp] theorem putCfg_awn (g : Group) (i : Nat) (v : Int) (s : State) : (putCfg g i v s).awn = s.awn := rfl
@[simp] theorem putCfg_wind (g : Group) (i : Nat) (v : Int) (s : State) : (putCfg g i v s).wind = s.wind := rfl
@[simp] theorem putCfg_mon (g : Group) (i : Nat) (v : Int) (s : State) : (putCfg g i v s).mon = s.mon := rfl
@[simp] theorem putCfg_term (g : Group) (i : Nat) (v : Int) (s : State) : (putCfg g i v s).term = s.term := rfl
@[simp] theorem putCfg_scan (g : Group) (i : Nat) (v : Int) (s : State) : (putCfg g i v s).scan = s.scan := rfl
@[simp] theorem putCfg_store (g : Group) (i : Nat) (v : Int) (s : State) :
    (putCfg g i v s).store = { s.store with cfg := s.store.cfg.put g i v } := rfl
@[simp] theorem putCfg_power (g : Group) (i : Nat) (v : Int) (s : State) : (putCfg g i v s).power = s.power := rfl

/-! ### Reading back what was written -/

@[simp] theorem PerRoom_get_set_self {α : Type} (p : PerRoom α) (i : Room) (v : α) : (p.set i v).get i = v := by
  cases i <;> rfl

theorem PerRoom_get_set_ne {α : Type} (p : PerRoom α) (i k : Room) (v : α) (h : k ≠ i) : (p.set i v).get k = p.get k := by
  cases i <;> cases k <;> first | rfl | exact absurd rfl h

@[simp] theorem PerJack_get_set_self {α : Type} (p : PerJack α) (i : Jack) (v : α) : (p.set i v).get i = v := by
  cases i <;> rfl

theorem PerJack_get_set_ne {α : Type} (p : PerJack α) (i k : Jack) (v : α) (h : k ≠ i) : (p.set i v).get k = p.get k := by
  cases i <;> cases k <;> first | rfl | exact absurd rfl h

@[simp] theorem PerSide_get_set_self {α : Type} (p : PerSide α) (i : Side) (v : α) : (p.set i v).get i = v := by
  cases i <;> rfl

theorem PerSide_get_set_ne {α : Type} (p : PerSide α) (i k : Side) (v : α) (h : k ≠ i) : (p.set i v).get k = p.get k := by
  cases i <;> cases k <;> first | rfl | exact absurd rfl h

@[simp] theorem PerCh_get_set_self {α : Type} (p : PerCh α) (c : Ch) (v : α) : (p.set c v).get c = v := by
  cases c with
  | level => rfl
  | awning => rfl
  | room r => exact PerRoom_get_set_self p.rooms r v

theorem PerCh_get_set_ne {α : Type} (p : PerCh α) (c k : Ch) (v : α) (h : k ≠ c) : (p.set c v).get k = p.get k := by
  cases c with
  | level => cases k <;> first | rfl | exact absurd rfl h
  | awning => cases k <;> first | rfl | exact absurd rfl h
  | room r =>
    cases k with
    | level => rfl
    | awning => rfl
    | room q => exact PerRoom_get_set_ne p.rooms r q v (fun e => h (by rw [e]))

@[simp] theorem PerDriver_get_set_self {α : Type} (p : PerDriver α) (d : Driver) (v : α) : (p.set d v).get d = v := by
  cases d with
  | roomEnd r e => cases r <;> cases e <;> rfl
  | _ => rfl

theorem PerDriver_get_set_ne {α : Type} (p : PerDriver α) (d k : Driver) (v : α) (h : k ≠ d) :
    (p.set d v).get k = p.get k := by
  cases d with
  | roomEnd r e =>
    cases k with
    | roomEnd q f => cases r <;> cases e <;> cases q <;> cases f <;> first | rfl | exact absurd rfl h
    | _ => rfl
  | _ => cases k <;> first | rfl | exact absurd rfl h

@[simp] theorem PerAlert_get_set_self {α : Type} (p : PerAlert α) (a : Alert) (v : α) : (p.set a v).get a = v := by
  cases a <;> rfl

theorem PerAlert_get_set_ne {α : Type} (p : PerAlert α) (a b : Alert) (v : α) (h : b ≠ a) : (p.set a v).get b = p.get b := by
  cases a <;> cases b <;> first | rfl | exact absurd rfl h

@[simp] theorem chanOf_modChan_self (c : Ch) (f : ChanRec → ChanRec) (s : State) :
    chanOf (modChan c f s) c = f (chanOf s c) := PerCh_get_set_self _ _ _

theorem chanOf_modChan_ne (c k : Ch) (f : ChanRec → ChanRec) (s : State) (h : k ≠ c) :
    chanOf (modChan c f s) k = chanOf s k := PerCh_get_set_ne _ _ _ _ h

@[simp] theorem roomOf_modRoom_self (r : Room) (f : RoomRec → RoomRec) (s : State) :
    roomOf (modRoom r f s) r = f (roomOf s r) := PerRoom_get_set_self _ _ _

theorem roomOf_modRoom_ne (r q : Room) (f : RoomRec → RoomRec) (s : State) (h : q ≠ r) :
    roomOf (modRoom r f s) q = roomOf s q := PerRoom_get_set_ne _ _ _ _ h

@[simp] theorem jackOf_modJack_self (j : Jack) (f : JackRec → JackRec) (s : State) :
    jackOf (modJack j f s) j = f (jackOf s j) := PerJack_get_set_self _ _ _

theorem jackOf_modJack_ne (j k : Jack) (f : JackRec → JackRec) (s : State) (h : k ≠ j) :
    jackOf (modJack j f s) k = jackOf s k := PerJack_get_set_ne _ _ _ _ h

@[simp] theorem endOf_modEnd_self (r : Room) (e : Side) (f : EndRec → EndRec) (s : State) :
    endOf (modEnd r e f s) r e = f (endOf s r e) := by
  simp [endOf]

end Sys2Proof.Machine
end

