-- ==== Sys2Proof/Laws/Ops.lean ====
section
/-! SUPPORT. Everything that each shared operation can change, said once: the state after it is the state before with the named components taken from the result. -/

namespace Sys2Proof.Machine

/-! ### Report queue and memory requests -/

theorem queueSource_frame (x : Source) (s : State) :
    queueSource x s = { s with link := { s.link with reports := (queueSource x s).link.reports } } := rfl

theorem signal_frame (x : Source) (s : State) :
    signal x s = { s with link := { s.link with reports := (signal x s).link.reports } } := by
  unfold signal; split <;> rfl

theorem dropSource_frame (x : Source) (s : State) :
    dropSource x s = { s with link := { s.link with reports := (dropSource x s).link.reports } } := rfl

theorem requestSnapshot_frame (s : State) :
    requestSnapshot s =
      { s with store := { s.store with markerClean := true, waiting := (requestSnapshot s).store.waiting } } := rfl

theorem requestMarkerClear_frame (s : State) :
    requestMarkerClear s =
      { s with store := { s.store with markerClean := false, waiting := (requestMarkerClear s).store.waiting } } := by
  unfold requestMarkerClear
  split
  · rfl
  · rename_i h
    have h' : s.store.markerClean = false := by simpa using h
    cases s with
    | mk now pending link chans sup lev man rooms awn wind mon term scan store power =>
      cases store
      simp_all

theorem snapshotOnRest_frame (s : State) : snapshotOnRest s = { s with store := (snapshotOnRest s).store } := by
  unfold snapshotOnRest; split <;> rfl

theorem startJob_frame (s : State) : startJob s = { s with store := (startJob s).store } := by
  unfold startJob; split <;> rfl

/-! ### The manifold -/

theorem pumpStop_frame (t : Bool) (s : State) :
    pumpStop t s = { s with man := { s.man with
      deadhead := (pumpStop t s).man.deadhead, pump := (pumpStop t s).man.pump } } := by
  unfold pumpStop; split <;> rfl

/-- A pump stop leaves the pump off, and its holder and direction as they were (R45, R47). -/
theorem pumpStop_pump (t : Bool) (s : State) :
    (pumpStop t s).man.pump.on = false ∧ (pumpStop t s).man.pump.holder = s.man.pump.holder ∧
      (pumpStop t s).man.pump.dir = s.man.pump.dir := by
  unfold pumpStop
  split
  · exact ⟨rfl, rfl, rfl⟩
  · rename_i h
    exact ⟨by simpa using h, rfl, rfl⟩

theorem pumpOnCmd_frame (c : Ch) (s : State) :
    pumpOnCmd c s = { s with man := { s.man with pump := (pumpOnCmd c s).man.pump } } := by
  unfold pumpOnCmd; split <;> rfl

theorem pumpOffCmd_frame (c : Ch) (s : State) :
    pumpOffCmd c s = { s with man := { s.man with
      deadhead := (pumpOffCmd c s).man.deadhead, pump := (pumpOffCmd c s).man.pump } } := by
  unfold pumpOffCmd
  split
  · exact pumpStop_frame false s
  · rfl

theorem openJack_frame (j : Jack) (s : State) :
    openJack j s = { s with man := { s.man with jackValves := (openJack j s).man.jackValves } } := by
  unfold openJack; split <;> rfl

theorem closeJack_frame (j : Jack) (s : State) :
    closeJack j s = { s with man := { s.man with jackValves := (closeJack j s).man.jackValves } } := by
  unfold closeJack; split <;> rfl

theorem closeOnRetract_frame (s : State) :
    closeOnRetract s = { s with man := { s.man with jackValves := (closeOnRetract s).man.jackValves } } := by
  unfold closeOnRetract; split <;> rfl

/-! ### Writers of posture values -/

theorem setLevelStatus_frame (v : LevelStatus) (s : State) :
    setLevelStatus v s = { s with
      lev := (setLevelStatus v s).lev, link := (setLevelStatus v s).link, store := (setLevelStatus v s).store } := by
  unfold setLevelStatus
  split
  · rfl
  · rw [snapshotOnRest_frame, signal_frame]
    rfl

/-- The level status after its write (R63). -/
theorem setLevelStatus_status (v : LevelStatus) (s : State) : (setLevelStatus v s).lev.status = v := by
  unfold setLevelStatus
  split
  · assumption
  · rw [snapshotOnRest_frame, signal_frame]
    rfl

theorem setRoomStat_frame (r : Room) (v : Pos) (c : Conf) (s : State) :
    setRoomStat r v c s = { s with
      rooms := (setRoomStat r v c s).rooms, link := (setRoomStat r v c s).link,
      store := (setRoomStat r v c s).store, man := (setRoomStat r v c s).man } := by
  unfold setRoomStat
  simp only []
  split
  · rfl
  · split
    · rw [closeOnRetract_frame, snapshotOnRest_frame, signal_frame]
      rfl
    · rw [snapshotOnRest_frame, signal_frame]
      rfl

theorem setAwnStat_frame (v : Pos) (c : Conf) (s : State) :
    setAwnStat v c s = { s with
      awn := (setAwnStat v c s).awn, link := (setAwnStat v c s).link,
      store := (setAwnStat v c s).store, sup := (setAwnStat v c s).sup } := by
  unfold setAwnStat
  simp only []
  split
  · split <;> rfl
  · rw [snapshotOnRest_frame, signal_frame]
    split <;> rfl

theorem roomHome_frame (r : Room) (s : State) :
    roomHome r s = { s with
      rooms := (roomHome r s).rooms, link := (roomHome r s).link,
      store := (roomHome r s).store, man := (roomHome r s).man } := by
  unfold roomHome
  simp only []
  rw [setRoomStat_frame]
  rfl

theorem awnHome_frame (s : State) :
    awnHome s = { s with
      awn := (awnHome s).awn, link := (awnHome s).link, store := (awnHome s).store, sup := (awnHome s).sup } := by
  unfold awnHome
  rw [setAwnStat_frame]
  rfl

/-! ### Alerts, latches and outputs -/

theorem setAlertCond_frame (a : Alert) (v : Bool) (s : State) :
    setAlertCond a v s = { s with link := { s.link with
      alerts := (setAlertCond a v s).link.alerts, reports := (setAlertCond a v s).link.reports } } := by
  unfold setAlertCond
  simp only []
  split
  · rfl
  · split
    · rw [signal_frame]
      rfl
    · rfl

theorem refreshAlerts_frame (s : State) :
    refreshAlerts s = { s with link := { s.link with
      alerts := (refreshAlerts s).link.alerts, reports := (refreshAlerts s).link.reports } } := by
  unfold refreshAlerts
  have h : ∀ (l : List Alert) (t : State),
      l.foldl (fun t a => setAlertCond a (alertCond t a) t) t =
        { t with link := { t.link with
          alerts := (l.foldl (fun t a => setAlertCond a (alertCond t a) t) t).link.alerts
          reports := (l.foldl (fun t a => setAlertCond a (alertCond t a) t) t).link.reports } } := by
    intro l
    induction l with
    | nil => intro t; rfl
    | cons a l ih =>
      intro t
      simp only [List.foldl_cons]
      rw [ih, setAlertCond_frame]
  exact h allAlerts s

theorem refreshOutputs_frame (s : State) :
    refreshOutputs s = { s with term := { s.term with outputs := (refreshOutputs s).term.outputs } } := rfl

theorem examineLatch_frame (d : Driver) (s : State) :
    examineLatch d s = { s with mon := (examineLatch d s).mon, sup := (examineLatch d s).sup } := by
  unfold examineLatch; split <;> rfl

theorem examineLatchesOf_frame (c : Ch) (s : State) :
    examineLatchesOf c s = { s with mon := (examineLatchesOf c s).mon, sup := (examineLatchesOf c s).sup } := by
  unfold examineLatchesOf
  have h : ∀ (l : List Driver) (t : State),
      l.foldl (fun t d => examineLatch d t) t =
        { t with mon := (l.foldl (fun t d => examineLatch d t) t).mon
                 sup := (l.foldl (fun t d => examineLatch d t) t).sup } := by
    intro l
    induction l with
    | nil => intro t; rfl
    | cons d l ih =>
      intro t
      simp only [List.foldl_cons]
      rw [ih, examineLatch_frame]
  exact h _ s

/-! ### What the monitor, the supervisor and the levelling engine derive -/

/-- A driver's fault-sense line is read (R156): only the supply monitor and the scan request follow it. -/
theorem readSense_frame (s : State) (d : Driver) :
    readSense s d = { s with mon := (readSense s d).mon, sup := (readSense s d).sup } := by
  unfold readSense
  rw [examineLatch_frame]
  rfl

/-- The pump's latch waits for CLEAR LEVEL exactly where it is set and recorded to LEVEL that is FAULTED (R156). -/
theorem levelPumpLatch_iff (s : State) :
    levelPumpLatch s = true ↔ s.mon.latches.pump.isSet = true ∧ s.mon.latches.pump.ch = some .level ∧
      (chanOf s .level).state = .faulted := by
  simp [levelPumpLatch, and_assoc]

/-- An alert whose condition was inactive has its latch set, and ALERTS queued where both are enabled, once its owner
makes the condition active (R181). -/
theorem setAlertCond_rise (a : Alert) (s : State) (h : (s.link.alerts.get a).cond = false) :
    (setAlertCond a true s).link.alerts.get a = { cond := true, latch := true } ∧
      (s.store.cfg.alertEnabled a = true → s.store.cfg.sourceEnabled .alerts = true →
        Source.alerts ∈ (setAlertCond a true s).link.reports) := by
  constructor
  · unfold setAlertCond
    simp only [h]
    split
    · contradiction
    · split
      · rw [signal_frame]
        simp [modLink]
      · simp [modLink]
  · intro e q
    simp only [setAlertCond, h]
    simp [e, signal, q, queueSource, modLink]
    split <;> simp_all

/-- The contact state derived for a jack (R61). -/
theorem derivedContact_of_stowed (q : JackRec) (h : q.stowed = true) : derivedContact q = .stowed := by
  simp [derivedContact, h]

theorem derivedContact_of_pressure (q : JackRec) (h : q.stowed = false) (f : q.fault = false) :
    derivedContact q = if q.threshold ≤ q.pressure then .ground else .air := by
  simp [derivedContact, h, f]

theorem derivedContact_of_fault (q : JackRec) (h : q.stowed = false) (f : q.fault = true) :
    derivedContact q = if q.held = .stowed then .air else q.held := by
  simp [derivedContact, h, f]

/-- A settle window that holds pairs gives their floor means (R70). -/
theorem settledGrad_of_pairs (s : State) (h : s.lev.ring ≠ []) :
    settledGrad s = meanGrad (s.lev.ring.map RingEntry.cor) := by
  simp [settledGrad, h]

/-! ### The transmitter -/

theorem setAttention_frame (s : State) :
    setAttention s = { s with link := { s.link with attention := (setAttention s).link.attention } } := rfl

theorem beginReport_frame (x : Source) (s : State) :
    beginReport x s = { s with
      link := { s.link with
        tx := (beginReport x s).link.tx, part2 := (beginReport x s).link.part2,
        postureCause := (beginReport x s).link.postureCause,
        lastTelemetry := (beginReport x s).link.lastTelemetry },
      chans := (beginReport x s).chans } := by
  unfold beginReport
  cases x <;> rfl

/-- Choosing a frame touches the transmitter's fields, the report queue and a reported channel's count (R176, R177). -/
theorem chooseFrame_frame (s : State) :
    chooseFrame s = { s with
      link := { s.link with
        tx := (chooseFrame s).link.tx, part2 := (chooseFrame s).link.part2,
        reports := (chooseFrame s).link.reports, postureCause := (chooseFrame s).link.postureCause,
        lastTelemetry := (chooseFrame s).link.lastTelemetry },
      chans := (chooseFrame s).chans } := by
  unfold chooseFrame
  split
  · rfl
  · split <;> rfl
  · split
    · rfl
    · split
      · rfl
      · rw [beginReport_frame]
        rfl
      · split
        · rw [beginReport_frame]
        · rfl

/-- With a reply in the buffer the transmitter changes the line alone (R176). -/
theorem chooseFrame_reply (s : State) (h : s.link.replies ≠ []) :
    chooseFrame s = { s with link := { s.link with tx := (chooseFrame s).link.tx } } := by
  unfold chooseFrame
  split
  · rfl
  · split <;> rfl
  · rename_i h'
    exact absurd h' h

theorem transmit_reply (s : State) (h : s.link.replies ≠ []) :
    transmit s = { s with link := { s.link with
      tx := (transmit s).link.tx, attention := (transmit s).link.attention } } := by
  unfold transmit
  rw [setAttention_frame, chooseFrame_reply s h]

/-- What ends start-up leaves the transmitter idle: nothing but the attention line follows its changes (R178). -/
theorem finishStartUp_frame (s : State) :
    finishStartUp s = { conclude s with link := { (conclude s).link with attention := (finishStartUp s).link.attention } } := by
  unfold finishStartUp
  exact setAttention_frame (conclude s)

/-- A waiting report begins only at an idle transmitter (R176, R178). -/
theorem beginWaiting_of_busy (s : State) (h : s.link.tx ≠ none ∨ s.link.reports = []) : beginWaiting s = s := by
  unfold beginWaiting
  rcases h with h | h <;> simp [h, Option.isNone_iff_eq_none]

theorem beginWaiting_of_idle (s : State) (h : s.link.tx = none) (r : s.link.reports ≠ []) :
    beginWaiting s = transmit s := by
  simp [beginWaiting, h, r]

end Sys2Proof.Machine
end

