-- ==== Sys2Proof/Laws/Supervisor.lean ====
section
/-! SUPPORT. The endings and the start of a motion: what a termination, a cancellation and an acceptance write in the channel's record, and when they change nothing. -/

namespace Sys2Proof.Machine

/-- A termination for a channel that is not RUNNING is disregarded (R16). -/
theorem terminateWith_of_not_running (c : Ch) (t : Term) (w : State → State) (s : State)
    (h : isRunning s c = false) : terminateWith c t w s = s := by
  simp [terminateWith, h]

theorem terminate_of_not_running (c : Ch) (t : Term) (s : State) (h : isRunning s c = false) : terminate c t s = s :=
  terminateWith_of_not_running c t _ s h

/-- A cancellation of a channel that is not PENDING changes nothing (R17). -/
theorem cancel_of_not_pending (c : Ch) (d : CancelDetail) (s : State) (h : (chanOf s c).state ≠ .pending) :
    cancel c d s = s := by
  simp [cancel, h]

theorem levelOff_frame (s : State) : levelOff s = { s with lev := (levelOff s).lev } := rfl

theorem brakeRoom_frame (r : Room) (s : State) : brakeRoom r s = { s with rooms := (brakeRoom r s).rooms } := rfl

theorem brakeAwning_frame (s : State) : brakeAwning s = { s with awn := (brakeAwning s).awn } := rfl

/-- Taking outputs off leaves every channel record as it was (R16). -/
theorem jobOff_chans (c : Ch) (t : Term) (s : State) : (jobOff c t s).chans = s.chans := by
  cases c with
  | level => simp only [jobOff]; split <;> rfl
  | room r => rfl
  | awning => rfl

theorem electricEnd_chans (r : Room) (t : Term) (s : State) : (electricEnd r t s).chans = s.chans := by
  unfold electricEnd
  simp only []
  split
  · split
    · rw [setRoomStat_frame]
    · rw [roomHome_frame]
  · split <;> rw [setRoomStat_frame]

theorem awningEnd_chans (t : Term) (s : State) : (awningEnd t s).chans = s.chans := by
  unfold awningEnd
  split
  · rw [awnHome_frame]
  · split <;> rw [setAwnStat_frame]

/-- What a job block writes at a termination leaves every channel record as it was. -/
theorem endWrite_chans (c : Ch) (t : Term) (s : State) : (endWrite c t s).chans = s.chans := by
  cases c with
  | level => simp only [endWrite]; rw [setLevelStatus_frame]
  | room r =>
    simp only [endWrite]
    split
    · rw [setRoomStat_frame]
    · exact electricEnd_chans r t s
  | awning => exact awningEnd_chans t s

theorem entersIdle_chans (c : Ch) (s : State) : (entersIdle c s).chans = s.chans := by
  unfold entersIdle
  simp only []
  split
  · rw [modSup_chans, examineLatchesOf_frame]
  · rw [examineLatchesOf_frame]

/-- The records after a cancellation of a PENDING channel (R17). -/
theorem cancel_chans (c : Ch) (d : CancelDetail) (s : State) (h : (chanOf s c).state = .pending) :
    (cancel c d s).chans = s.chans.set c (clearedRec .idle { s.chans.get c with
      last := some ⟨.cancelled d, (s.chans.get c).owner⟩
      completions := satAdd 255 (s.chans.get c).completions 1 }) := by
  unfold cancel
  simp only [h, if_true]
  rw [entersIdle_chans, signal_frame]
  rfl

/-- What a termination of a RUNNING channel leaves in the records, where what its job block writes leaves them (R16). -/
theorem endRunning_chans (c : Ch) (t : Term) (w : State → State) (s : State) (h : ∀ u, (w u).chans = u.chans) :
    (endRunning c t w s).chans = s.chans.set c (stoppedRec s c t (s.chans.get c)) := by
  unfold endRunning
  simp only []
  rw [signal_frame]
  simp only []
  split
  · rw [pumpStop_frame]
    simp only []
    rw [h, jobOff_chans]
    rfl
  · rw [h, jobOff_chans]
    rfl

/-- With every present room IN, or with LEVEL in another motion, ALL_ROOMS_IN changes nothing (R28). -/
theorem roomsInLost_of_in (s : State) (h : allRoomsIn s = true ∨ chanMotion s .level ≠ some .jackRetract) :
    roomsInLost s = s := by
  rcases h with h | h <;> simp [roomsInLost, h]

/-- The loss of ALL_ROOMS_IN touches no record but LEVEL's (R28). -/
theorem roomsInLost_chans (s : State) (d : Ch) (h : d ≠ .level) : chanOf (roomsInLost s) d = chanOf s d := by
  have hc : chanOf (cancel .level .interlock s) d = chanOf s d := by
    by_cases p : (chanOf s .level).state = .pending
    · unfold chanOf
      rw [cancel_chans .level .interlock s p, PerCh_get_set_ne _ _ _ _ h]
    · rw [cancel_of_not_pending _ _ _ p]
  unfold roomsInLost
  split
  · simp only []
    split
    · unfold chanOf
      rw [endRunning_chans _ _ _ _ (endWrite_chans _ _), PerCh_get_set_ne _ _ _ _ h]
      exact hc
    · exact hc
  · rfl

/-- A disregarded in-switch that is taken as a motion ends touches no record but LEVEL's, and none where the motion ends
otherwise than NORMAL (R28, R104, R128). -/
theorem lateSwitch_chans (c d : Ch) (t : Term) (s : State) (h : d ≠ .level ∨ t ≠ .normal) :
    chanOf (lateSwitch c t s) d = chanOf s d := by
  cases c with
  | level => rfl
  | room r =>
    simp only [lateSwitch]
    split
    · unfold chanOf
      rw [roomHome_frame]
      simp only []
      split
      · rename_i n
        exact roomsInLost_chans s d (h.resolve_right (fun x => x n))
      · rfl
    · rfl
  | awning =>
    simp only [lateSwitch]
    split
    · rw [awnHome_frame]
      rfl
    · rfl

/-- The records after a termination of a RUNNING channel: the channel's own is that of R16, and every other is unchanged,
but LEVEL's at a NORMAL end, which may leave and reach IN at once. -/
theorem terminate_chans (c d : Ch) (t : Term) (s : State) (h : isRunning s c = true) (n : d ≠ .level ∨ t ≠ .normal ∨ c = .level) :
    chanOf (terminate c t s) d = (s.chans.set c (stoppedRec s c t (s.chans.get c))).get d := by
  have hw : chanOf (lateSwitch c t (endWrite c t (jobOff c t (modChan c (stoppedRec s c t) s)))) d =
      (s.chans.set c (stoppedRec s c t (s.chans.get c))).get d := by
    have key : ∀ u : State, chanOf (lateSwitch c t u) d = chanOf u d := by
      intro u
      rcases n with n | n | n
      · exact lateSwitch_chans c d t u (.inl n)
      · exact lateSwitch_chans c d t u (.inr n)
      · rw [n]; rfl
    rw [key]
    unfold chanOf
    rw [endWrite_chans, jobOff_chans]
    rfl
  unfold terminate terminateWith endRunning
  simp only [h, if_true]
  rw [signal_frame]
  simp only [chanOf] at hw ⊢
  split
  · rw [pumpStop_frame]
    exact hw
  · exact hw

/-- After any termination the channel is not RUNNING (R16). -/
theorem terminate_not_running (c : Ch) (t : Term) (s : State) : isRunning (terminate c t s) c = false := by
  cases h : isRunning s c with
  | false => rw [terminate_of_not_running c t s h]; exact h
  | true =>
    unfold isRunning
    rw [terminate_chans c c t s h (by cases c <;> simp)]
    simp [stoppedRec]

/-- The records after an acceptance (R5). -/
theorem accept_chans (c : Ch) (o : Op) (hold : Bool) (v : Nat) (w : Owner) (q : Option AutoCause) (s : State) :
    (accept c o hold v w q s).chans = s.chans.set c { s.chans.get c with
      state := .pending, op := some o, operand := acceptedOperand s c o v, owner := some w, waiting := none,
      hold := hold, deadline := if hold then s.now + s.store.cfg.holdWindow else 0, autoCause := q } := by
  unfold accept
  rw [signal_frame]
  simp only []
  split <;> rfl

/-- An acceptance appends the channel to the start queue (R5). -/
theorem accept_queue (c : Ch) (o : Op) (hold : Bool) (v : Nat) (w : Owner) (q : Option AutoCause) (s : State) :
    (accept c o hold v w q s).sup.queue = s.sup.queue ++ [⟨c, s.now⟩] := by
  unfold accept
  rw [signal_frame]
  simp only []
  split <;> rfl

end Sys2Proof.Machine
end

