-- ==== Sys2Proof/Tests/Slice0.lean ====
section
/-! SUPPORT. Tests on fixed values: ill-formed terms that the checks refuse, worked examples of the spec, and one state and operands for the hypotheses of every statement that has any. -/

namespace Sys2Proof.Tests

open Sys2Proof.Machine

/-! ### A part that has started up -/

/-- Six jacks; ROOM_A TWIN, ROOM_B SINGLE under the awning, ROOM_C HYDRAULIC, ROOM_D not fitted; awning and wind sensor fitted. -/
def cfg : Cfg :=
  [(Group.geometry, 0, 6), (.rooms, 1, 1), (.rooms, 2, 0), (.rooms, 9, 1), (.rooms, 12, 1), (.rooms, 17, 1),
    (.rooms, 18, 2), (.awning, 0, 1), (.wind, 0, 1)].foldl (fun c e => c.put e.1 e.2.1 e.2.2) Cfg.default

/-- A part in RUN and at rest with `cfg` stored: brake and park gear on, jacks grounded, rooms and awning IN. -/
def live : State :=
  { State.reset with
    now := 200000
    power := { startingUp := false }
    link := { rx := .hunt }
    lev := { jacks := PerJack.all { contact := .ground, ground := some 100, stroke := 100, pressure := 50 } }
    rooms := PerRoom.all { status := .pin, conf := .known }
    awn := { status := .pin, conf := .known }
    scan := { grad := { reading := some ⟨⟨0, 0⟩, ⟨0, 0⟩, false⟩, valid := true } }
    term := { deb := ((Vector.replicate 16 true).set 0 false).set 1 false }
    store := { cfg := cfg, marking := .stored, image := some cfg } }

/-- `live` with a channel in a state with an operation of owner LINK. -/
def inState (c : Ch) (st : ChState) (o : Op) (s : State) : State :=
  modChan c (fun q => { q with state := st, op := some o, owner := some .link }) s

/-- The next state of a command. -/
def after (i : Instr) (s : State) : State :=
  match exec i s with
  | .next t => t
  | _ => s

/-- `State.Listening` as a test. -/
def hears (s : State) : Bool :=
  !s.power.startingUp && s.power.state == .run && s.link.rx == .hunt && decide (s.link.replies.length < Config.maxReplies)

theorem listening_of {s : State} (h : hears s = true) : s.Listening := by
  simp only [hears, Bool.and_eq_true, Bool.not_eq_true', beq_iff_eq, decide_eq_true_eq] at h
  exact ⟨h.1.1.1, h.1.1.2, h.1.2, h.2⟩

/-- The reply buffer's boundary: three replies leave room, four do not. -/
theorem live_listening :
    live.Listening ∧
      (modLink (fun l => { l with replies := List.replicate 3 { kind := 0x81, tag := 1, payload := [] } }) live).Listening :=
  ⟨listening_of (by decide), listening_of (by decide)⟩

theorem meets_ReportsControlled : live.Listening := live_listening.1

theorem all_ch {P : Ch → Prop} [DecidablePred P] (h : ∀ c ∈ allChs, P c) : ∀ c, P c := by
  intro c; apply h; rcases c with _ | r | _
  · decide
  · cases r <;> decide
  · decide

/-! ### Ill-formed commands: one for each check of `Instr.wellFormed` -/

theorem test_ill_formed_op_of_another_channel : Instr.wellFormed (.start 1 .level .extend false 0) = false := by decide

theorem test_ill_formed_auto_retract_start : Instr.wellFormed (.start 1 .awning .autoRetract false 0) = false := by decide

theorem test_ill_formed_operand_not_zero : Instr.wellFormed (.start 1 (.room .a) .extend false 1) = false := by decide

theorem test_ill_formed_jog_set : Instr.wellFormed (.start 1 .level .jog true 11) = false := by decide

theorem test_ill_formed_jog_direction : Instr.wellFormed (.start 1 .level .jog true 0x0200) = false := by decide

theorem test_ill_formed_awning_operand : Instr.wellFormed (.start 1 .awning .extend false 801) = false := by decide

theorem test_ill_formed_output_mask : Instr.wellFormed (.setLinkOutputs 1 8) = false := by decide

theorem test_ill_formed_group : Instr.wellFormed (.get 1 10 0) = false := by decide

theorem test_ill_formed_index : Instr.wellFormed (.get 1 0 19) = false := by decide

theorem test_ill_formed_set_index : Instr.wellFormed (.set 1 9 22 0) = false := by decide

theorem test_ill_formed_set_code : Instr.wellFormed (.set 1 0 0 5) = false := by decide

theorem test_ill_formed_alert_mask : Instr.wellFormed (.ackAlert 1 0x1000) = false := by decide

theorem test_ill_formed_request : Instr.wellFormed (.badRequest 1 0x7F) = false := by decide

theorem test_well_formed_requests :
    Instr.wellFormed (.start 1 .awning .extend false 800) = true ∧ Instr.wellFormed (.start 1 .level .jog true 0x010A) = true ∧
      Instr.wellFormed (.get 1 9 21) = true ∧ Instr.wellFormed (.set 1 0 0 6) = true ∧
      Instr.wellFormed (.ackAlert 1 0x0FFF) = true := by decide

/-! ### Worked examples of the spec -/

/-- The four-jack coach of the worked levelling cases, at the strokes given. -/
def coach (lf rf lr rr : Nat) : List PlanJack :=
  [⟨.lf, 420, 110, 300, 62, lf⟩, ⟨.rf, 420, -110, 300, 48, rf⟩, ⟨.lr, -380, 110, 300, 95, lr⟩, ⟨.rr, -380, -110, 300, 88, rr⟩]

/-- Worked levelling case 1. -/
theorem test_lift_plan_case_1 :
    planLifts ⟨180, -90⟩ 200 (coach 62 48 95 88) =
      [⟨.lf, 20, 82⟩, ⟨.rf, 0, 48⟩, ⟨.lr, 164, 259⟩, ⟨.rr, 144, 232⟩] := by decide

/-- Worked levelling case 2, first pass. -/
theorem test_lift_plan_case_2 :
    planScale ⟨180, -90⟩ 150 (coach 62 48 95 88) = 914 ∧
      (planLifts ⟨180, -90⟩ 150 (coach 62 48 95 88)).map PlanLift.target = [80, 48, 244, 219] := by decide

/-- Worked levelling case 2, second pass: no progress. -/
theorem test_lift_plan_case_2_second_pass :
    planScale ⟨15, -8⟩ 150 (coach 80 48 244 219) = 71 ∧
      (planLifts ⟨15, -8⟩ 150 (coach 80 48 244 219)).map PlanLift.lift = [0, 0, 0, 0] := by decide

/-- Worked levelling case 3: six jacks, the deadband at RR. -/
theorem test_lift_plan_case_3 :
    (planLifts ⟨-40, 30⟩ 200
      [⟨.lf, 420, 110, 300, 70, 70⟩, ⟨.rf, 420, -110, 300, 290, 290⟩, ⟨.lr, -380, 110, 300, 150, 150⟩,
        ⟨.rr, -380, -110, 300, 142, 142⟩, ⟨.lm, 20, 110, 300, 110, 110⟩, ⟨.rm, 20, -110, 300, 104, 104⟩]).map PlanLift.target =
      [78, 299, 150, 142, 114, 109] := by decide

/-- Coast learning from a steady overrun of 6, then one of 40 (chapter 5). -/
theorem test_coast_learning :
    [0, 2, 3, 4, 5].map (fun c => learnCoast 20 c 6) = [2, 3, 4, 5, 5] ∧ learnCoast 20 5 40 = 14 := by decide

/-- The mid-jack test of R98 and the corner test of chapter 5's trim table. -/
theorem test_trim_tests :
    midLight 32 60 71 = true ∧ midLight 33 60 71 = false ∧ midLight 50 52 48 = false ∧
      lighterDiagonal 60 52 71 48 = none := by decide

/-- The gust and the average of the worked sequence of chapter 7. -/
theorem test_gust_and_average :
    gustOf 700 [18, 17, 17, 9, 7, 6, 6, 5, 5, 4] = 121 ∧ averageOf 700 [18, 17, 17, 9, 7, 6, 6, 5, 5, 4] = 66 := by decide

/-- The zero capture of R88: sums of 743 and -121 give 37 and -7. -/
theorem test_zero_capture :
    zeroCapture ((List.replicate 19 ⟨⟨0, 0⟩, ⟨37, -6⟩, false⟩) ++ [⟨⟨0, 0⟩, ⟨40, -7⟩, false⟩]) = ⟨37, -7⟩ := by decide

/-- The tests of R91 at tolerance 5 and limit 600. -/
theorem test_tolerance_and_slope :
    withinTolerance 5 ⟨5, -5⟩ = true ∧ withinTolerance 5 ⟨6, 0⟩ = false ∧ excessSlope 600 ⟨-601, 0⟩ false = true ∧
      excessSlope 600 ⟨-600, 0⟩ false = false := by decide

/-- The supply table of R147: 1050 in NORMAL, 1200 in BROWN, 1150 in BROWN. -/
theorem test_supply_table :
    let at_ := fun (v : Supply) (avg : Nat) =>
      (supplyStep avg (supplyStep avg (modMon (fun m => { m with supply := v }) live))).mon.supply
    at_ .normal 1050 = .brown ∧ at_ .brown 1200 = .normal ∧ at_ .brown 1150 = .sag := by decide

/-- The ordinary budget of R152 with the defaults: LEVEL at 110 A leaves 28 A of 138 A. -/
theorem test_ordinary_budget :
    live.store.cfg.budget - live.store.cfg.awningDemand = 138 ∧ demandOf live .level = 110 ∧
      demandOf live (.room .a) = 28 := by decide

/-! ### Frames written out from 12.1 and 12.2, and one-step tests -/

/-- A START of AWNING EXTEND to 300 cm with hold, tag 7: LENGTH 5, KIND 0x01, CHECK making the sum 0 modulo 256. -/
theorem test_start_frame :
    encodeRequest 7 (.start .awning .extend true 300) =
      [0xA5, 0x05, 0x01, 0x07, 0x05, 0x05, 0x01, 0x2C, 0x01, 0xBB] := by decide

/-- The same frame, received byte by byte, puts AWNING in motion outward and is answered ACCEPTED. -/
theorem test_start_bytes :
    let s := [0xA5, 0x05, 0x01, 0x07, 0x05, 0x05, 0x01, 0x2C, 0x01, 0xBB].foldl (fun t b => after (.linkByte b) t) live
    (chanOf s .awning).state = .running ∧ s.awn.drive = .dout ∧ s.awn.target = some 300 ∧
      s.link.tx = some (.reply [0xA5, 0x04, 0x81, 0x07, 0x01, 0x00, 0xFF, 0x00, 0x74]) := by decide

/-- An ACK_ALERT's payload is two bytes, least significant first. -/
theorem test_ack_alert_payload : decodeRequest 0x12 [0x01, 0x08] = .ackAlert 0x0801 := by decide

/-- A START of the TWIN room on a part at rest is admitted in its own step: both ends driven OUT, 28 A reserved. -/
theorem test_start_room :
    let s := after (.start 1 (.room .a) .extend false 0) live
    (chanOf s (.room .a)).state = .running ∧ (endOf s .a .endB).drive = .dout ∧
      s.mon.resv.get (.room .a) = some ⟨28, false⟩ ∧ s.link.replies.map Reply.payload = [[1, 0, 0xFF, 0]] := by decide

/-- With the brake off, the START is refused INTERLOCK naming BRAKE (codes 2, reason and item as 12.4 lists them). -/
theorem test_start_without_brake :
    let s := after (.start 1 (.room .a) .extend false 0) (modTerm (fun t => { t with deb := t.deb.set 0 true }) live)
    (chanOf s (.room .a)).state = .idle ∧ (s.link.replies.map (fun r => r.payload.getD 2 0)) = [16] := by decide

/-- AUTO_LEVEL with a jack in AIR opens that jack's valve and starts the pump. -/
theorem test_auto_level_begins :
    let s := after (.start 1 .level .autoLevel false 0) (modJack .lr (fun q => { q with contact := .air, pressure := 0 }) live)
    s.lev.phase = .ground ∧ valveOpen s .lr = true ∧ valveOpen s .lf = false ∧ s.man.pump.on = true := by decide

/-- A SET above the range stores the nearer end. -/
theorem test_set_clamps : (after (.set 1 1 0 60) live).store.cfg.tolerance = 50 := by decide

/-- A raw level is taken when it has differed for the default debounce time of 20 ms, and not 1 ms before (R162). -/
theorem test_debounce :
    let s := after (.inputRawChange 4 false) live
    s.term.timers.get 4 = some 200020 ∧
      (after (.inputDebounceExpiry 4) { s with now := 200019 }).term.deb.get 4 = true ∧
      (after (.inputDebounceExpiry 4) { s with now := 200020 }).term.deb.get 4 = false := by decide +kernel

/-- R169: 10 % of the converter span is 0 mm and 90 % is 400 mm. -/
theorem test_scaling :
    scaleReading strokeSpan 1000 = 0 ∧ scaleReading strokeSpan 9000 = 400 ∧ scaleReading strokeSpan 5000 = 200 := by decide

/-! ### Concrete states and operands that meet the hypotheses of the statements -/

/-- `live` with ROOM_A waiting for an EXTEND. -/
def waiting : State :=
  modSup (fun u => { u with queue := [⟨.room .a, 200000⟩] }) (inState (.room .a) .pending .extend live)

/-- `live` with LEVEL running, the pump on and two jack valves open. -/
def levelling : State :=
  let s := inState .level .running .autoLevel live
  { s with
    man := { s.man with
      pump := { holder := some .level, dir := some .extend, on := true, runState := .on, runTime := 5000 }
      dirValve := .extend
      jackValves := { PerJack.all false with lf := true, rr := true } } }

/-- `live` with the awning running inward on an AUTOMATIC wind retract, the lockout running, ROOM_A extending. -/
def windy : State :=
  let s := inState (.room .a) .running .extend live
  let s := modChan .awning (fun q => { q with
    state := .running, op := some .autoRetract, owner := some .automatic, autoCause := some .wind }) s
  { s with
    rooms := s.rooms.set .a
      { status := .part, conf := .known, ends := ⟨{ count := 130, drive := .dout, consec := 3 }, { count := 100, drive := .dout }⟩ }
    awn := { status := .part, conf := .known, drive := .din, consec := 3 }
    wind := { lockout := some 900000 }
    mon := { s.mon with resv := { s.mon.resv with
      awning := some ⟨12, true⟩, rooms := { s.mon.resv.rooms with a := some ⟨28, false⟩ } } }
    link := { s.link with
      reports := [.posture, .store, .chan .awning]
      replies := List.replicate 4 { kind := 0x81, tag := 1, payload := [1, 0, 0xFF, 0] } } }

theorem meets_EmptyQueueTicks :
    live.pending = [] ∧ live.power.startingUp = false ∧ State.reset.pending = [] ∧ State.reset.power.startingUp = true := by
  decide +kernel

theorem meets_EndOfStepDerives : settled live = true ∧ (live.sup.driveAway && travelReady live) = false := by decide +kernel

theorem meets_StepKeepsChannels : waiting.ChannelsOk ∧ ∃ t, step waiting = .next t :=
  ⟨⟨by decide +kernel, all_ch (by decide +kernel), all_ch (by decide +kernel), fun h => absurd h (by decide +kernel), fun h => absurd h (by decide +kernel)⟩, _, rfl⟩

theorem meets_StepKeepsManifold : levelling.ManifoldOk ∧ ∃ t, step levelling = .next t :=
  ⟨⟨by intro j; cases j <;> decide +kernel, fun h => absurd h (by decide +kernel), fun h => absurd h (by decide +kernel)⟩, _, rfl⟩

theorem meets_StepKeepsRack : windy.RackOk ∧ ∃ t, step windy = .next t :=
  ⟨⟨by intro r e; cases r <;> cases e <;> decide +kernel, by intro r; cases r <;> decide +kernel, fun h => absurd h (by decide +kernel)⟩, _, rfl⟩

theorem meets_StepKeepsWind : windy.WindOk ∧ ∃ t, step windy = .next t :=
  ⟨⟨by decide +kernel, by decide +kernel, by decide +kernel, by decide +kernel, by decide +kernel⟩, _, rfl⟩

theorem meets_StepKeepsCounters : (windy.AssumedOk ∧ windy.ReportsOk ∧ windy.RepliesOk) ∧ ∃ t, step windy = .next t :=
  ⟨⟨⟨by decide +kernel, by intro r e; cases r <;> cases e <;> decide +kernel⟩, by unfold State.ReportsOk; decide +kernel,
    by unfold State.RepliesOk; decide +kernel⟩, _, rfl⟩

theorem cfg_rolesOk : cfg.rolesOk := ⟨by decide +kernel, by decide +kernel⟩

theorem meets_StepKeepsRoles : live.RolesOk ∧ ∃ t, step live = .next t := by
  refine ⟨?_, _, rfl⟩
  intro c h
  have e : live.cfgs = [cfg, cfg] := by decide +kernel
  rw [e] at h
  simp only [List.mem_cons, List.not_mem_nil, or_false, or_self] at h
  exact h ▸ cfg_rolesOk

theorem meets_StepKeepsBudget : windy.BudgetOk ∧ ∃ t, step windy = .next t := by
  refine ⟨⟨⟨by decide +kernel, all_ch (by decide +kernel), all_ch (by decide +kernel), fun h => absurd h (by decide +kernel),
    fun h => absurd h (by decide +kernel)⟩,
    ?_, all_ch (by decide +kernel), ?_, by decide +kernel, all_ch (by decide +kernel), ?_⟩, _, rfl⟩
  · intro c h
    have e : windy.cfgs = [cfg, cfg] := by decide +kernel
    rw [e] at h
    simp only [List.mem_cons, List.not_mem_nil, or_false, or_self] at h
    exact h ▸ ⟨by decide +kernel, by decide +kernel⟩
  · intro c q h f
    rcases c with _ | r | _
    · rw [show windy.mon.resv.get .level = none by decide +kernel] at h; cases h
    · cases r
      · rw [show windy.mon.resv.get (.room .a) = some ⟨28, false⟩ by decide +kernel] at h
        cases h; cases f
      · rw [show windy.mon.resv.get (.room .b) = none by decide +kernel] at h; cases h
      · rw [show windy.mon.resv.get (.room .c) = none by decide +kernel] at h; cases h
      · rw [show windy.mon.resv.get (.room .d) = none by decide +kernel] at h; cases h
    · rw [show windy.mon.resv.get .awning = some ⟨12, true⟩ by decide +kernel] at h
      cases h; exact ⟨rfl, by decide +kernel⟩
  · intro c d h
    have n : ∀ c, (chanOf windy c).deferred = none := all_ch (by decide +kernel)
    rw [n c] at h; cases h

/-- A terminal's debounced level in `live`. -/
def pressed (i : Fin 16) (v : Bool) (s : State) : State := modTerm (fun t => { t with deb := t.deb.set i v }) s

/-- An absent channel, ALL_STOP held, FAULTED, ALREADY, BUSY, a job check, an interlock and a missing hold, one each. -/
theorem meets_StartRefused :
    (hears live = true ∧ startEncoded (.room .d) .extend 0 = true ∧ live.present (.room .d) = false) ∧
    (hears (pressed 3 false live) = true ∧ startEncoded .awning .retract 0 = true ∧ allStopActive (pressed 3 false live) = true) ∧
    (let s := inState .level .faulted .stow live
     hears s = true ∧ startEncoded .level .stow 0 = true ∧ s.present .level = true ∧ allStopActive s = false) ∧
    (let s := waiting
     hears s = true ∧ (chanOf s (.room .a)).op = some .extend ∧ (chanOf s (.room .a)).owner = some .link) ∧
    (let s := inState (.room .a) .stopping .extend live
     hears s = true ∧ (chanOf s (.room .a)).state ≠ .idle ∧ startEncoded (.room .a) .extend 0 = true) ∧
    (let s := modRoom .a (fun q => { q with conf := .uncertain }) live
     hears s = true ∧ jobCheck s (.room .a) .extend 0 = some .uncertainPosition) ∧
    (let s := pressed 0 true live
     hears s = true ∧ jobCheck s (.room .a) .extend 0 = none ∧ motionOf (.room .a) .extend 0 .none = some .roomOut ∧
       firstUnsat s (.room .a) .roomOut false = some .brake) ∧
    (hears live = true ∧ jobCheck live .level .jog 0 = none ∧ motionOf .level .jog 0 .none = some .jackExtend ∧
      firstUnsat live .level .jackExtend false = none ∧ needsHold live .level .jog = true) := by decide +kernel

/-- A room without hold, a JOG of the last jack set with hold, and the awning to its greatest target. -/
theorem meets_StartAccepted :
    let ok := fun (c : Ch) (o : Op) (h : Bool) (v : Half) (m : Motion) =>
      hears live && startEncoded c o v && live.present c && !allStopActive live && ((chanOf live c).state == .idle) &&
        (o != .captureZero) && (jobCheck live c o v.toNat).isNone && (motionOf c o v.toNat .none == some m) &&
        (firstUnsat live c m false).isNone && (!needsHold live c o || h)
    ok (.room .a) .extend false 0 .roomOut = true ∧ ok .level .jog true 0x010A .jackRetract = true ∧
      ok .awning .extend false 800 .awningOut = true := by decide +kernel

/-- `live` with the settle window at `n` entries. -/
def window (n : Nat) : State := modLev (fun l => { l with ring := List.replicate n ⟨⟨0, 0⟩, ⟨3, -2⟩, false⟩ }) live

theorem meets_StartCapturesZero :
    let ok := fun (s : State) => hears s && s.present .level && !allStopActive s && ((chanOf s .level).state == .idle)
    (ok (modJack .rr (fun q => { q with contact := .air }) live) = true ∧
      allGround (modJack .rr (fun q => { q with contact := .air }) live) = false) ∧
    (ok (window 19) = true ∧ allGround (window 19) = true ∧ (window 19).lev.ring.length < 20) ∧
    (ok (window 20) = true ∧ allGround (window 20) = true ∧ (window 20).scan.grad.valid = true ∧
      ¬ (window 20).lev.ring.length < 20) := by decide +kernel

/-- A channel of `live` whose driver's latch is set. -/
def latched (st : ChState) (sense : Bool) : State :=
  modMon (fun m => { m with
    latches := m.latches.set .awning { isSet := true, ch := some .awning }, faultSense := m.faultSense.set .awning sense })
    (inState .awning st .extend live)

theorem meets_HoldRenewsAndClearReturns :
    (hears live = true ∧ live.present (.room .d) = false) ∧
    (let s := modChan (.room .a) (fun q => { q with hold := true }) waiting
     hears s = true ∧ (chanOf s (.room .a)).state = .pending ∧ (chanOf s (.room .a)).hold = true ∧
       (chanOf s (.room .a)).owner = some .link) ∧
    (let s := modChan .awning (fun q => { q with last := some ⟨.cancelled .released, some .link⟩ }) live
     hears s = true ∧ (chanOf s .awning).state = .idle ∧
       (chanOf s .awning).last = some ⟨.cancelled .released, some .link⟩) ∧
    (hears live = true ∧ (chanOf live .level).last = none) ∧
    (live.present .awning = true ∧ (chanOf live .awning).state ≠ .faulted) ∧
    (let s := latched .faulted true
     hears s = true ∧ s.present .awning = true ∧ (chanOf s .awning).state = .faulted ∧
       (s.mon.latches.get .awning).isSet = true ∧ (s.mon.latches.get .awning).ch = some .awning ∧
       s.mon.faultSense.get .awning = true) ∧
    (let s := latched .faulted false
     hears s = true ∧ (chanOf s .awning).state = .faulted ∧ (s.mon.latches.get .awning).isSet = true ∧
       allDrivers.all (fun d => !s.mon.faultSense.get d) = true) := by decide +kernel

/-- The awning running an AUTOMATIC wind retract in a part that hears. -/
def windRun : State := modLink (fun l => { l with replies := [] }) windy

theorem meets_StopAnswersAndEnds :
    (hears live = true ∧ live.present (.room .d) = false) ∧ (live.present .awning = true ∧ (chanOf live .awning).state = .idle) ∧
    (let s := inState .awning .stopping .extend live
     hears s = true ∧ s.present .awning = true ∧ (chanOf s .awning).state = .stopping) ∧
    (hears windRun = true ∧ windRun.present .awning = true ∧ windRetracting windRun .awning = true) ∧
    (hears waiting = true ∧ waiting.present (.room .a) = true ∧ windRetracting waiting (.room .a) = false ∧
      (chanOf waiting (.room .a)).state = .pending) ∧
    (hears levelling = true ∧ levelling.present .level = true ∧ (chanOf levelling .level).state = .running ∧
      levelling.man.pump.holder = some .level) := by decide +kernel

theorem meets_ReadsAnswerAndOutputsFollow :
    hears live = true ∧ (7 : Byte).toNat < 8 ∧ live.mon.latches.spare.isSet = false ∧ live.store.cfg.outputRole 5 = 6 ∧
      live.store.cfg.outputRole 6 = 7 ∧ live.store.cfg.outputRole 7 = 8 ∧ Group.ofCode 10 = none ∧
      Group.ofCode 9 = some .learned ∧ entrySpec .learned 22 = none ∧ (entrySpec .learned 21).isSome = true := by
  decide +kernel

theorem meets_SetTakenOrRefused :
    (hears live = true ∧ entryExists 10 0 = false ∧ setValueAllowed 0 0 5 = false) ∧
    (hears levelling = true ∧ Group.ofCode 1 = some .level ∧ entrySpec .level 0 = some (levelSpec 0) ∧
      codeAllowed (levelSpec 0) 5 = true ∧ (levelSpec 0).owner = some .level ∧ runningOrStopping levelling .level = true) ∧
    (hears levelling = true ∧ Group.ofCode 5 = some .supply ∧ entrySpec .supply 6 = some (supplySpec 6) ∧
      codeAllowed (supplySpec 6) 220 = true ∧ (allAtRest levelling && levelling.sup.queue.isEmpty) = false) ∧
    ([1, 2, 50, 51].all (fun v => codeAllowed (levelSpec 0) v && !setGated live .level 0 (levelSpec 0) v) = true ∧
      0 < (live.store.cfg.group .level).length ∧ (levelSpec 0).codes = none ∧ (levelSpec 0).lo = 2 ∧ (levelSpec 0).hi = 50) ∧
    (Group.ofCode 0 = some .geometry ∧ entrySpec .geometry 0 = some (geometrySpec 0) ∧ codeAllowed (geometrySpec 0) 6 = true ∧
      setGated live .geometry 0 (geometrySpec 0) 6 = false ∧ (geometrySpec 0).codes.isSome = true) ∧
    (entrySpec .terminals 48 = some (terminalsSpec 48) ∧ codeAllowed (terminalsSpec 48) 5 = true ∧
      setGated live .terminals 48 (terminalsSpec 48) 5 = false ∧ movedFrom live.store.cfg 48 5 = some 16) := by
  decide +kernel

theorem meets_SaveAndLoadDefaults :
    (let s := modStore (fun t => { t with saving := true }) live
     hears s = true ∧ s.store.saving = true) ∧
    (let s := modStore (fun t => { t with job := some .markerClear }) live
     hears s = true ∧ s.store.saving = false ∧ s.store.job = some .markerClear) ∧
    (hears live = true ∧ live.store.saving = false ∧ live.store.job = none ∧ live.store.waiting = []) ∧
    (hears waiting = true ∧ waiting.sup.queue ≠ []) ∧
    (hears live = true ∧ live.sup.queue = [] ∧ (∀ c ∈ allChs, live.present c = true →
      (chanOf live c).state = .idle ∨ (chanOf live c).state = .faulted)) := by decide +kernel

theorem meets_RestEntered :
    (hears waiting = true ∧ waiting.sup.queue ≠ []) ∧
    (hears live = true ∧ live.sup.queue = [] ∧ (∀ c ∈ allChs, live.present c = true →
      (chanOf live c).state = .idle ∨ (chanOf live c).state = .faulted) ∧ live.awn.status = .pin) ∧
    (let s := modAwn (fun a => { a with status := .part }) live
     hears s = true ∧ s.sup.queue = [] ∧ s.present .awning = true ∧ s.awn.status ≠ .pin) := by decide +kernel

/-- `live` with PUMP_HOT active and latched. -/
def alerted : State := modLink (fun l => { l with alerts := { l.alerts with pumpHot := ⟨true, true⟩ } }) live

theorem meets_AckAlertClears :
    (hears alerted = true ∧ (Req.ackAlert 0x0FFF).encoded = true ∧ (Req.ackAlert 0x0001).encoded = true) ∧
    ((alerted.link.alerts.get .pumpHot).cond = true ∧ (alerted.link.alerts.get .pumpHot).latch = true ∧
      alerted.store.cfg.alertEnabled .pumpHot = true ∧ alerted.store.cfg.sourceEnabled .alerts = true) := by decide +kernel

theorem meets_BadRequestAnswered :
    hears live = true ∧ requestOf (.start 9 .level .learn false 0) = some (9, .start .level .learn false 0) ∧
      (Req.start .level .learn false 0).encoded = false ∧ requestOf (.setLinkOutputs 9 8) = some (9, .setLinkOutputs 8) ∧
      (Req.setLinkOutputs 8).encoded = false ∧ requestOf (.badRequest 9 0x7F) = some (9, .bad 0x7F) ∧
      (Req.bad 0x7F).encoded = false := by decide +kernel

/-- `live` with its link port changed. -/
def linked (f : Link → Link) : State := modLink f live

/-- `live` in a power state with no reply waiting. -/
def resting (p : PowerState) : State := modPower (fun q => { q with state := p }) live

/-- Four replies, as many as the reply buffer holds. -/
def fullBuffer : List Reply := List.replicate 4 { kind := 0x81, tag := 1, payload := [1, 0, 0xFF, 0] }

theorem meets_RequestMeetsReceiver :
    requestOf (.save 4) = some (4, .save) ∧ State.reset.power.startingUp = true ∧ live.power.startingUp = false ∧
    (linked (fun l => { l with rx := .ignore })).link.rx = .ignore ∧ (linked (fun l => { l with rx := .drain })).link.rx = .drain ∧
    (linked (fun l => { l with rx := .held })).link.rx = .held ∧
    ((resting .sleep).link.rx = .hunt ∧ (resting .sleep).power.state ≠ .run) ∧
    (let s := linked (fun l => { l with rx := .assembling, replies := fullBuffer })
     s.link.rx = .assembling ∧ s.power.state = .run ∧ 4 ≤ s.link.replies.length) ∧
    (let s := linked (fun l => { l with replies := fullBuffer.drop 1 })
     s.link.rx = .hunt ∧ s.power.state = .run ∧ s.link.replies.length = 3) := by decide +kernel

theorem meets_RequestsDecode :
    ([.start .awning .extend true 800, .start .level .jog false 0x010A, .hold .awning, .readInputs, .setLinkOutputs 7,
      .get 255 255, .set 9 21 0xFFFFFFFF, .requestReport .telemetry, .ackAlert 0x0FFF, .getIdentity] : List Req).all Req.encoded =
      true := by decide +kernel

theorem meets_BytesMakeRequest :
    requestOf (.set 9 1 0 50) = some (9, .set 1 0 50) ∧ (Req.set 1 0 50).encoded = true ∧ live.power.startingUp = false ∧
      live.power.state = .run ∧ live.link.rx = .hunt ∧ live.link.rxBuf = [] := by decide +kernel

/-- A frame at LENGTH 120 is followed and one at 121 is not; the last byte of a frame whose sum is not 0. -/
theorem meets_ReceiverTable :
    live.power.startingUp = false ∧ live.link.rx = .hunt ∧ live.power.state = .run ∧
    (linked (fun l => { l with rx := .assembling })).link.rxBuf = [] ∧
    (let s := linked (fun l => { l with rx := .assembling, rxBuf := [0xA5] })
     s.link.rxBuf ++ [121] = 0xA5 :: 121 :: [] ∧ 120 < (121 : Byte).toNat ∧ (120 : Byte).toNat ≤ 120 ∧
       (s.link.rxBuf ++ [120]).length ≠ (120 : Byte).toNat + 5) ∧
    (let buf := [0xA5, 0, 0x0A, 1] ++ [(1 : Byte)]
     buf.length = (0 : Byte).toNat + 5 ∧ ((buf.drop 1).map BitVec.toNat).sum % 256 ≠ 0) ∧
    (linked (fun l => { l with rx := .held, held := some ⟨3, .save⟩ })).link.held = some ⟨3, .save⟩ ∧
    (linked (fun l => { l with rx := .held, held := some ⟨3, .save⟩, replies := fullBuffer })).link.replies.length = 4 ∧
    ((resting .watch).power.state ≠ .run ∧ (resting .watch).link.rx = .hunt) := by decide +kernel

/-- `live` while a report is on the line, with what else waits. -/
def sending (f : Link → Link) : State := linked (fun l => f { l with tx := some (.report .store []) })

theorem meets_TransmitterChooses :
    (let s := linked (fun l => { l with tx := some (.reply []), replies := [{ kind := 0x8E, tag := 1, payload := [], resets := true }] })
     s.link.tx = some (.reply []) ∧ s.link.replies = { kind := 0x8E, tag := 1, payload := [], resets := true } :: [] ∧
       (s.link.resetDue || true) = true) ∧
    ((sending id).link.tx = some (.report .store []) ∧ (sending id).link.replies = [] ∧ (sending id).link.resetDue = false ∧
      (sending id).power.state = .run ∧ (sending id).link.paused = false ∧ (sending id).link.part2 = none) ∧
    (sending (fun l => { l with replies := fullBuffer })).link.replies =
      { kind := 0x81, tag := 1, payload := [1, 0, 0xFF, 0] } :: fullBuffer.drop 1 ∧
    (sending (fun l => { l with paused := true })).link.paused = true ∧
    (sending (fun l => { l with part2 := some ⟨.posture, []⟩ })).link.part2 = some ⟨.posture, []⟩ ∧
    (sending (fun l => { l with reports := [.chan .level] })).link.reports = .chan .level :: [] ∧
    (let s := linked (fun l => { l with telemetryAt := some 200000 })
     s.link.telemetryAt = some 200000 ∧ s.power.state = .run ∧ 200000 ≤ s.now) ∧
    (telemetryDue live = false ∧ idleFillDue live = false) ∧
    (let s := putCfg .reporting 22 2 (linked (fun l => { l with lastTelemetry := some 199900 }))
     s.store.cfg.telemetryMode = 2 ∧ s.link.tx = none ∧ s.link.replies = [] ∧ s.link.reports = [] ∧ s.link.part2 = none ∧
       s.link.resetDue = false ∧ s.link.lastTelemetry = some 199900 ∧ 199900 + 100 ≤ s.now) := by decide +kernel

/-- Nothing left to send, with idle fill on, its spacing over and not over, and with idle fill off. -/
theorem meets_TransmitterChooses_fill :
    let empty := fun (s : State) => s.link.part2.isNone && s.link.reports.isEmpty && s.link.replies.isEmpty && !s.link.paused &&
      !s.link.resetDue && (s.power.state == .run)
    (empty (sending id) = true ∧ (sending id).store.cfg.telemetryMode ≠ 2) ∧
    (let s := fun (x : Nat) => putCfg .reporting 22 2 (sending (fun l => { l with lastTelemetry := some x }))
     empty (s 199900) = true ∧ (s 199900).store.cfg.telemetryMode = 2 ∧ 199900 + 100 ≤ (s 199900).now ∧
       (s 199901).now < 199901 + 100) := by decide +kernel

theorem meets_ResetsReturn :
    (linked (fun l => { l with resetDue := true })).link.resetDue = true ∧ live.link.resetDue = false ∧
      State.reset.power.startingUp = true ∧ isReset (.save 1) = false := by decide +kernel

/-- What start-up reads: the memory answers or not. -/
def reads (answers : Bool) : StartUpReads :=
  { settingsAnswer := answers, snapshotAnswer := answers,
    scan := { strokes := PerJack.all 1000, pressures := PerJack.all 1000, line := 1000, currents := PerDriver.all 0, supply := 1250 },
    moreSupply := List.replicate 7 1250, poll := some ⟨0, 0⟩, inputs := Vector.replicate 16 true, stowed := PerJack.all true,
    roomIn := PerRoom.all true, awningIn := true, faultSense := PerDriver.all false }

theorem meets_StartUpEnds :
    live.power.startingUp = false ∧ State.reset.power.startingUp = true ∧
    (∀ c ∈ allChs, (chanOf State.reset c).state = .idle) ∧
    ((reads true).settingsAnswer = true ∧ (resetPart .pin live).store.image = some cfg ∧
      (∀ c ∈ allChs, (chanOf (resetPart .pin live) c).state = .idle)) ∧
    State.reset.store.image = none ∧ (reads false).settingsAnswer = false := by decide +kernel

/-- `live` with a memory job in progress. -/
def working (j : Job) : State := modStore (fun t => { t with job := some j }) live

theorem meets_MemoryJobsEnd :
    live.power.startingUp = false ∧ (working (.image cfg)).store.job = some (.image cfg) ∧
      (working (.image cfg)).store.cfg.sourceEnabled .store = true ∧ (working (.image cfg)).present .level = true ∧
      (working .markerClear).store.job = some .markerClear ∧
      (working (.snapshot (some {}))).store.job = some (.snapshot (some {})) := by decide +kernel

/-- A queue of two waiting channels. -/
def two (a b : Ch) (oa ob : Op) (since : Nat) (s : State) : State :=
  modSup (fun u => { u with queue := [⟨a, since⟩, ⟨b, 200000⟩] }) (inState a .pending oa (inState b .pending ob s))

/-- A queue of one: each answer, and a current wait of exactly 5 s and of 1 ms less beside an entry that fits. -/
theorem meets_AdmissionScans :
    (automaticRetract windy .awning = true ∧ automaticRetract windy (.room .a) = false) ∧
    (waiting.power.startingUp = false ∧ waiting.sup.queue = [⟨.room .a, 200000⟩] ∧ waiting.present (.room .a) = true ∧
      (chanOf waiting (.room .a)).state = .pending ∧ (chanOf waiting (.room .a)).op = some .extend ∧
      conflicts waiting (.room .a) = false ∧ needsPump waiting (.room .a) = false ∧ currentOk waiting (.room .a) = true) ∧
    conflicts (inState .level .stopping .stow waiting) (.room .a) = true ∧
    (let s := modSup (fun u => { u with queue := [⟨.room .c, 200000⟩] })
        (modPump (fun p => { p with runState := .resting }) (inState (.room .c) .pending .extend live))
     conflicts s (.room .c) = false ∧ needsPump s (.room .c) = true ∧ pumpFree s = false) ∧
    currentOk (modMon (fun m => { m with supply := .sag }) waiting) (.room .a) = false ∧
    (let s := two .level (.room .c) .stow .extend 200000 (inState (.room .b) .running .extend live)
     s.sup.queue = [⟨.level, 200000⟩, ⟨.room .c, 200000⟩] ∧ conflicts s .level = true ∧ needsPump s .level = true ∧
       needsPump s (.room .c) = true ∧ conflicts s (.room .c) = false) ∧
    (let m := fun (since : Nat) => modMon (fun m => { m with latches := m.latches.set .awning { isSet := true, ch := none } })
        (two .awning (.room .a) .extend .retract since live)
     conflicts (m 195000) .awning = false ∧ needsPump (m 195000) .awning = false ∧ currentOk (m 195000) .awning = false ∧
       195000 + 5000 ≤ (m 195000).now ∧ (m 195001).now < 195001 + 5000 ∧ (chanOf (m 195001) (.room .a)).op ≠ none ∧
       needsPump (m 195001) (.room .a) = false ∧ conflicts (m 195001) (.room .a) = false ∧
       currentOk (m 195001) (.room .a) = true) := by decide +kernel

theorem meets_TerminationTaken :
    (chanOf live .level).state ≠ .running ∧ (chanOf levelling .level).state = .running ∧
      levelling.man.pump.holder = some .level ∧ (chanOf windy (.room .a)).state = .running ∧
      (chanOf windy .awning).state = .running := by decide +kernel

/-- `waiting` with hold to run and its deadline now, or as a running motion. -/
def held (st : ChState) : State := modChan (.room .a) (fun q => { q with state := st, hold := true, deadline := 200000 }) waiting

theorem meets_WaitsAndHoldsExpire :
    (let s := modSup (fun u => { u with queue := [⟨.room .a, 170000⟩] }) waiting
     s.power.startingUp = false ∧ (chanOf s (.room .a)).state = .pending ∧ enqueuedAt s (.room .a) = some 170000 ∧
       170000 + s.store.cfg.waitTimeout * 1000 = s.now) ∧
    waitOver waiting (.room .a) = false ∧
    ((chanOf (held .pending) (.room .a)).hold = true ∧ (chanOf (held .pending) (.room .a)).deadline ≤ (held .pending).now ∧
      pendantRenews (held .pending) (.room .a) = false ∧ (chanOf (held .pending) (.room .a)).state = .pending) ∧
    (pendantRenews (held .running) (.room .a) = false ∧ (chanOf (held .running) (.room .a)).state = .running) ∧
    holdOver waiting (.room .a) = false := by decide +kernel

/-- `live` with AWNING at the end of its stopping interval after a termination. -/
def stopped (t : Term) : State :=
  modChan .awning (fun q => { q with stopEnds := 200000, last := some ⟨t, some .link⟩ }) (inState .awning .stopping .extend live)

theorem meets_StoppingEnds :
    stoppingDue live .awning = false ∧
    (let s := stopped (.abnormal ⟨.hall, .none⟩)
     s.power.startingUp = false ∧ (chanOf s .awning).state = .stopping ∧ (chanOf s .awning).stopEnds ≤ s.now ∧
       (chanOf s .awning).deferred = none ∧ Ch.awning ∉ s.sup.queue.map QEntry.ch ∧ s.sup.owed = none ∧
       (chanOf s .awning).last = some ⟨.abnormal ⟨.hall, .none⟩, some .link⟩) ∧
    (chanOf (stopped .normal) .awning).last = some ⟨.normal, some .link⟩ := by decide +kernel

theorem meets_InterlocksAndAllStop :
    (let s := pressed 0 true waiting
     chanMotion s (.room .a) = some .roomOut ∧ firstUnsat s (.room .a) .roomOut false = some .brake ∧
       (chanOf s (.room .a)).state = .pending) ∧
    (let s := pressed 0 true (inState (.room .a) .running .extend live)
     firstUnsat s (.room .a) .roomOut false = some .brake ∧ (chanOf s (.room .a)).state = .running) ∧
    chanUnsat waiting (.room .a) = none ∧ (chanOf live .level).state = .idle ∧
    (waiting.present (.room .a) = true ∧ (chanOf waiting (.room .a)).state = .pending) ∧
    (levelling.present .level = true ∧ (chanOf levelling .level).state = .running) ∧
    ((stopped .normal).present .awning = true ∧ (chanOf (stopped .normal) .awning).state = .stopping) ∧
    live.present (.room .d) = false := by decide +kernel

/-- `live` with the awning out, in a state with an operation of owner LINK. -/
def awningOut (st : ChState) (o : Op) : State := modAwn (fun a => { a with status := .pout }) (inState .awning st o live)

theorem meets_RetractsRequested :
    live.awn.status = .pin ∧
    (let s := awningOut .faulted .extend
     s.present .awning = true ∧ s.awn.status ≠ .pin ∧ (chanOf s .awning).state = .faulted) ∧
    (let s := awningOut .running .retract
     s.awn.status ≠ .pin ∧ (chanOf s .awning).state = .running ∧ (chanOf s .awning).op = some .retract) ∧
    (let s := awningOut .stopping .extend
     s.power.state = .run ∧ allStopActive s = false ∧ (chanOf s .awning).state = .stopping) ∧
    (let s := modAwn (fun a => { a with status := .part }) live
     (chanOf s .awning).state = .idle ∧ firstUnsat s .awning .awningIn true = none) ∧
    (let s := awningOut .running .extend
     (chanOf s .awning).state = .running ∧ (chanOf s .awning).op = some .extend) ∧
    (travelReady live = false ∧ live.sup.driveAway = false) ∧
    (modSup (fun u => { u with driveAway := true, owed := some .driveAway }) live).sup.owed = some .driveAway ∧
    live.sup.owed ≠ some .driveAway := by decide +kernel

/-- The awning PART and the bin ending now at the default gust threshold. -/
def gusty (s : State) : State :=
  modWind (fun w => { w with ring := [17, 17, 9], bin := 18, binEnd := some 200000 }) (modAwn (fun a => { a with status := .part }) s)

/-- ROOM_B, under the awning, runs or waits as the bin ends. -/
def gusting (room : ChState) : State := gusty (inState (.room .b) room .retract live)

/-- AWNING in a state with an operation of owner AUTOMATIC and a cause as the bin ends. -/
def gustingAuto (st : ChState) (cause : AutoCause) : State :=
  gusty (modChan .awning (fun q => { q with owner := some .automatic, autoCause := some cause }) (inState .awning st .autoRetract live))

/-- Every row of R139 and of the retract decision; IGNITION REQUIRED_ON for AWNING_IN bars the START. -/
theorem meets_WindRetracts :
    let ok := fun (s : State) => !s.power.startingUp && windBinDue s && windAtThreshold (windBin s) &&
      (s.power.state == .run || (chanOf s .awning).state == .idle || (chanOf s .awning).state == .faulted)
    let calls := fun (s : State) => ok s && s.present .awning && (s.awn.status != .pin) && !windRetractStanding s && !allStopActive s
    let clear := fun (s : State) => (firstUnsat (startLockout (windBin s)) .awning .awningIn true).isNone
    let barred := fun (s : State) => putCfg .interlock 22 1 s
    let rests := fun (s : State) => modPower (fun q => { q with state := .watch }) s
    ((windBin (gusting .running)).wind.gust = 121 ∧
      (∀ st ∈ [ChState.running, .pending, .stopping], calls (gusting st) = true ∧ clear (gusting st) = true ∧
        underAwning (gusting st) .b = true ∧ underAwning (gusting st) .a = false ∧ (chanOf (gusting st) .awning).state = .idle)) ∧
    ((ok (modAwn (fun a => { a with status := .pin }) (gusty live)) &&
      ok (gustingAuto .running .wind) && windRetractStanding (gustingAuto .running .wind)) = true ∧
      (let s := modChan .awning (fun q => { q with deferred := some ⟨.autoRetract, some .wind⟩ }) (gusty (awningOut .stopping .extend))
       ok s = true ∧ windRetractStanding s = true)) ∧
    (calls (rests (gusty live)) = true ∧ clear (rests (gusty live)) = true ∧ (rests (gusty live)).power.state ≠ .run) ∧
    (ok (gusty (pressed 3 false live)) = true ∧ allStopActive (gusty (pressed 3 false live)) = true) ∧
    (calls (barred (gusty live)) = true ∧ clear (barred (gusty live)) = false) ∧
    (let s := gusty (awningOut .pending .extend)
     calls s = true ∧ clear s = true ∧ (chanOf s .awning).op = some .extend ∧ clear (barred s) = false) ∧
    (∀ st ∈ [ChState.running, .stopping], calls (gusty (awningOut st .extend)) = true ∧
      (chanOf (gusty (awningOut st .extend)) .awning).state = st) ∧
    (∀ st ∈ [ChState.pending, .running], ∀ c ∈ [AutoCause.driveAway, .ignition], calls (gustingAuto st c) = true) ∧
    (∀ st ∈ [ChState.pending, .running, .faulted], calls (gusty (awningOut st .retract)) = true) := by decide +kernel

/-- In WATCH the wind wakes the part and the retract runs at once (R142). -/
theorem test_wind_wakes :
    let s := after .windBinEnd (modPower (fun q => { q with state := .watch }) (gusty live))
    s.power.state = .run ∧ (chanOf s .awning).state = .running ∧ s.awn.drive = .din := by decide +kernel

/-- A raw level at a terminal that differs from its debounced level, its timer as given. -/
def bouncing (t : Fin 16) (x : Option Nat) (s : State) : State :=
  modTerm (fun u => { u with raw := u.raw.set t (!u.deb.get t), timers := u.timers.set t x }) s

def debouncing (t : Fin 16) (x : Option Nat) : State := bouncing t x live

/-- The raw level at its debounced level, differing with no timer, and differing with one; a timer at 200000, at 200001, and
one of a terminal without a role. -/
theorem meets_InputsDebounce :
    live.power.startingUp = false ∧ true = live.term.deb.get 4 ∧
    (false ≠ live.term.deb.get 4 ∧ live.term.timers.get 4 = none) ∧
    (let s := debouncing 4 (some 200010)
     false ≠ s.term.deb.get 4 ∧ s.term.timers.get 4 ≠ none) ∧
    debounceDue (debouncing 4 (some 200000)) 4 = true ∧ debounceDue (debouncing 4 (some 200001)) 4 = false ∧
    (debounceDue (debouncing 12 (some 200000)) 12 = true ∧ live.store.cfg.inputRole 12 = none ∧
      live.store.cfg.sourceEnabled .inputs = true) := by decide +kernel

/-- A terminal of each kind of role due, in RUN and at rest, going active and inactive: BRAKE, IGNITION with its retract on and off,
ALL_STOP over a waiting, a running and a STOPPING channel, a pendant role, a hydraulic limit and PARK_GEAR. -/
theorem meets_InputsDebounce_roles :
    let due := fun (t : Fin 16) (x : InRole) (active : Bool) (s : State) =>
      let u := bouncing t (some 200000) s
      !u.power.startingUp && debounceDue u t && (u.store.cfg.inputRole t == some x) &&
        ((u.term.raw.get t != u.store.cfg.inputLow t) == active)
    let rests := fun (s : State) => modPower (fun q => { q with state := .watch }) s
    let goes := fun (t : Fin 16) (x : InRole) (s : State) =>
      !roleActive (bouncing t (some 200000) s) x && roleActive (takeLevel t (bouncing t (some 200000) s)) x
    (due 0 .brake false live = true ∧ due 0 .brake true (pressed 0 true live) = true) ∧
    (due 1 .parkGear false live || due 1 .parkGear true live) = true ∧
    (due 2 .ignition true live = true ∧ live.store.cfg.ignitionRetract = true ∧ goes 2 .ignition (rests live) = true ∧
      due 2 .ignition true (putCfg .interlock 28 0 live) = true ∧
      (putCfg .interlock 28 0 live).store.cfg.ignitionRetract = false ∧
      due 2 .ignition false (pressed 2 (!live.term.deb.get 2) live) = true) ∧
    (due 3 .allStop true waiting = true ∧ due 3 .allStop true levelling = true ∧ due 3 .allStop true (awningOut .stopping .extend) = true ∧
      due 3 .allStop false (pressed 3 false (modSup (fun u => { u with owed := some .ignition }) live)) = true) ∧
    (due 4 (.roomOut .a) true live = true ∧ due 4 (.roomOut .a) true (rests live) = true ∧
      goes 4 (.roomOut .a) (rests live) = true ∧ due 5 (.roomIn .a) false (pressed 5 false live) = true ∧
      (pairOf (.roomOut .a)).any (fun p => effective (takeLevel 4 (debouncing 4 (some 200000))) p &&
        !effective (debouncing 4 (some 200000)) p) = true) ∧
    (∀ v ∈ [true, false], due 12 (.outLimit .c) v (pressed 12 v (putCfg .terminals 48 22 live)) = true) := by decide +kernel

/-- A room held by the pendant in a state. -/
def handHeld (st : ChState) : State :=
  modChan (.room .a) (fun q => { q with state := st, owner := some .pendant, hold := true }) waiting

theorem meets_PendantDecodes :
    (let s := pressed 4 false live
     effective live (.roomOut .a) = false ∧ effective s (.roomOut .a) = true ∧ (.roomOut .a) ∉ s.term.mask ∧
       (chanOf s (.room .a)).state = .idle ∧ s.power.state = .run ∧ s.present (.room .a) = true ∧ allStopActive s = false ∧
       jobCheck s (.room .a) .extend 0 = none ∧ firstUnsat s (.room .a) .roomOut false = none) ∧
    (.roomOut .a) ∈ (modTerm (fun t => { t with mask := [.roomOut .a] }) (pressed 4 false live)).term.mask ∧
    (∀ st ∈ [ChState.running, .pending],
      let s := handHeld st
      effective (pressed 5 false s) (.roomIn .a) = true ∧ effective s (.roomIn .a) = false ∧
        (chanOf s (.room .a)).owner = some .pendant ∧ (chanOf s (.room .a)).hold = true ∧ (chanOf s (.room .a)).state = st) ∧
    (let s := pressed 10 false levelling
     effective levelling .levelAuto = false ∧ effective s .levelAuto = true ∧ .levelAuto ∉ s.term.mask ∧
       s.present .level = true ∧ (chanOf s .level).state = .running) := by decide +kernel

/-- Widths of 2 ms and 1 ms; a pulse 1000 ms old and one 999 ms old. -/
theorem meets_SpeedCounts :
    live.power.startingUp = false ∧ live.store.cfg.speedAssigned = true ∧
      (putCfg .terminals 64 0 live).store.cfg.speedAssigned = false ∧
      speedWindowDue (modTerm (fun t => { t with pulses := [199000, 199001] }) live) = true ∧
      speedWindowDue (modTerm (fun t => { t with pulses := [199001] }) live) = false := by decide +kernel

theorem meets_StowedSwitchDerives :
    live.power.startingUp = false ∧ live.jackPresent .lm = true ∧ (jackOf live .lm).contact ≠ .stowed ∧
      (jackOf live .lm).fault = false ∧ (jackOf (modJack .lm (fun q => { q with fault := true }) live) .lm).fault = true ∧
      (putCfg .geometry 0 4 live).jackPresent .lm = false := by decide +kernel

/-- A reading of every transducer at `x`. -/
def readings (x : Nat) : Analog :=
  { strokes := PerJack.all x, pressures := PerJack.all x, line := x, currents := PerDriver.all 0, supply := 1250 }

/-- `live` with a jack's flag and the line's flag set and in band since a time. -/
def flagged (t : Nat) : State :=
  modMan (fun m => { m with lineFault := true, lineBandSince := some t })
    (modJack .lf (fun q => { q with fault := true, bandSince := some t }) live)

/-- Readings at the ends of the band and just beyond them, in each power state; a flag in band for 1 s and for 1 ms less. -/
theorem meets_ScansTakeReadings :
    live.power.startingUp = false ∧ live.power.state = .run ∧ live.jackPresent .lf = true ∧ (jackOf live .lf).fault = false ∧
    (∀ x ∈ [200, 9800], 200 ≤ (readings x).line ∧ (readings x).line ≤ 9800 ∧ 200 ≤ (readings x).strokes.get .lf ∧
      (readings x).pressures.get .lf ≤ 9800) ∧
    (∀ x ∈ [199, 9801], ¬ (200 ≤ (readings x).line ∧ (readings x).line ≤ 9800) ∧
      ¬ (200 ≤ (readings x).strokes.get .lf ∧ (readings x).strokes.get .lf ≤ 9800)) ∧
    ((resting .watch).power.state = .watch ∧ (resting .watch).power.startingUp = false ∧
      (resting .sleep).power.state = .sleep ∧ (resting .sleep).power.startingUp = false) ∧
    (jackFlagDue (flagged 199000) .lf = true ∧ lineFlagDue (flagged 199000) = true) ∧
    (jackFlagDue (flagged 199001) .lf = false ∧ lineFlagDue (flagged 199001) = false) := by decide +kernel

/-- `windy` with seven samples at a level. -/
def sampled (v : Nat) (supply : Supply) : State :=
  modMon (fun m => { m with samples := List.replicate 7 v, supply := supply }) windy

/-- The eighth sample, and one fewer; an average of 1079 takes NORMAL to BROWN while ROOM_A extends and AWNING retracts. -/
theorem meets_SupplyFollowsAverage :
    ((min 2000 1079 :: live.mon.samples).take 8).length < 8 ∧
    (∀ v ∈ [Supply.normal, .sag, .brown], ((min 2000 1079 :: (sampled 1079 v).mon.samples).take 8).length = 8) ∧
    (let s := sampled 1079 .normal
     s.mon.supply ≠ .brown ∧ (supplySample 1079 s).mon.supply = .brown ∧ (chanOf s (.room .a)).state = .running ∧
       ¬ (Ch.room .a = .awning) ∧ (chanOf s .level).state ≠ .running ∧ (chanOf s .awning).op = some .autoRetract) := by
  decide +kernel

/-- A driver over its trip current since a time. -/
def tripping (d : Driver) (t : Nat) (s : State) : State :=
  modMon (fun m => { m with tripSince := m.tripSince.set d (some t) }) s

/-- A driver's latch set with a recorded channel. -/
def tripLatched (d : Driver) (c : Option Ch) (s : State) : State :=
  modMon (fun m => { m with latches := m.latches.set d { isSet := true, ch := c } }) s

/-- A trip timer at 50 ms and at 49 ms, on the pump, a room end, the awning and the spare driver; a latch with no channel, an
IDLE one and a RUNNING one. -/
theorem meets_OvercurrentLatches :
    (∀ p ∈ [(Driver.pump, Ch.level, levelling), (.roomEnd .a .endB, .room .a, windy), (.awning, .awning, windy)],
      let s := tripping p.1 199950 p.2.2
      s.power.startingUp = false ∧ tripDue s p.1 = true ∧ tripChannel s p.1 = some p.2.1 ∧ (chanOf s p.2.1).state = .running ∧
        s.present p.2.1 = true) ∧
    levelling.man.pump.on = true ∧ tripDue (tripping .pump 199951 levelling) .pump = false ∧
    tripDue (tripping .spare 199950 live) .spare = true ∧
    ((tripLatched .spare none live).mon.latches.get .spare = { isSet := true, ch := none } ∧
      ((tripLatched .awning (some .awning) live).mon.latches.get .awning).ch = some .awning ∧
      (chanOf live .awning).state = .idle ∧ (chanOf windy .awning).state = .running ∧ windy.present .awning = true ∧
      ((tripLatched .awning (some .awning) windy).mon.latches.get .awning).ch = some .awning ∧
      (live.mon.latches.get .awning).isSet = false) := by decide +kernel

/-- Reads of 1000 and -1000; a poll outside RUN, and polls with LEVEL at rest on a ring of 0 and of 20 entries. -/
theorem meets_PollKeepsRecord :
    live.power.startingUp = false ∧ live.power.state = .run ∧ (chanOf live .level).state ≠ .running ∧
      live.lev.ring.length < 20 ∧
      ¬ (modLev (fun l => { l with ring := List.replicate 20 ⟨⟨0, 0⟩, ⟨0, 0⟩, false⟩ }) live).lev.ring.length < 20 ∧
      ((resting .watch).power.startingUp = false ∧ (resting .watch).power.state ≠ .run) ∧
      (∀ r ∈ [RawGrad.mk 1000 (-1000), ⟨-1000, 1000⟩],
        -1000 ≤ r.pitch ∧ r.pitch ≤ 1000 ∧ -1000 ≤ r.roll ∧ r.roll ≤ 1000) := by decide +kernel

/-- `levelling` in a phase and step since times, with one jack in AIR. -/
def inPhase (p : Phase) (sub : SubStep) (since step : Nat) : State :=
  modJack .lf (fun q => { q with contact := .air }) (modLev (fun l => { l with
    phase := p, sub := sub, phaseSince := since, stepSince := step, settleSince := step, trimUntil := step,
    ring := [⟨⟨3, -4⟩, ⟨3, -4⟩, false⟩, ⟨⟨4, -5⟩, ⟨4, -5⟩, false⟩], plan := some { op := .autoLevel } }) levelling)

/-- `levelling` judged for a stall since a time. -/
def stalling (t : Nat) : State :=
  modMan (fun m => { m with deadhead := some t })
    (modLev (fun l => { l with stall := some ⟨t, PerJack.all none⟩ }) (inPhase .lift .none 190000 0))

/-- `live` LEVELLED or LIMITED and drifting since a time. -/
def drifting (v : LevelStatus) (t : Nat) : State := modLev (fun l => { l with status := v, drift := some t }) live

/-- Each limit at its exact time, and 1 ms before it. -/
theorem meets_LevelLimits :
    levelling.power.startingUp = false ∧
    (groundLimitDue (inPhase .ground .none 140000 0) = true ∧ groundLimitDue (inPhase .measure .reground 0 140000) = true ∧
      groundLimitDue (inPhase .ground .none 140001 0) = false) ∧
    (liftLimitDue (inPhase .lift .none 110000 0) = true ∧ liftLimitDue (inPhase .lift .none 110001 0) = false) ∧
    (stallDue (stalling 198000) = true ∧ stallDue (stalling 198001) = false) ∧
    (trimLimitDue (inPhase .trim .stepping 110000 0) = true ∧ trimLimitDue (inPhase .trim .stepping 110001 0) = false) ∧
    (let s := fun (t : Nat) => modChan .level (fun q => { q with op := some .stow, admitted := t }) (inPhase .stow .none 0 0)
     stowLimitDue (s 80000) = true ∧ stowLimitDue (s 80001) = false) ∧
    (giveUpDue (inPhase .settle .settling 0 195001) = false ∧ trimWaitDue (inPhase .trim .waiting 190000 200001) = false ∧
      driftDue (drifting .levelled 190001) = false) := by decide +kernel

/-- SETTLE of STABILISE, and MEASURE, at 5 s; the trim wait at 500 ms with the diagonal LF and RR light; drift at 10 s. -/
theorem meets_LevelTimersAct :
    (let s := modChan .level (fun q => { q with op := some .stabilise }) (inPhase .settle .settling 0 195000)
     s.power.startingUp = false ∧ giveUpDue s = true ∧ s.lev.phase = .settle ∧ (chanOf s .level).op = some .stabilise ∧
       s.lev.plan = some { op := .autoLevel }) ∧
    giveUpDue (inPhase .measure .settling 0 195000) = true ∧
    (let s := modJack .lf (fun q => { q with pressure := 20 })
        (modJack .rr (fun q => { q with pressure := 20 }) (inPhase .trim .waiting 190000 200000))
     trimWaitDue s = true ∧ s.lev.cornerDone = false ∧
       lighterDiagonal (jackOf s .lf).pressure (jackOf s .rf).pressure (jackOf s .lr).pressure (jackOf s .rr).pressure =
         some [.lf, .rr] ∧ [Jack.lf, .rr].filter (fun j => canStep s j) ≠ []) ∧
    (∀ v ∈ [LevelStatus.levelled, .limited], driftDue (drifting v 190000) = true) := by decide +kernel

/-- The excess limit of 600 and the tolerance of 5 at their edges, a faulted jack, and an invalid gradient. -/
theorem meets_PlanTests :
    (chanOf levelling .level).state = .running ∧
    levelling.store.cfg.excessLimit < Int.natAbs 601 ∧ levelling.store.cfg.excessLimit < Int.natAbs (-601) ∧
    ¬ levelling.store.cfg.excessLimit < Int.natAbs (-600) ∧
    (let s := modJack .rm (fun q => { q with fault := true }) levelling
     s.jackPresent .rm = true ∧ (jackOf s .rm).fault = true) ∧
    (∀ j ∈ allJacks, (jackOf levelling j).fault = false) ∧ levelling.scan.grad.valid = true ∧
    (modScan (fun c => { c with grad := { c.grad with valid := false } }) levelling).scan.grad.valid = false ∧
    (Int.natAbs (-5) : Int) ≤ levelling.store.cfg.tolerance ∧ ¬ (Int.natAbs 6 : Int) ≤ levelling.store.cfg.tolerance := by
  decide +kernel

/-- A total of 0, a share of exactly 35 per cent, and shares below it on either diagonal. -/
theorem meets_LoadShareTest :
    0 + 0 = 0 ∧ 35 ≤ 100 * min (20 + 15) (30 + 35) / ((20 + 15) + (30 + 35)) ∧
      (100 * min (20 + 14) (30 + 36) / ((20 + 14) + (30 + 36)) < 35 ∧ 20 + 14 < 30 + 36) ∧
      (100 * min (30 + 36) (20 + 14) / ((30 + 36) + (20 + 14)) < 35 ∧ 20 + 14 < 30 + 36) := by decide

/-- A plan with jacks to lift, and coasts at 0, at the cap, and with the overrun below 0, at the cap and beyond it. -/
theorem meets_LiftPlanAndCoastBounds :
    (coach 62 48 95 88 ≠ [] ∧ ∃ p ∈ coach 62 48 95 88, 0 < planeLift ⟨180, -90⟩ (topHeight ⟨180, -90⟩ (coach 62 48 95 88)) p) ∧
      (0 ≤ 20 ∧ 20 ≤ 20 ∧ (-1 : Int) ≤ 0 ∧ (0 : Int) ≤ 20 ∧ (20 : Int) ≤ 20) := by decide +kernel

/-- A cooldown at 0 ms, and one whose trip is still latched; a run of 180 s and of 1 ms less under LEVEL. -/
theorem meets_PumpLimits :
    (let s := fun (n : Nat) => modPump (fun p => { p with runState := .resting, cooldown := n, tripped := true, hot := true }) live
     (s 0).power.startingUp = false ∧ cooldownDue (s 0) = true ∧ cooldownDue (s 1) = false ∧
       cooldownDue (tripLatched .pump (some .level) (s 0)) = false) ∧
    (let s := fun (n : Nat) => modPump (fun p => { p with runTime := n }) levelling
     dutyDue (s 179999) = false ∧ (s 180000).man.pump.on = true ∧ 180000 ≤ (s 180000).man.pump.runTime ∧
       (s 180000).man.pump.holder = some .level ∧ (chanOf (s 180000) .level).state = .running) := by decide +kernel

/-- ROOM_C, HYDRAULIC, running since a time at a deadhead since another. -/
def hydraulicRun (o : Op) (since dead : Nat) : State :=
  modMan (fun m => { m with deadhead := some dead, pump := { m.pump with holder := some (.room .c), on := true, runState := .on } })
    (modChan (.room .c) (fun q => { q with admitted := since }) (inState (.room .c) .running o live))

/-- Deadheads of 1 s and of 1 ms less, with the limit terminal not assigned, inactive and active; travel of 45 s. -/
theorem meets_HydraulicRoomsEnd :
    (∀ o ∈ [Op.extend, .retract],
      let s := hydraulicRun o 199000 199000
      s.power.startingUp = false ∧ deadheadDue s .c = true ∧ (chanOf s (.room .c)).op = some o ∧
        roleAssigned s (.outLimit .c) = false ∧
        (let t := putCfg .terminals 48 22 s
         deadheadDue t .c = true ∧ roleAssigned t (.outLimit .c) = true ∧ roleActive t (.outLimit .c) = false ∧
           roleActive (pressed 12 false t) (.outLimit .c) = true)) ∧
    deadheadDue (hydraulicRun .extend 199000 199001) .c = false ∧
    travelDue (hydraulicRun .extend 155000 199900) .c = true ∧
    (hydraulicRun .extend 155000 199900).man.pump.holder = some (.room .c) ∧
    travelDue (hydraulicRun .extend 155001 199900) .c = false := by decide +kernel

/-- ROOM_A, TWIN, in a state with an operation, both ends driven and counting `a` and `b`, `n` consecutive assumed pulses, the
pulse-late timer of end A at a time, and a stall since another. -/
def twin (st : ChState) (o : Op) (a b : Int) (n late stall : Nat) : State :=
  let d : Drive := if o = .retract then .din else .dout
  modRoom .a (fun q => { q with
    status := .part, leg := if o = .learn then .out else .none,
    ends := ⟨{ count := a, drive := d, consec := n, lateAt := some late, stallSince := some stall }, { count := b, drive := d }⟩ })
    (inState (.room .a) st o live)

/-- No such end or no motion; RUNNING and STOPPING, outward and inward; a rack of 31 at the limit of 30 either way; late
timers due with two and with three assumed pulses, and 1 ms before. -/
theorem meets_RoomPulsesCount :
    live.power.startingUp = false ∧ hasEnd live .b .endB = false ∧ runningOrStopping live (.room .a) = false ∧
    (∀ st ∈ [ChState.running, .stopping], ∀ o ∈ [Op.extend, .retract, .learn],
      let s := twin st o 100 100 0 200000 200000
      hasEnd s .a .endA = true ∧ runningOrStopping s (.room .a) = true ∧ (roomOf s .a).inSwitch = false ∧
        (endOf s .a .endA).target = none ∧ (endOf s .a .endB).target = none ∧ (chanOf s (.room .a)).state = st) ∧
    (let s := twin .running .extend 130 100 0 200000 200000
     kindOf s .a = .twin ∧ (chanOf s (.room .a)).state = .running ∧
       s.store.cfg.rackLimit .a < (movedCount s .a (endOf s .a .endA).count - (endOf s .a .endB).count).natAbs ∧
       outwardMotion s .a = true) ∧
    (let s := twin .running .retract 100 130 0 200000 200000
     s.store.cfg.rackLimit .a < (movedCount s .a (endOf s .a .endA).count - (endOf s .a .endB).count).natAbs ∧
       outwardMotion s .a = false) ∧
    (∀ n ∈ [2, 3], roomLateDue (twin .running .extend 100 100 n 200000 200000) .a .endA = true) ∧
    roomLateDue (twin .running .extend 100 100 2 200001 200000) .a .endA = false := by decide +kernel

/-- Each state of an electric room in which its in-switch changes, and a HYDRAULIC one. -/
theorem meets_RoomSwitchHomes :
    electric live .c = false ∧ live.power.startingUp = false ∧
    (electric live .a = true ∧ (roomOf live .a).inSwitch ≠ true ∧ (chanOf live (.room .a)).state ≠ .running) ∧
    (roomOf (modRoom .a (fun q => { q with inSwitch := true }) live) .a).inSwitch ≠ false ∧
    (let s := twin .running .extend 5 5 0 200100 200000
     (roomOf s .a).inSwitch ≠ true ∧ (chanOf s (.room .a)).state = .running ∧ outwardMotion s .a = true) ∧
    (let s := twin .running .retract 5 5 0 200100 200000
     (chanOf s (.room .a)).state = .running ∧ (chanOf s (.room .a)).op = some .retract) ∧
    (let s := modRoom .a (fun q => { q with leg := .inward, candidate := some 900 }) (twin .running .learn 5 5 0 200100 200000)
     (chanOf s (.room .a)).state = .running ∧ (chanOf s (.room .a)).op = some .learn ∧ (roomOf s .a).leg = .inward ∧
       (roomOf s .a).candidate = some 900 ∧ (roomOf s .a).inSwitch ≠ true) := by decide +kernel

/-- A stall of 250 ms and of 249 ms; 20 and 21 pulses off a learned stroke of 900; a LEARN at 200 and 199; the reversal's end. -/
theorem meets_RoomStallsAndReversal :
    (let at_ := fun (n : Int) => putCfg .learned 8 900 (twin .running .extend n n 0 200100 199750)
     (at_ 880).power.startingUp = false ∧ roomStallDue (at_ 880) .a .endA = true ∧ (roomOf (at_ 880) .a).inSwitch = false ∧
       (at_ 880).store.cfg.learnedStroke .a = some 900 ∧ 900 - 20 ≤ roomPosition (at_ 880) .a ∧
       roomPosition (at_ 879) .a < 900 - 20 ∧ roomStallDue (at_ 879) .a .endA = true) ∧
    live.store.cfg.learnedStroke .a = none ∧
    roomStallDue (twin .running .extend 500 500 0 200100 199751) .a .endA = false ∧
    roomStallDue (twin .running .retract 500 500 0 200100 199750) .a .endA = true ∧
    (let at_ := fun (n : Int) => twin .running .learn n n 0 200100 199750
     roomStallDue (at_ 200) .a .endA = true ∧ (roomOf (at_ 200) .a).leg = .out ∧ 200 ≤ roomPosition (at_ 200) .a ∧
       roomPosition (at_ 199) .a < 200 ∧ (roomOf (modRoom .a (fun q => { q with leg := .inward }) (at_ 200)) .a).leg ≠ .out) ∧
    (let s := fun (t : Nat) => modRoom .a (fun q => { q with leg := .reversal, reversalUntil := t })
        (tripLatched (.roomEnd .a .endB) (some (.room .a)) (inState (.room .a) .running .learn live))
     reversalDue (s 200000) .a = true ∧ reversalDue (s 200001) .a = false ∧ .endA ∈ roomEnds (s 200000) .a ∧
       ((s 200000).mon.latches.get (.roomEnd .a .endA)).isSet = false) := by decide +kernel

/-- AWNING in a state with an operation at a count, with its late timer at a time and a stall since another. -/
def awningAt (st : ChState) (o : Op) (count : Int) (late stall : Nat) : State :=
  modAwn (fun a => { a with
    status := .part, count := count, drive := if o = .extend then .dout else .din, lateAt := some late,
    stallSince := some stall, stopPoint := some (count + 1), consec := 2 }) (inState .awning st o live)

/-- Pulses RUNNING, STOPPING and neither; late timers with two and three assumed pulses; the in-switch in each state; stalls
at 30 and 31 pulses off a full extension of 300 cm, and at 50 and 49 cm without one. -/
theorem meets_AwningPulsesAndEnds :
    live.power.startingUp = false ∧ live.present .awning = true ∧ runningOrStopping live .awning = false ∧
    (∀ st ∈ [ChState.running, .stopping],
      let s := awningAt st .extend 599 200000 200000
      runningOrStopping s .awning = true ∧ s.awn.inSwitch = false ∧ s.awn.switchLate = false ∧
        s.awn.stopPoint = some 600 ∧ 600 ≤ s.awn.count + 1) ∧
    (let s := awningAt .running .autoRetract 599 200000 199750
     awningLateDue s = true ∧ s.awn.consec < 3 ∧ 3 ≤ (modAwn (fun a => { a with consec := 3 }) s).awn.consec ∧
       awningStallDue s = true ∧ (chanOf s .awning).op ≠ some .extend) ∧
    awningLateDue (awningAt .running .extend 599 200001 199751) = false ∧
    awningStallDue (awningAt .running .extend 599 200001 199751) = false ∧
    (modAwn (fun a => { a with inSwitch := true }) live).awn.inSwitch = true ∧
    (let at_ := fun (n : Int) => putCfg .learned 20 300 (awningAt .running .extend n 200100 199750)
     awningStallDue (at_ (300 * live.store.cfg.pulsesPerCm - 30)) = true ∧ (at_ 0).store.cfg.fullExtension = some 300 ∧
       (at_ (300 * live.store.cfg.pulsesPerCm - 31)).awn.count < (300 * live.store.cfg.pulsesPerCm : Int) - 30) ∧
    (let at_ := fun (n : Int) => awningAt .running .extend n 200100 199750
     (at_ 0).store.cfg.fullExtension = none ∧ 50 ≤ extensionOf (at_ (50 * live.store.cfg.pulsesPerCm)) ∧
       extensionOf (at_ (50 * live.store.cfg.pulsesPerCm - 1)) < 50) := by decide +kernel

/-- A bin of a count that ends at a time. -/
def bins (bin at_ : Nat) : State := modWind (fun w => { w with ring := [17, 17, 9], bin := bin, binEnd := some at_ }) live

/-- The sensor fitted, not fitted, at rest and without a bin; a bin at its end and before it, at the gust threshold and below
both thresholds; a lockout at its end and before it. -/
theorem meets_WindWatched :
    ((bins 0 200500).power.startingUp = false ∧ (bins 0 200500).store.cfg.windFitted = true ∧
      (bins 0 200500).power.state ≠ .sleep ∧ (bins 0 200500).wind.binEnd ≠ none) ∧
    (putCfg .wind 0 0 live).store.cfg.windFitted = false ∧ (resting .sleep).power.state = .sleep ∧ live.wind.binEnd = none ∧
    windBinDue (bins 18 200001) = false ∧
    (windBinDue (bins 18 200000) = true ∧
      live.store.cfg.gustThreshold ≤ (([18, 17, 17] : List Nat).sum * live.store.cfg.windFactor + 150) / 300) ∧
    (let r : List Nat := [0, 17, 17, 9]
     windBinDue (bins 0 200000) = true ∧ ¬ live.store.cfg.gustThreshold ≤ ((r.take 3).sum * live.store.cfg.windFactor + 150) / 300 ∧
       ¬ live.store.cfg.avgThreshold ≤ (r.sum * live.store.cfg.windFactor + 500) / 1000) ∧
    (let s := fun (t : Nat) => modWind (fun w => { w with lockout := some t }) live
     lockoutDue (s 200000) = true ∧ lockoutDue (s 200001) = false) := by decide +kernel

/-- A report waits at an idle transmitter, and at one that is sending; a hold that the pendant renews. -/
theorem meets_EmptyQueueTicks_reports :
    ((linked (fun l => { l with reports := [.posture] })).link.tx = none ∧
      (linked (fun l => { l with reports := [.posture] })).link.reports ≠ [] ∧
      (linked (fun l => { l with reports := [.posture] })).power.startingUp = false) ∧
    (sending (fun l => { l with reports := [.posture] })).link.tx ≠ none ∧
    pendantRenews (pressed 4 false (handHeld .running)) (.room .a) = true := by decide +kernel

/-- The role of an engaged pendant motion, taken from its terminal and given to a free one; a room that becomes fitted, and
one that changes its kind. -/
theorem meets_SetTakenOrRefused_roles :
    (hears (handHeld .running) = true ∧ Group.ofCode 7 = some .terminals ∧ engaged (handHeld .running) (.roomOut .a) = true ∧
      (handHeld .running).store.cfg.inputRole (terminalOfEntry 16) = some (.roomOut .a) ∧
      (handHeld .running).store.cfg.entry .terminals 16 ≠ storedValue .terminals 16 (terminalsSpec 16) 0 ∧
      codeAllowed (terminalsSpec 16) 0 = true) ∧
    ((handHeld .running).store.cfg.entry .terminals 48 ≠ storedValue .terminals 48 (terminalsSpec 48) 5 ∧
      InRole.ofCode (storedValue .terminals 48 (terminalsSpec 48) 5) = some (.roomOut .a)) ∧
    (∀ p ∈ [((25 : Nat), (1 : Int)), (2, 1)],
      entrySpec .rooms p.1 = some (roomsSpec p.1) ∧ codeAllowed (roomsSpec p.1) p.2 = true ∧
        setGated live .rooms p.1 (roomsSpec p.1) p.2 = false ∧ p.1 < (live.store.cfg.group .rooms).length ∧
        storedValue .rooms p.1 (roomsSpec p.1) p.2 = p.2 ∧ live.store.cfg.entry .rooms p.1 ≠ p.2) := by decide +kernel

/-- Bad frames in IGNORE, DRAIN and HELD, and outside RUN in HUNT and ASSEMBLING; a SYNC at rest taken in RUN. -/
theorem meets_ReceiverTable_events :
    (∀ x ∈ [RxState.ignore, .drain, .held], (linked (fun l => { l with rx := x })).link.rx = x) ∧
    (∀ x ∈ [RxState.hunt, .assembling],
      let s := modLink (fun l => { l with rx := x }) (resting .sleep)
      s.power.startingUp = false ∧ s.power.state ≠ .run ∧ s.link.rx = x) ∧
    (live.power.state = .run ∧ live.link.rx = .hunt ∧ live.link.rx ≠ .drain) := by decide +kernel

/-- The awning's admission with the awning out: a waiting room under it has an unsatisfied item, a running room whose brake is
off too, and LEVEL at rest has none. -/
theorem meets_AdmissionScans_evaluation :
    (let s := modSup (fun u => { u with queue := [⟨.awning, 200000⟩] })
        (inState .awning .pending .retract (inState (.room .b) .pending .extend live))
     let w := modChan .awning (fun q => { q with state := .running }) s
     s.power.startingUp = false ∧ s.present .awning = true ∧ (chanOf s .awning).state = .pending ∧
       conflicts s .awning = false ∧ needsPump s .awning = false ∧ currentOk s .awning = true ∧
       chanUnsat w (.room .b) = some .awningClear ∧ (chanOf s (.room .b)).state = .pending ∧ chanUnsat w .level = none) ∧
    (let s := pressed 0 true (modSup (fun u => { u with queue := [⟨.awning, 200000⟩] })
        (inState .awning .pending .retract (inState (.room .a) .running .extend live)))
     conflicts s .awning = false ∧ currentOk s .awning = true ∧
       chanUnsat (modChan .awning (fun q => { q with state := .running }) s) (.room .a) = some .brake ∧
       (chanOf s (.room .a)).state = .running) ∧
    (let s := modMon (fun m => { m with latches := m.latches.set .awning { isSet := true, ch := none } })
        (two .awning (.room .a) .retract .retract 195001 live)
     chanUnsat (modChan (.room .a) (fun q => { q with state := .running }) s) .awning = none) := by decide +kernel

/-- A deferred start or an owed retract of a cause at the end of `stopped t`, the awning PART. -/
def leaving (t : Term) (d : Option Deferred) (o : Option AutoCause) : State :=
  modSup (fun u => { u with owed := o })
    (modAwn (fun a => { a with status := .part }) (modChan .awning (fun q => { q with deferred := d }) (stopped t)))

/-- A channel at the end of its stopping interval after a NORMAL termination. -/
def halted (c : Ch) (s : State) : State :=
  modChan c (fun q => { q with stopEnds := 200000, last := some ⟨.normal, some .link⟩ }) (inState c .stopping .extend s)

/-- GROUND is entered with a flag set, and with a jack in AIR and no flag. -/
theorem meets_PhasesReact_entry :
    (runs levelling .level .autoLevel = true ∧ levelling.man.pump.holder = some .level ∧ levelling.man.dirValve ≠ .retract) ∧
    faultedJacks (modJack .rf (fun q => { q with fault := true }) levelling) = .rf :: [] ∧
    (let s := modJack .rr (fun q => { q with contact := .air }) levelling
     faultedJacks s = [] ∧ s.jackPresent .rr = true ∧ (jackOf s .rr).contact ≠ .ground ∧ (jackOf s .lf).contact = .ground ∧
       s.mon.latches.pump.isSet = false) := by decide +kernel

/-- A flag that set while AUTO_LEVEL waited for a room ends the run SENSOR as GROUND is entered, and no valve opens (R69, R82). -/
theorem test_ground_faulted_jack :
    let s := after (.stoppingEnd (.room .a)) (modJack .rf (fun q => { q with fault := true })
      (modSup (fun u => { u with queue := [⟨.level, 200000⟩] }) (halted (.room .a) (inState .level .pending .autoLevel live))))
    (chanOf s .level).state = .stopping ∧ (chanOf s .level).last.map LastTerm.term = some (.abnormal ⟨.sensor, .jacks [.rf]⟩) ∧
      openJacks s = [] ∧ s.man.pump.on = false := by decide +kernel

/-- LEVEL, ROOM_C and the electric rooms leave STOPPING: the pump's holder with no entry waiting; both ends of ROOM_A driven to
their targets, and one of them not driven; the awning at its stop point. -/
theorem meets_StoppingEnds_learning :
    (∀ c ∈ [Ch.level, .room .c],
      let s := modPump (fun p => { p with holder := some c }) (halted c live)
      s.power.startingUp = false ∧ (chanOf s c).state = .stopping ∧ (chanOf s c).stopEnds ≤ s.now ∧ s.sup.queue = [] ∧
        (chanOf s c).deferred = none ∧ s.man.pump.holder = some c) ∧
    (∀ drove ∈ [true, false],
      let e : EndRec := { count := 306, driveOff := some 300, target := some 300 }
      let s := modRoom .a (fun q => { q with onTarget := true, ends := ⟨{ e with drove := true }, { e with drove := drove }⟩ })
        (halted (.room .a) live)
      kindOf s .a ≠ .hydraulic ∧ (roomOf s .a).onTarget = true ∧ (∀ e ∈ roomEnds s .a, (endOf s .a e).driveOff = some 300) ∧
        (roomEnds s .a).all (fun e => (endOf s .a e).drove) = drove ∧
        ∀ e ∈ roomEnds s .a, endCoastIdx .a e < (s.store.cfg.group .learned).length) ∧
    (let s := modAwn (fun a => { a with onTarget := true, drove := true, driveOff := some 500, count := 507 }) (halted .awning live)
     s.sup.owed = none ∧ s.awn.onTarget = true ∧ s.awn.drove = true ∧ s.awn.driveOff = some 500 ∧
       21 < (s.store.cfg.group .learned).length) ∧
    (live.awn.onTarget = false ∧ live.awn.driveOff = none ∧ (roomOf live .a).onTarget = false) := by decide +kernel

/-- A deferred start of each cause after a NORMAL and after an ABNORMAL termination, and an owed retract. -/
theorem meets_StoppingEnds_deferred :
    (∀ cause ∈ [AutoCause.wind, .driveAway, .ignition],
      let ok := fun (s : State) => stoppingDue s .awning && s.present .awning && (s.power.state == .run) && !allStopActive s &&
        (firstUnsat s .awning .awningIn true).isNone && (s.awn.status != .pin) && s.sup.queue.isEmpty
      let d : Deferred := ⟨.autoRetract, some cause⟩
      (ok (leaving .normal (some d) none) = true ∧ (chanOf (leaving .normal (some d) none) .awning).deferred = some d) ∧
      (ok (leaving .normal none (some cause)) = true ∧ (leaving .normal none (some cause)).sup.owed = some cause ∧
        (chanOf (leaving .normal none (some cause)) .awning).deferred = none) ∧
      (ok (leaving (.abnormal ⟨.hall, .none⟩) (some d) none) = true ∧
        (chanOf (leaving (.abnormal ⟨.hall, .none⟩) (some d) none) .awning).last = some ⟨.abnormal ⟨.hall, .none⟩, some .link⟩)) ∧
    AutoCause.driveAway ≠ .wind := by decide +kernel

/-- Each row of R35 with the part at rest and with ALL_STOP held: EXTEND waiting and running, an AUTOMATIC retract waiting and
running, IDLE, STOPPING; the AWNING_IN row with an unsatisfied item. -/
theorem meets_RetractsRequested_rows :
    (∀ st ∈ [ChState.pending, .running], ∀ free ∈ [true, false],
      let s := pressed 3 free (awningOut st .extend)
      let a := modChan .awning (fun q => { q with op := some .autoRetract, owner := some .automatic }) s
      allStopActive s = !free ∧ s.power.state = .run ∧ s.present .awning = true ∧ s.awn.status ≠ .pin ∧
        (chanOf s .awning).state = st ∧ (chanOf s .awning).op = some .extend ∧
        firstUnsat s .awning .awningIn true = none ∧ (chanOf a .awning).op = some .autoRetract ∧
        (chanOf a .awning).owner = some .automatic ∧ (chanOf a .awning).state = st) ∧
    (let s := putCfg .interlock 20 1 (pressed 0 true (awningOut .pending .extend))
     firstUnsat s .awning .awningIn true = some .brake ∧ allStopActive s = false ∧ (chanOf s .awning).state = .pending) ∧
    (let s := modAwn (fun a => { a with status := .part }) live
     (chanOf s .awning).state = .idle ∧ allStopActive s = false ∧ allStopActive (pressed 3 false s) = true ∧
       firstUnsat (putCfg .interlock 20 1 (pressed 0 true s)) .awning .awningIn true = some .brake) ∧
    ((resting .watch).power.state ≠ .run) := by decide +kernel

/-- The drive-away condition begins in a coach whose jacks are down: with the auto-stow on and LEVEL free to stow, and off. -/
theorem meets_RetractsRequested_stows :
    (let s := putCfg .interlock 27 1 live
     travelReady s = false ∧ s.sup.driveAway = false ∧ s.store.cfg.autoStow = true ∧
       (∀ r ∈ allRooms, s.present (.room r) = true → (roomOf s r).status = .pin) ∧ (chanOf s .level).state = .idle ∧
       s.jackPresent .lf = true ∧ (jackOf s .lf).contact ≠ .stowed ∧ s.power.state = .run ∧ allStopActive s = false ∧
       firstUnsat s .level .jackRetract false = none) ∧
    live.store.cfg.autoStow = false ∧ (putCfg .interlock 27 1 levelling).store.cfg.autoStow = true ∧
    (chanOf levelling .level).state ≠ .idle := by decide +kernel

/-- Each held role and each press going active and inactive, with its channel free and refused. -/
theorem meets_PendantDecodes_roles :
    (∀ p ∈ [((4 : Fin 16), InRole.roomOut .a, Ch.room .a, Op.extend, Motion.roomOut),
        (5, .roomIn .a, .room .a, .retract, .roomIn), (8, .awningOut, .awning, .extend, .awningOut),
        (9, .awningIn, .awning, .retract, .awningIn), (10, .levelAuto, .level, .autoLevel, .jackExtend),
        (11, .stow, .level, .stow, .jackRetract)],
      let s := pressed p.1 false live
      effective live p.2.1 = false ∧ effective s p.2.1 = true ∧ p.2.1 ∉ s.term.mask ∧ s.power.state = .run ∧
        s.present p.2.2.1 = true ∧ allStopActive s = false ∧ (chanOf s p.2.2.1).state = .idle ∧
        jobCheck s p.2.2.1 p.2.2.2.1 0 = none ∧ firstUnsat s p.2.2.1 p.2.2.2.2 false = none ∧
        allStopActive (pressed 3 false s) = true ∧
        p.2.1 ∈ (modTerm (fun t => { t with mask := [p.2.1] }) s).term.mask) ∧
    (∀ st ∈ [ChState.pending, .running],
      (effective (pressed 4 false (handHeld st)) (.roomOut .a) = true ∧ effective (handHeld st) (.roomOut .a) = false ∧
        (chanOf (handHeld st) (.room .a)).owner = some .pendant ∧ (chanOf (handHeld st) (.room .a)).hold = true ∧
        (chanOf waiting (.room .a)).owner ≠ some .pendant)) ∧
    (∀ st ∈ [ChState.pending, .running, .stopping, .faulted],
      let s := inState .level st .stow live
      effective s .stow = false ∧ effective (pressed 11 false s) .stow = true ∧ (chanOf s .level).state = st) := by
  decide +kernel

/-- A trip in each power state's lines: a line inactive in RUN with a free latch set, and a line that changes in WATCH. -/
theorem meets_OvercurrentLatches_lines :
    (let s := tripLatched .awning (some .awning) live
     s.power.state = .run ∧ (s.mon.latches.get .awning).isSet = true ∧ (s.mon.latches.get .awning).ch = some .awning ∧
       (chanOf s .awning).state = .idle) ∧
    ((resting .watch).power.startingUp = false ∧ (resting .watch).power.state ≠ .run) := by decide +kernel

/-- The stall, the settle give-up and the trim wait at their exact times. -/
theorem meets_LevelLimits_waits :
    (giveUpDue (inPhase .settle .settling 0 195000) = true ∧ giveUpDue (inPhase .measure .settling 0 195000) = true ∧
      trimWaitDue (inPhase .trim .waiting 190000 200000) = true ∧ driftDue (drifting .levelled 190000) = true) ∧
    ((stalling 198000).man.deadhead ≠ none ∧ (stalling 198000).lev.phase = .lift) ∧
    (modLev (fun l => { l with ring := [] }) (inPhase .settle .settling 0 195000)).lev.ring = [] ∧
    (inPhase .settle .settling 0 195000).lev.ring ≠ [] := by decide +kernel

/-- A cooldown at 0 ms whose pump latch waits for LEVEL's CLEAR, with and without the trip. -/
theorem meets_PumpLimits_latch :
    ∀ t ∈ [true, false],
      let s := tripLatched .pump (some .level) (inState .level .faulted .stow
        (modPump (fun p => { p with runState := .resting, cooldown := 0, tripped := t }) live))
      s.power.startingUp = false ∧ cooldownDue s = false ∧ s.mon.latches.pump.isSet = true ∧
        (chanOf s .level).state = .faulted := by decide +kernel

/-- ROOM_C with both limit terminals assigned, each active and not, and its admission with the line flag set and clear. -/
theorem meets_HydraulicRoomsEnd_limits :
    (hydraulic live .a = false ∧ hydraulic live .c = true) ∧
    (let t := putCfg .terminals 48 22 (putCfg .terminals 52 23 live)
     let at_ := fun (o i : Bool) => pressed 12 (!o) (pressed 13 (!i) t)
     (limitActive (at_ true true) (.outLimit .c) = true ∧ limitActive (at_ true true) (.inLimit .c) = true) ∧
       (limitActive (at_ true false) (.outLimit .c) = true ∧ limitActive (at_ true false) (.inLimit .c) = false) ∧
       (limitActive (at_ false true) (.outLimit .c) = false ∧ limitActive (at_ false true) (.inLimit .c) = true)) ∧
    (∀ f ∈ [true, false], ∀ o ∈ [Op.extend, .retract],
      let s := modMan (fun m => { m with lineFault := f }) (hydraulicRun o 199000 199000)
      (chanOf s (.room .c)).state = .running ∧ s.man.pump.holder = some (.room .c) ∧ s.man.lineFault = f) := by decide +kernel

/-- The twin at a lead of 7 and 6 with both ends driven, and of 3 and 2 with the leading end paused. -/
theorem meets_RoomPulsesCount_sync :
    ∀ p ∈ [((106 : Int), false), (105, false), (102, true), (101, true)],
      let s := modRoom .a (fun q => { q with ends := ⟨{ q.ends.endA with
          paused := p.2, drive := if p.2 then .brake else .dout }, q.ends.endB⟩ })
        (twin .running .extend p.1 100 0 200000 200000)
      hasEnd s .a .endA = true ∧ kindOf s .a = .twin ∧ (chanOf s (.room .a)).state = .running ∧
        (roomOf s .a).inSwitch = false ∧ (roomOf s .a).leg ≠ .out ∧ (roomOf s .a).homeSearch = false ∧
        (∀ x ∈ [Side.endA, .endB], (endOf s .a x).target = none ∧ (endOf s .a x).driveOff = none ∧
          ((endOf s .a x).drive ≠ .brake ∨ (endOf s .a x).paused = true)) ∧
        (movedCount s .a (endOf s .a .endA).count - (endOf s .a .endB).count = p.1 + 1 - 100) ∧
        (p.1 + 1 - 100).natAbs ≤ s.store.cfg.rackLimit .a ∧ (s.mon.latches.get (.roomEnd .a .endA)).isSet = false := by
  decide +kernel

/-- The reversal ends with the in-switch active and a candidate. -/
theorem meets_RoomStallsAndReversal_switch :
    let s := modRoom .a (fun q => { q with inSwitch := true, leg := .reversal, reversalUntil := 200000, candidate := some 300 })
      (twin .running .learn 150 150 0 200000 200000)
    reversalDue s .a = true ∧ (roomOf s .a).inSwitch = true ∧ kindOf s .a ≠ .hydraulic ∧
      (chanOf s (.room .a)).op = some .learn ∧ (roomOf s .a).candidate = some 300 := by decide +kernel

/-- The margin of three quarters of the latest bin's threshold of 80, at 60 and below it. -/
theorem meets_WindWatched_margin :
    live.store.cfg.windFitted = true ∧ live.awn.conf ≠ .uncertain ∧ live.wind.lockout = none ∧
    (∀ a ∈ [59, 60], let s := modWind (fun w => { w with avg := a }) live
      (3 * s.wind.avgLimit ≤ 4 * s.wind.avg ↔ a = 60)) := by decide +kernel

/-- `inPhase` with every jack's valve open, LEVEL the holder and the direction valve at EXTEND. -/
def engine (p : Phase) (sub : SubStep) (f : Jack → JackRec → JackRec) : State :=
  allJacks.foldl (fun t j => modJack j (f j) t) (modMan (fun m => { m with jackValves := PerJack.all true }) (inPhase p sub 0 0))

/-- Each phase with LEVEL RUNNING as the pump's holder: jacks short of their ends, at them, and at their max stroke in AIR. -/
theorem meets_PhasesReact :
    (chanOf live .level).state ≠ .running ∧ (inPhase .settle .settling 0 0).lev.phase = .settle ∧
    (∀ p ∈ [(Phase.ground, SubStep.none), (.measure, .reground), (.lift, .none), (.trim, .stepping), (.stow, .none), (.jog, .none)],
      let s := engine p.1 p.2 (fun _ q => q)
      (chanOf s .level).state = .running ∧ s.man.pump.holder = some .level ∧ s.man.dirValve ≠ .retract ∧
        s.lev.phase = p.1 ∧ s.lev.sub = p.2 ∧ (∀ j ∈ allJacks, valveOpen s j = true ∧ s.jackPresent j = true)) ∧
    (∀ p ∈ [(Phase.ground, SubStep.none), (.measure, .reground)],
      let all := engine p.1 p.2 (fun _ q => { q with contact := .ground })
      let maxed := engine p.1 p.2 (fun _ q => { q with contact := .air, stroke := 400 })
      let again := modMan (fun m => { m with jackValves := PerJack.all false })
        (engine p.1 p.2 (fun _ q => { q with contact := .air, closedHere := true }))
      (∀ j ∈ allJacks, (jackOf all j).contact = .ground) ∧
        ((jackOf maxed .lf).contact = .air ∧ maxed.store.cfg.maxStroke .lf ≤ (jackOf maxed .lf).stroke) ∧
        ((jackOf again .lf).closedHere = true ∧ (jackOf again .lf).contact = .air ∧ valveOpen again .lf = false)) ∧
    (let s := engine .lift .none (fun j q => { q with contact := .ground, target := some (if j = .lf then 400 else 90) })
     (jackOf s .lf).stroke + s.store.cfg.jackCoast .lf < 400 ∧ 90 ≤ (jackOf s .rr).stroke + s.store.cfg.jackCoast .rr ∧
       (jackOf s .rr).target = some 90) ∧
    (let s := engine .trim .stepping (fun j q => { q with stepTarget := if j = .lf then some 102 else some 100 })
     (jackOf s .lf).stepTarget = some 102 ∧ ¬ 102 ≤ (jackOf s .lf).stroke ∧ 100 ≤ (jackOf s .rr).stroke ∧
       s.lev.plan = some { op := .autoLevel }) ∧
    (∀ j ∈ allJacks, (jackOf (engine .stow .none (fun _ q => { q with contact := .stowed })) j).contact = .stowed) ∧
    (let s := modChan .level (fun q => { q with op := some .jog, operand := 0x010A })
        (engine .jog .none (fun _ q => { q with stowed := true, jogged := true }))
     jogDir (chanOf s .level).operand = .retract ∧ (jackOf s .lf).stowed = true ∧ (jackOf s .lf).jogged = true) ∧
    (let s := modChan .level (fun q => { q with op := some .jog, operand := 10 })
        (engine .jog .none (fun _ q => { q with stroke := 400, jogged := true }))
     jogDir (chanOf s .level).operand = .extend ∧ s.store.cfg.maxStroke .lf ≤ (jackOf s .lf).stroke) := by decide +kernel

/-- R49: at the duty limit PUMP_HOT joins the report queue before the channel of the holder. -/
theorem test_duty_limit_order :
    let s := after .pumpDutyLimit (modPump (fun p => { p with runTime := 180000 })
      (modLink (fun l => { l with tx := some (.report .store []) }) levelling))
    s.link.reports.filter (fun x => x == .alerts || x == .chan .level) = [.alerts, .chan .level] ∧ s.man.pump.hot = true := by
  decide +kernel

/-- R29, R109: an under-awning room that ends at its own admission has been seen RUNNING, so a waiting EXTEND of the awning is
cancelled INTERLOCK. -/
theorem test_admission_is_evaluated :
    let s := after .admissionScan (modRoom .b (fun q => { q with inSwitch := true }) (two (.room .b) .awning .retract .extend 200000 live))
    (chanOf s (.room .b)).last = some ⟨.normal, some .link⟩ ∧ (chanOf s .awning).last = some ⟨.cancelled .interlock, some .link⟩ := by
  decide +kernel

/-- A NORMAL end of an EXTEND with the in-switch active beside a waiting STOW, and such an end with the switch inactive; a walk
in which the younger entry is a room whose switch is inactive. -/
theorem meets_TerminationTaken_late :
    let s := fun (b : Bool) => modRoom .a (fun q => { q with inSwitch := b })
      (modSup (fun u => { u with queue := [⟨.level, 199000⟩] })
        (inState (.room .a) .running .extend (inState .level .pending .stow live)))
    (∀ b ∈ [true, false], (chanOf (s b) (.room .a)).state = .running ∧ kindOf (s b) .a ≠ .hydraulic ∧
      (s b).present (.room .a) = true ∧ (roomOf (s b) .a).inSwitch = b ∧ outwardMotion (s b) .a = true ∧
      (chanOf (s b) (.room .a)).op = some .extend ∧ chanMotion (s b) .level = some .jackRetract ∧
      (chanOf (s b) .level).state = .pending) ∧
    (let t := modMon (fun m => { m with supply := .sag }) (two .level (.room .a) .stow .extend 200000 live)
     chanMotion t .level = some .jackRetract ∧ conflicts t .level = false ∧ currentOk t .level = false ∧
       (roomOf t .a).inSwitch = false) := by decide +kernel

/-- R28: the OUT of a NORMAL end cancels a waiting STOW although the late in-switch gives IN in the same step. -/
theorem test_momentary_out_cancels_stow :
    let s := modRoom .a (fun q => { q with inSwitch := true })
      (modSup (fun u => { u with queue := [⟨.level, 199000⟩] })
        (inState (.room .a) .running .extend (inState .level .pending .stow live)))
    let t := terminate (.room .a) .normal s
    (roomOf t .a).status = .pin ∧ (chanOf t .level).state = .idle ∧
      (chanOf t .level).last = some ⟨.cancelled .interlock, some .link⟩ ∧ t.sup.queue = [] := by decide +kernel

/-- ROOM_C, HYDRAULIC, at its in-limit, is handed a RETRACT, or an EXTEND, under the line-pressure fault beside a waiting STOW. -/
theorem meets_HydraulicRoomsEnd_stow :
    let s := modMan (fun m => { m with lineFault := true })
      (modSup (fun u => { u with queue := [⟨.level, 199000⟩] }) (inState .level .pending .stow (hydraulicRun .extend 199000 199000)))
    (chanOf s (.room .c)).state = .running ∧ s.man.pump.holder = some (.room .c) ∧ s.man.lineFault = true ∧
      limitActive s (.outLimit .c) = false ∧ s.present (.room .c) = true ∧ chanMotion s .level = some .jackRetract ∧
      (chanOf s .level).state = .pending := by decide +kernel

/-- R28, R56: the PART of that room cancels the STOW although its in-limit gives IN again at the SENSOR end. -/
theorem test_momentary_part_cancels_stow :
    let s := pressed 12 false (putCfg .terminals 48 23 (modMan (fun m => { m with lineFault := true })
      (modSup (fun u => { u with queue := [⟨.level, 199000⟩] })
        (inState .level .pending .stow (hydraulicRun .extend 199000 199000)))))
    let t := hydraulicBegin .c .extend s
    limitActive s (.inLimit .c) = true ∧ (roomOf t .c).status = .pin ∧
      (chanOf t .level).last = some ⟨.cancelled .interlock, some .link⟩ ∧
      (chanOf t (.room .c)).last = some ⟨.abnormal ⟨.sensor, .none⟩, some .link⟩ := by decide +kernel

/-- The beginning of the drive-away condition finds its alert inactive, with both enables on. -/
theorem meets_RetractsRequested_alert :
    travelReady live = false ∧ live.sup.driveAway = false ∧ (live.link.alerts.get .driveAway).cond = false ∧
      live.store.cfg.alertEnabled .driveAway = true ∧ live.store.cfg.sourceEnabled .alerts = true := by decide +kernel

/-- R34: a condition that begins and ends in one step (the awning PART at its active in-switch) leaves its latch set. -/
theorem test_drive_away_latches_within_a_step :
    let s := modTerm (fun u => { u with raw := u.raw.set 0 true, timers := u.timers.set 0 (some 200000) })
      (modAwn (fun a => { a with status := .part, inSwitch := true })
        (allJacks.foldl (fun t j => modJack j (fun q => { q with contact := .stowed, stowed := true }) t)
          (modLink (fun l => { l with tx := some (.report .store []) }) live)))
    let t := after (.inputDebounceExpiry 0) s
    travelReady s = false ∧ t.awn.status = .pin ∧ t.sup.driveAway = false ∧
      t.link.alerts.get .driveAway = { cond := false, latch := true } ∧ Source.alerts ∈ t.link.reports := by decide +kernel

/-- A start-up with the memory's marker clear, rooms and awning fitted, and the alert inactive and enabled. -/
theorem meets_StartUpEnds_uncertain :
    let s := resetPart .pin live
    s.power.startingUp = true ∧ (s.store.snapMark && (reads true).snapshotAnswer) = false ∧ cfg.roomFitted .a = true ∧
      cfg.alertEnabled .positionUncertain = true ∧ cfg.sourceEnabled .alerts = true ∧
      (s.link.alerts.get .positionUncertain).cond = false := by decide +kernel

/-- R106, R127, R181: with every room and the awning at their in-switches, POSITION_UNCERTAIN is latched and has ceased. -/
theorem test_start_up_at_home_latches :
    let s := resetPart .pin { live with store := { live.store with image := some (cfg.put .rooms 17 0) } }
    let t := after (.startUpEnd (reads true)) s
    (roomOf t .a).status = .pin ∧ (roomOf t .a).conf = .known ∧ t.awn.conf = .known ∧
      t.link.alerts.get .positionUncertain = { cond := false, latch := true } ∧
      t.link.reports.take 2 = [.posture, .alerts] := by decide +kernel

/-- R48: a latch recorded to a FAULTED room holds the cooldown after a trip stop only. -/
theorem test_room_latch_and_cooldown :
    ∀ t ∈ [true, false],
      cooldownDue (tripLatched .pump (some (.room .c)) (inState (.room .c) .faulted .extend
        (modPump (fun p => { p with runState := .resting, cooldown := 0, tripped := t }) live))) = !t := by decide +kernel

/-- `engine` with every jack in GROUND and past its target, with the gradient VALID and INVALID. -/
def settling (p : Phase) (sub : SubStep) (valid : Bool) : State :=
  modScan (fun c => { c with grad := { c.grad with valid := valid, failures := if valid then 0 else 4 } })
    (engine p sub (fun _ q => { q with contact := .ground, target := some 90 }))

/-- The three ways into a SETTLE, with the inclinometer at hand and lost. -/
theorem meets_PhasesReact_settle :
    ∀ p ∈ [(Phase.ground, SubStep.none), (.measure, .reground), (.lift, .none)], ∀ v ∈ [true, false],
      let s := settling p.1 p.2 v
      (chanOf s .level).state = .running ∧ (chanOf s .level).op = some .autoLevel ∧ s.man.pump.holder = some .level ∧
        s.man.dirValve ≠ .retract ∧ s.lev.phase = p.1 ∧ s.lev.sub = p.2 ∧ s.scan.grad.valid = v ∧
        (∀ j ∈ allJacks, s.jackPresent j = true ∧ (jackOf s j).contact = .ground ∧ belowTarget s j = false) := by
  decide +kernel

/-- R70, R82: a SETTLE entered with the inclinometer lost ends SENSOR with no jack named. -/
theorem test_settle_without_inclinometer :
    let u := fun (v : Bool) => levelReact (settling .ground .none v)
    (u true).lev.phase = .settle ∧ isRunning (u true) .level = true ∧
      (chanOf (u false) .level).last = some ⟨.abnormal ⟨.sensor, .none⟩, some .link⟩ ∧ (u false).lev.phase = .none := by
  decide +kernel

end Sys2Proof.Tests
end

section
/-! PROOF. What the supervisor sees of the state (channel states, start queue, presence, power), its safe states, and the
three moves that every command makes in it. -/

namespace Sys2Proof.Machine

/-- What R1, R7 and R190 speak of: the channel states, the channels of the start queue in their order, presence and power. -/
structure View where
  state : Ch → ChState
  queue : List Ch
  present : Ch → Bool
  power : PowerState
  startingUp : Bool

/-- The supervisor's view of a state. -/
def view (s : State) : View where
  state := fun c => (chanOf s c).state
  queue := s.sup.queue.map QEntry.ch
  present := s.present
  power := s.power.state
  startingUp := s.power.startingUp

/-- The clauses of `State.ChannelsOk`, said of a view. -/
structure View.Ok (v : View) : Prop where
  nodup : v.queue.Nodup
  queued : ∀ c, c ∈ v.queue ↔ v.state c = .pending
  absent : ∀ c, v.present c = false → v.state c = .idle
  rest : v.power ≠ .run → ∀ c, v.state c = .idle ∨ v.state c = .faulted
  start : v.startingUp = true → v.power = .run ∧ ∀ c, v.state c = .idle

theorem channelsOk_iff_view (s : State) : s.ChannelsOk ↔ (view s).Ok :=
  ⟨fun ⟨a, b, c, d, e⟩ => ⟨a, b, c, d, e⟩, fun ⟨a, b, c, d, e⟩ => ⟨a, b, c, d, e⟩⟩

theorem ChannelsOk_of_view {s t : State} (h : view t = view s) (ok : s.ChannelsOk) : t.ChannelsOk := by
  rw [channelsOk_iff_view] at ok ⊢
  rwa [h]

/-! ### The moves of a view -/

/-- A channel takes a state other than PENDING, and leaves the queue if it stood in it. -/
def View.leave (c : Ch) (st : ChState) (v : View) : View :=
  { v with state := Function.update v.state c st, queue := v.queue.filter (fun d => d != c) }

/-- A channel waits at the tail of the queue. -/
def View.join (c : Ch) (v : View) : View :=
  { v with state := Function.update v.state c .pending, queue := v.queue ++ [c] }

theorem View.Ok.leave {v : View} (h : v.Ok) (c : Ch) (st : ChState) (np : st ≠ .pending)
    (hst : st = .idle ∨ v.state c ≠ .idle ∧ (st = .faulted ∨ v.power = .run)) : (v.leave c st).Ok where
  nodup := h.nodup.filter _
  queued d := by
    by_cases e : d = c
    · subst e
      simp [View.leave, np]
    · simp [View.leave, e, h.queued d]
  absent d hd := by
    by_cases e : d = c
    · subst e
      rcases hst with hst | ⟨moved, -⟩
      · simp [View.leave, hst]
      · exact absurd (h.absent d hd) moved
    · simpa [View.leave, Function.update_of_ne e] using h.absent d hd
  rest hp d := by
    by_cases e : d = c
    · subst e
      rcases hst with hst | ⟨-, hst | hst⟩
      · simp [View.leave, hst]
      · simp [View.leave, hst]
      · exact absurd hst hp
    · simpa [View.leave, Function.update_of_ne e] using h.rest hp d
  start hs := by
    obtain ⟨hr, hi⟩ := h.start hs
    refine ⟨hr, fun d => ?_⟩
    by_cases e : d = c
    · subst e
      rcases hst with hst | ⟨moved, -⟩
      · simp [View.leave, hst]
      · exact absurd (hi d) moved
    · simpa [View.leave, Function.update_of_ne e] using hi d

theorem View.Ok.join {v : View} (h : v.Ok) (c : Ch) (idle : v.state c = .idle) (here : v.present c = true)
    (run : v.power = .run) (live : v.startingUp = false) : (v.join c).Ok where
  nodup := by
    have out : c ∉ v.queue := fun m => by simp [(h.queued c).1 m] at idle
    exact List.nodup_append.2 ⟨h.nodup, by simp, fun a ha b hb => by
      rw [List.mem_singleton.1 hb]
      exact fun e => out (e ▸ ha)⟩
  queued d := by
    by_cases e : d = c
    · subst e
      simp [View.join]
    · simp [View.join, e, h.queued d]
  absent d hd := by
    have e : d ≠ c := fun e => by simp [View.join, e, here] at hd
    simpa [View.join, Function.update_of_ne e] using h.absent d hd
  rest hp := absurd run hp
  start hs := by simp [View.join, live] at hs

/-- Presence may change wherever every channel that it leaves absent is IDLE. -/
theorem View.Ok.withPresent {v : View} (h : v.Ok) (p : Ch → Bool) (hp : ∀ c, p c = false → v.state c = .idle) :
    View.Ok { v with present := p } :=
  ⟨h.nodup, h.queued, hp, h.rest, h.start⟩

theorem View.leave_of_not_queued {v : View} (h : v.Ok) (c : Ch) (st : ChState) (np : v.state c ≠ .pending) :
    v.leave c st = { v with state := Function.update v.state c st } := by
  have out : c ∉ v.queue := fun m => np ((h.queued c).1 m)
  have same : v.queue.filter (fun d => d != c) = v.queue :=
    List.filter_eq_self.2 fun d hd => by simpa using fun e : d = c => out (e ▸ hd)
  simp [View.leave, same]

/-! ### A part that has started up and whose channels are in order -/

/-- The channels are in order and start-up is over: what every command's own work keeps. -/
def State.Sound (s : State) : Prop := (view s).Ok ∧ s.power.startingUp = false

theorem Sound_of_view {s t : State} (h : view t = view s) (ok : s.Sound) : t.Sound := by
  refine ⟨by rw [h]; exact ok.1, ?_⟩
  have e : (view t).startingUp = (view s).startingUp := by rw [h]
  exact e.trans ok.2

theorem present_of_view {s t : State} (h : view t = view s) (c : Ch) : t.present c = s.present c :=
  congrFun (congrArg View.present h) c

theorem view_modChan (c : Ch) (f : ChanRec → ChanRec) (s : State) :
    view (modChan c f s) = { view s with state := Function.update (view s).state c (f (chanOf s c)).state } := by
  have states : (view (modChan c f s)).state = Function.update (view s).state c (f (chanOf s c)).state := by
    funext d
    by_cases e : d = c
    · subst e
      simp [view]
    · simp [view, Function.update_of_ne e, chanOf_modChan_ne _ _ _ _ e]
  rw [← states]
  rfl

/-- A write in a channel's record that leaves its state leaves the view. -/
theorem view_modChan_same (c : Ch) (f : ChanRec → ChanRec) (s : State) (h : (f (chanOf s c)).state = (chanOf s c).state) :
    view (modChan c f s) = view s := by
  rw [view_modChan, h]
  simp [view]

/-- A write in the record of a channel that takes a state outside the queue, once it has left the queue. -/
theorem view_leave (c : Ch) (f : ChanRec → ChanRec) (u : Supervisor → Supervisor) (s : State)
    (hu : (u s.sup).queue = s.sup.queue.filter (fun e => e.ch != c)) :
    view (modChan c f (modSup u s)) = (view s).leave c (f (chanOf s c)).state := by
  rw [view_modChan]
  simp only [View.leave, view, modSup_sup, hu, List.filter_map]
  rfl

end Sys2Proof.Machine
end

section
/-! PROOF. The part of the state that the work of a job never touches, and that every operation which only carries out a
motion's work leaves that part as it was. -/

namespace Sys2Proof.Machine

/-- The state without what a job's own work writes: the engine's, the rooms' and the awning's records, valves and pump times,
latches, the owed retract's marks, waiting memory jobs and the report queue. -/
def outside (s : State) : State :=
  { s with
    lev := {}, rooms := PerRoom.all {}, awn := {}
    man := { pump := { holder := s.man.pump.holder, dir := s.man.pump.dir }, dirValve := s.man.dirValve }
    sup := { s.sup with owed := none, scanDue := false, owedDue := false }
    mon := { s.mon with latches := PerDriver.all {}, tripSince := PerDriver.all none }
    store := { s.store with markerClean := false, waiting := [] }
    link := { s.link with reports := [] } }

/-- `outside` with the marker state as long as some present channel is in motion: at rest a snapshot is asked for (R189). -/
def scope (s : State) : State × Bool := (outside s, s.store.markerClean || allAtRest s)

theorem outside_of_scope {s t : State} (h : scope t = scope s) : outside t = outside s := congrArg Prod.fst h

/-- What reads the same from a state and from its outside is common to states of one outside. -/
theorem of_outside {β : Type} {s t : State} (p : State → β) (hp : ∀ x, p (outside x) = p x) (h : outside t = outside s) :
    p t = p s := by
  rw [← hp t, h, hp s]

theorem markerClean_of_scope {s t : State} (h : scope t = scope s) (busy : allAtRest s = false) :
    t.store.markerClean = s.store.markerClean := by
  have m : (t.store.markerClean || allAtRest t) = (s.store.markerClean || allAtRest s) := congrArg Prod.snd h
  have o := outside_of_scope h
  have r : allAtRest t = allAtRest s := of_outside allAtRest (fun _ => rfl) o
  simpa [r, busy] using m

theorem view_outside (s : State) : view (outside s) = view s := rfl

theorem view_of_outside {s t : State} (h : outside t = outside s) : view t = view s := by
  rw [← view_outside t, h, view_outside]

theorem view_of_scope {s t : State} (h : scope t = scope s) : view t = view s := view_of_outside (outside_of_scope h)

theorem Sound_of_scope {s t : State} (h : scope t = scope s) (ok : s.Sound) : t.Sound := Sound_of_view (view_of_scope h) ok

/-! ### What equal outsides have in common -/

section
variable {s t : State} (h : outside t = outside s)
include h

theorem chans_of_outside : t.chans = s.chans := of_outside State.chans (fun _ => rfl) h
theorem chanOf_of_outside (c : Ch) : chanOf t c = chanOf s c := of_outside (fun x => chanOf x c) (fun _ => rfl) h
theorem queue_of_outside : t.sup.queue = s.sup.queue := of_outside (fun x : State => x.sup.queue) (fun _ => rfl) h
theorem now_of_outside : t.now = s.now := of_outside State.now (fun _ => rfl) h
theorem power_of_outside : t.power = s.power := of_outside State.power (fun _ => rfl) h
theorem term_of_outside : t.term = s.term := of_outside State.term (fun _ => rfl) h
theorem wind_of_outside : t.wind = s.wind := of_outside State.wind (fun _ => rfl) h
theorem scan_of_outside : t.scan = s.scan := of_outside State.scan (fun _ => rfl) h
theorem cfg_of_outside : t.store.cfg = s.store.cfg := of_outside (fun x : State => x.store.cfg) (fun _ => rfl) h
theorem present_of_outside : t.present = s.present := of_outside State.present (fun _ => rfl) h
theorem resv_of_outside : t.mon.resv = s.mon.resv := of_outside (fun x : State => x.mon.resv) (fun _ => rfl) h
theorem holder_of_outside : t.man.pump.holder = s.man.pump.holder := of_outside (fun x : State => x.man.pump.holder) (fun _ => rfl) h
theorem dir_of_outside : t.man.pump.dir = s.man.pump.dir := of_outside (fun x : State => x.man.pump.dir) (fun _ => rfl) h
theorem dirValve_of_outside : t.man.dirValve = s.man.dirValve := of_outside (fun x : State => x.man.dirValve) (fun _ => rfl) h
theorem allAtRest_of_outside : allAtRest t = allAtRest s := of_outside allAtRest (fun _ => rfl) h
theorem isRunning_of_outside (c : Ch) : isRunning t c = isRunning s c := of_outside (fun x => isRunning x c) (fun _ => rfl) h

end

/-! ### Folds -/

theorem foldl_keeps {α β : Type} (f : State → α → State) (p : State → β) (l : List α)
    (h : ∀ t, ∀ a ∈ l, p (f t a) = p t) (s : State) : p (l.foldl f s) = p s := by
  induction l generalizing s with
  | nil => rfl
  | cons a l ih =>
    rw [List.foldl_cons, ih (fun t b hb => h t b (List.mem_cons_of_mem a hb)), h s a List.mem_cons_self]

theorem scope_foldl {α : Type} (f : State → α → State) (h : ∀ t a, scope (f t a) = scope t) (l : List α) (s : State) :
    scope (l.foldl f s) = scope s := foldl_keeps f scope l (fun t a _ => h t a) s

/-! ### Operations of the blocks -/

@[simp] theorem scope_modLev (f : Levelling → Levelling) (s : State) : scope (modLev f s) = scope s := rfl
@[simp] theorem scope_modAwn (f : AwnRec → AwnRec) (s : State) : scope (modAwn f s) = scope s := rfl
@[simp] theorem scope_modRoom (r : Room) (f : RoomRec → RoomRec) (s : State) : scope (modRoom r f s) = scope s := rfl
@[simp] theorem scope_modEnd (r : Room) (e : Side) (f : EndRec → EndRec) (s : State) : scope (modEnd r e f s) = scope s := rfl
@[simp] theorem scope_modJack (j : Jack) (f : JackRec → JackRec) (s : State) : scope (modJack j f s) = scope s := rfl
@[simp] theorem scope_modPlan (f : PlanRec → PlanRec) (s : State) : scope (modPlan f s) = scope s := rfl
@[simp] theorem scope_setJackValve (j : Jack) (v : Bool) (s : State) : scope (setJackValve j v s) = scope s := rfl
@[simp] theorem scope_setRoomValve (r : Room) (v : Bool) (s : State) : scope (setRoomValve r v s) = scope s := rfl
@[simp] theorem scope_closeJackValves (s : State) : scope (closeJackValves s) = scope s := rfl
@[simp] theorem scope_queueSource (x : Source) (s : State) : scope (queueSource x s) = scope s := rfl
@[simp] theorem scope_dropSource (x : Source) (s : State) : scope (dropSource x s) = scope s := rfl

@[simp] theorem scope_signal (x : Source) (s : State) : scope (signal x s) = scope s := by
  unfold signal
  split <;> rfl

/-- At rest a snapshot write may be asked for: the marker state is then CLEAN, which `scope` does not tell from rest. -/
@[simp] theorem scope_snapshotOnRest (s : State) : scope (snapshotOnRest s) = scope s := by
  unfold snapshotOnRest
  split
  next h =>
    have rest : allAtRest s = true := (Bool.and_eq_true_iff.1 h).1
    have after : scope (requestSnapshot s) = (outside s, true) := rfl
    rw [after, scope, rest, Bool.or_true]
  next => rfl

@[simp] theorem scope_pumpStop (v : Bool) (s : State) : scope (pumpStop v s) = scope s := by
  unfold pumpStop
  split <;> rfl

@[simp] theorem scope_pumpOnCmd (c : Ch) (s : State) : scope (pumpOnCmd c s) = scope s := by
  unfold pumpOnCmd
  split <;> rfl

@[simp] theorem scope_pumpOffCmd (c : Ch) (s : State) : scope (pumpOffCmd c s) = scope s := by
  unfold pumpOffCmd
  split
  · exact scope_pumpStop false s
  · rfl

@[simp] theorem scope_openJack (j : Jack) (s : State) : scope (openJack j s) = scope s := by
  unfold openJack
  split <;> rfl

@[simp] theorem scope_closeJack (j : Jack) (s : State) : scope (closeJack j s) = scope s := by
  unfold closeJack
  split <;> rfl

@[simp] theorem scope_closeOnRetract (s : State) : scope (closeOnRetract s) = scope s := by
  unfold closeOnRetract
  split <;> rfl

@[simp] theorem scope_openRoomValve (r : Room) (s : State) : scope (openRoomValve r s) = scope s := by
  unfold openRoomValve
  split <;> rfl

/-! ### Writers of posture values -/

@[simp] theorem scope_setLevelStatus (v : LevelStatus) (s : State) : scope (setLevelStatus v s) = scope s := by
  unfold setLevelStatus
  split
  · rfl
  · simp

@[simp] theorem scope_setContact (j : Jack) (v : Contact) (s : State) : scope (setContact j v s) = scope s := by
  unfold setContact
  simp only []
  split
  · rfl
  · simp only [apply_ite scope, scope_setLevelStatus, scope_signal, scope_modJack, ite_self]

@[simp] theorem scope_deriveContact (j : Jack) (s : State) : scope (deriveContact j s) = scope s := by
  unfold deriveContact
  split <;> simp

@[simp] theorem scope_setRoomStat (r : Room) (v : Pos) (c : Conf) (s : State) : scope (setRoomStat r v c s) = scope s := by
  unfold setRoomStat
  simp only []
  split
  · rfl
  · split <;> simp

@[simp] theorem scope_setAwnStat (v : Pos) (c : Conf) (s : State) : scope (setAwnStat v c s) = scope s := by
  have owed : scope (if v = .pin then modSup (fun u => { u with owed := none }) s else s) = scope s := by
    split <;> rfl
  unfold setAwnStat
  simp only []
  split <;> simp [owed]

@[simp] theorem scope_roomHome (r : Room) (s : State) : scope (roomHome r s) = scope s := by
  simp [roomHome]

@[simp] theorem scope_awnHome (s : State) : scope (awnHome s) = scope s := by
  simp [awnHome]

/-! ### Latches and the supervisor's marks -/

@[simp] theorem scope_clearLatch (d : Driver) (s : State) : scope (clearLatch d s) = scope s := rfl

@[simp] theorem scope_examineLatch (d : Driver) (s : State) : scope (examineLatch d s) = scope s := by
  unfold examineLatch
  split <;> rfl

@[simp] theorem scope_examineLatchesOf (c : Ch) (s : State) : scope (examineLatchesOf c s) = scope s :=
  scope_foldl _ (fun t d => scope_examineLatch d t) _ s

@[simp] theorem scope_entersIdle (c : Ch) (s : State) : scope (entersIdle c s) = scope s := by
  unfold entersIdle
  simp only []
  split
  · exact scope_examineLatchesOf c s
  · exact scope_examineLatchesOf c s

/-! ### What a job block takes off and writes at a termination -/

@[simp] theorem scope_levelOff (s : State) : scope (levelOff s) = scope s := rfl
@[simp] theorem scope_brakeEnd (r : Room) (e : Side) (s : State) : scope (brakeEnd r e s) = scope s := rfl
@[simp] theorem scope_brakeRoom (r : Room) (s : State) : scope (brakeRoom r s) = scope s := rfl
@[simp] theorem scope_brakeAwning (s : State) : scope (brakeAwning s) = scope s := rfl

@[simp] theorem scope_jobOff (c : Ch) (t : Term) (s : State) : scope (jobOff c t s) = scope s := by
  cases c with
  | level =>
    simp only [jobOff]
    split <;> rfl
  | room r => rfl
  | awning => rfl

@[simp] theorem scope_electricEnd (r : Room) (t : Term) (s : State) : scope (electricEnd r t s) = scope s := by
  unfold electricEnd
  simp only []
  split
  · split <;> simp
  · split <;> simp

@[simp] theorem scope_awningEnd (t : Term) (s : State) : scope (awningEnd t s) = scope s := by
  unfold awningEnd
  split
  · simp
  · split <;> simp

@[simp] theorem scope_endWrite (c : Ch) (t : Term) (s : State) : scope (endWrite c t s) = scope s := by
  cases c with
  | level => simp [endWrite]
  | room r =>
    simp only [endWrite]
    split <;> simp
  | awning => simp [endWrite]

/-! ### The engine's, the rooms' and the awning's own work -/

@[simp] theorem scope_openJacksCmd (l : List Jack) (s : State) : scope (openJacksCmd l s) = scope s :=
  scope_foldl _ (fun t j => scope_openJack j t) l s

@[simp] theorem scope_closeJacksCmd (l : List Jack) (s : State) : scope (closeJacksCmd l s) = scope s :=
  scope_foldl _ (fun t j => scope_closeJack j t) l s

@[simp] theorem scope_levelPumpOff (s : State) : scope (levelPumpOff s) = scope s := by
  simp [levelPumpOff]

@[simp] theorem scope_startStep (l : List Jack) (s : State) : scope (startStep l s) = scope s := by
  simp only [startStep, scope_modLev, scope_pumpOnCmd, scope_openJacksCmd]
  exact scope_foldl (fun t j => modJack j _ t) (fun _ _ => rfl) l s

@[simp] theorem scope_clearLifts (s : State) : scope (clearLifts s) = scope s :=
  scope_foldl (fun t j => modJack j _ t) (fun _ _ => rfl) _ s

@[simp] theorem scope_closeGrounded (m : Bool) (s : State) : scope (closeGrounded m s) = scope s :=
  scope_foldl _ (fun t j => by split <;> simp) _ s

@[simp] theorem scope_pushRing (e : RingEntry) (s : State) : scope (pushRing e s) = scope s := rfl

@[simp] theorem scope_stallSample (s : State) : scope (stallSample s) = scope s := by
  unfold stallSample
  split
  · simp only []
    split
    · rfl
    · split <;> rfl
  · rfl

@[simp] theorem scope_driveEnd (r : Room) (e : Side) (o : Bool) (s : State) : scope (driveEnd r e o s) = scope s := by
  unfold driveEnd
  split <;> rfl

@[simp] theorem scope_driveEnds (r : Room) (l : List Side) (o : Bool) (s : State) : scope (driveEnds r l o s) = scope s :=
  scope_foldl _ (fun t e => scope_driveEnd r e o t) l s

@[simp] theorem scope_leadCheck (r : Room) (e : Side) (o : Bool) (s : State) : scope (leadCheck r e o s) = scope s := by
  unfold leadCheck
  simp only []
  split
  · split <;> simp
  · split <;> simp

@[simp] theorem scope_syncCheck (r : Room) (s : State) : scope (syncCheck r s) = scope s := by
  unfold syncCheck
  split <;> simp

@[simp] theorem scope_leaveOut (r : Room) (s : State) : scope (leaveOut r s) = scope s := by
  unfold leaveOut
  split <;> simp

@[simp] theorem scope_driveAwning (o : Bool) (s : State) : scope (driveAwning o s) = scope s := by
  unfold driveAwning
  split <;> rfl

@[simp] theorem scope_awnLeaveOut (s : State) : scope (awnLeaveOut s) = scope s := by
  unfold awnLeaveOut
  split <;> simp

end Sys2Proof.Machine
end

section
/-! PROOF. Endings: the one relation between the states before and after an operation that ends motions and otherwise only
carries out work, and that cancellations, terminations and the loss of ALL_ROOMS_IN stand in it. -/

namespace Sys2Proof.Machine

/-! ### The relation -/

/-- How a motion ends: cancelled while it waits (R17), or with a termination while it runs (R16). -/
inductive Ending where
  | cancelled (d : CancelDetail)
  | term (w : Term)

/-- The channel state in which a motion can end so. -/
def Ending.state : Ending → ChState
  | .cancelled _ => .pending
  | .term _ => .running

/-- The record of a cancelled channel (R17). -/
def cancelledRec (d : CancelDetail) (q : ChanRec) : ChanRec :=
  clearedRec .idle { q with last := some ⟨.cancelled d, q.owner⟩, completions := satAdd 255 q.completions 1 }

/-- The record that an ending leaves. -/
def Ending.record (s : State) (c : Ch) : Ending → ChanRec → ChanRec
  | .cancelled d => cancelledRec d
  | .term w => stoppedRec s c w

/-- The outside without the channels' records and the start queue: what no ending touches. -/
def fixed (s : State) : State :=
  { outside s with chans := PerCh.all {}, sup := { (outside s).sup with queue := [] } }

/-- A channel that waited in `s` still waits in `t`. -/
def waitsOn (s t : State) (c : Ch) : Bool := (chanOf s c).state != .pending || (chanOf t c).state == .pending

theorem waitsOn_iff (s t : State) (c : Ch) :
    waitsOn s t c = true ↔ ((chanOf s c).state = .pending → (chanOf t c).state = .pending) := by
  simp [waitsOn, imp_iff_not_or]

theorem waitsOn_of_same {s t : State} {c : Ch} (h : (chanOf t c).state = (chanOf s c).state) : waitsOn s t c = true := by
  simp [waitsOn_iff, h]

/-- Between `s` and `t` channels have ended as `p` allows, each once, and nothing else outside the jobs' work has changed. -/
structure Ends (p : Ch → Ending → Prop) (s t : State) : Prop where
  fixed : fixed t = fixed s
  each : ∀ c, chanOf t c = chanOf s c ∨
    ∃ x, p c x ∧ (chanOf s c).state = x.state ∧ chanOf t c = x.record s c (chanOf s c)
  queue : t.sup.queue = s.sup.queue.filter (fun e => waitsOn s t e.ch)
  clean : ∀ c, s.present c = true → runningOrStopping s c = true → t.store.markerClean = s.store.markerClean

/-- What reads the same from a state and from its fixed part is common to states of one fixed part. -/
theorem of_fixed {β : Type} {s t : State} (p : State → β) (hp : ∀ x, p (Machine.fixed x) = p x)
    (h : Machine.fixed t = Machine.fixed s) : p t = p s := by
  rw [← hp t, h, hp s]

section
variable {p : Ch → Ending → Prop} {s t : State} (h : Ends p s t)
include h

theorem Ends.now : t.now = s.now := of_fixed State.now (fun _ => rfl) h.fixed
theorem Ends.cfg : t.store.cfg = s.store.cfg := of_fixed (fun x => x.store.cfg) (fun _ => rfl) h.fixed
theorem Ends.present : t.present = s.present := of_fixed State.present (fun _ => rfl) h.fixed
theorem Ends.power : t.power = s.power := of_fixed State.power (fun _ => rfl) h.fixed
theorem Ends.term : t.term = s.term := of_fixed State.term (fun _ => rfl) h.fixed
theorem Ends.resv : t.mon.resv = s.mon.resv := of_fixed (fun x => x.mon.resv) (fun _ => rfl) h.fixed
theorem Ends.holder : t.man.pump.holder = s.man.pump.holder :=
  of_fixed (fun x => x.man.pump.holder) (fun _ => rfl) h.fixed
theorem Ends.dir : t.man.pump.dir = s.man.pump.dir := of_fixed (fun x => x.man.pump.dir) (fun _ => rfl) h.fixed
theorem Ends.dirValve : t.man.dirValve = s.man.dirValve := of_fixed (fun x => x.man.dirValve) (fun _ => rfl) h.fixed

theorem Ends.record_eq (c : Ch) (x : Ending) : x.record t c = x.record s c := by
  have i : stopInterval t c = stopInterval s c := of_fixed (fun y => stopInterval y c) (fun _ => rfl) h.fixed
  cases x with
  | cancelled d => rfl
  | term w =>
    funext q
    simp [Ending.record, stoppedRec, h.now, i]

/-- A channel that no ending is allowed keeps its record. -/
theorem Ends.other (c : Ch) (n : ∀ x, p c x → (chanOf s c).state ≠ x.state) : chanOf t c = chanOf s c := by
  obtain e | ⟨x, hx, st, -⟩ := h.each c
  · exact e
  · exact absurd st (n x hx)

/-- A channel that neither waits nor runs keeps its record. -/
theorem Ends.resting (c : Ch) (np : (chanOf s c).state ≠ .pending) (nr : (chanOf s c).state ≠ .running) :
    chanOf t c = chanOf s c :=
  h.other c fun x _ => by cases x <;> simpa [Ending.state]

theorem Ends.mono {q : Ch → Ending → Prop} (w : ∀ c x, p c x → q c x) : Ends q s t where
  fixed := h.fixed
  each c := (h.each c).imp_right fun ⟨x, hx, r⟩ => ⟨x, w c x hx, r⟩
  queue := h.queue
  clean := h.clean

end

/-- A channel has ended in at most one way, and an ended channel cannot end again. -/
theorem Ending.record_state (s : State) (c : Ch) (x : Ending) (q : ChanRec) :
    (x.record s c q).state ≠ .pending ∧ (x.record s c q).state ≠ .running := by
  cases x <;> simp [Ending.record, cancelledRec, clearedRec, stoppedRec]

theorem Ends.of_scope {p : Ch → Ending → Prop} {s t : State} (h : scope t = scope s) : Ends p s t where
  fixed := by
    have o := outside_of_scope h
    simp only [Machine.fixed, o]
  each c := .inl (chanOf_of_outside (outside_of_scope h) c)
  queue := by
    have o := outside_of_scope h
    rw [queue_of_outside o]
    exact (List.filter_eq_self.2 fun e _ => waitsOn_of_same (by rw [chanOf_of_outside o])).symm
  clean c hc hr := markerClean_of_scope h (by
    have busy : (!s.present c || (chanOf s c).state == .idle || (chanOf s c).state == .faulted) = false := by
      simp only [runningOrStopping, Bool.or_eq_true, beq_iff_eq] at hr
      rcases hr with hr | hr <;> simp [hc, hr]
    refine List.all_eq_false.2 ⟨c, ?_, by simp [busy]⟩
    rcases c with _ | r | _
    · decide
    · cases r <;> decide
    · decide)

theorem Ends.refl {p : Ch → Ending → Prop} (s : State) : Ends p s s := .of_scope rfl

theorem Ends.trans {p : Ch → Ending → Prop} {s t u : State} (h : Ends p s t) (k : Ends p t u) : Ends p s u where
  fixed := k.fixed.trans h.fixed
  each c := by
    obtain e | ⟨x, hx, st, e⟩ := h.each c
    · obtain e' | ⟨x, hx, st, e'⟩ := k.each c
      · exact .inl (e'.trans e)
      · exact .inr ⟨x, hx, e ▸ st, by rw [e', e, h.record_eq]⟩
    · have stays := Ending.record_state s c x (chanOf s c)
      rw [← e] at stays
      exact .inr ⟨x, hx, st, (k.resting c stays.1 stays.2).trans e⟩
  queue := by
    rw [k.queue, h.queue, List.filter_filter]
    refine List.filter_congr fun e _ => ?_
    obtain same | ⟨x, -, -, st⟩ := h.each e.ch
    · simp only [waitsOn, same]
      cases (chanOf s e.ch).state <;> simp
    · have stays := Ending.record_state s e.ch x (chanOf s e.ch)
      rw [← st] at stays
      simp [waitsOn, k.resting e.ch stays.1 stays.2, stays.1]
  clean c hc hr := by
    have step : runningOrStopping t c = true := by
      obtain e | ⟨x, -, st, e⟩ := h.each c
      · simpa only [runningOrStopping, e] using hr
      · cases x with
        | cancelled d => simp [runningOrStopping, st, Ending.state] at hr
        | term w => simp [runningOrStopping, e, Ending.record, stoppedRec]
    rw [k.clean c (by rw [h.present]; exact hc) step, h.clean c hc hr]

/-- Endings keep the channels in order. -/
theorem Ends.sound {p : Ch → Ending → Prop} {s t : State} (h : Ends p s t) (ok : s.Sound) : t.Sound := by
  obtain ⟨⟨nodup, queued, absent, rest, start⟩, live⟩ := ok
  have live' : t.power.startingUp = false := by rw [h.power]; exact live
  have cases_state : ∀ c, (chanOf t c).state = (chanOf s c).state ∨
      ((chanOf s c).state = .pending ∧ (chanOf t c).state = .idle) ∨
      ((chanOf s c).state = .running ∧ (chanOf t c).state = .stopping) := by
    intro c
    obtain e | ⟨x, -, st, e⟩ := h.each c
    · exact .inl (by rw [e])
    · cases x with
      | cancelled d => exact .inr (.inl ⟨st, by rw [e]; rfl⟩)
      | term w => exact .inr (.inr ⟨st, by rw [e]; rfl⟩)
  have sub : t.sup.queue.Sublist s.sup.queue := by
    rw [h.queue]
    exact List.filter_sublist
  refine ⟨⟨nodup.sublist (sub.map _), fun c => ?_, fun c hc => ?_, fun hp c => ?_, fun hs => ?_⟩, live'⟩
  · have mem : c ∈ (view t).queue ↔ c ∈ (view s).queue ∧
        ((chanOf s c).state = .pending → (chanOf t c).state = .pending) := by
      simp only [view, h.queue, List.mem_map, List.mem_filter]
      constructor
      · rintro ⟨e, ⟨m, k⟩, rfl⟩
        exact ⟨⟨e, m, rfl⟩, (waitsOn_iff s t e.ch).1 k⟩
      · rintro ⟨⟨e, m, rfl⟩, k⟩
        exact ⟨e, ⟨m, (waitsOn_iff s t e.ch).2 k⟩, rfl⟩
    have q : c ∈ (view s).queue ↔ (chanOf s c).state = .pending := queued c
    rw [mem, q]
    change _ ↔ (chanOf t c).state = .pending
    rcases cases_state c with e | ⟨e, e'⟩ | ⟨e, e'⟩ <;> simp [*]
  · have i : (chanOf s c).state = .idle := absent c (by
      rw [← hc]
      exact (congrFun h.present c).symm)
    rcases cases_state c with e | ⟨e, -⟩ | ⟨e, -⟩
    · exact e.trans i
    · simp [i] at e
    · simp [i] at e
  · have r : (chanOf s c).state = .idle ∨ (chanOf s c).state = .faulted := rest (fun e => hp ((congrArg Power.state h.power).trans e)) c
    change (chanOf t c).state = .idle ∨ (chanOf t c).state = .faulted
    rcases cases_state c with e | ⟨e, -⟩ | ⟨e, -⟩
    · rwa [e]
    · simp [e] at r
    · simp [e] at r
  · exact absurd hs (by simp [view, live'])

/-! ### Cancellations (R17) -/

/-- Everything that a cancellation can change. -/
theorem cancel_frame (c : Ch) (d : CancelDetail) (s : State) :
    cancel c d s = { s with
      chans := (cancel c d s).chans, sup := (cancel c d s).sup, mon := (cancel c d s).mon
      link := { s.link with reports := (cancel c d s).link.reports } } := by
  have idle : ∀ u : State, entersIdle c u = { u with mon := (entersIdle c u).mon, sup := (entersIdle c u).sup } := by
    intro u
    unfold entersIdle
    simp only []
    split
    · rw [examineLatchesOf_frame]
      rfl
    · exact examineLatchesOf_frame c u
  unfold cancel
  split
  · rw [idle, signal_frame]
    rfl
  · rfl

/-- The outside after a cancellation of a PENDING channel: out of the queue, with the record of R17. -/
theorem outside_cancel (c : Ch) (d : CancelDetail) (s : State) (h : (chanOf s c).state = .pending) :
    outside (cancel c d s) =
      outside (modChan c (cancelledRec d) (modSup (fun u => { u with queue := u.queue.filter (fun e => e.ch != c) }) s)) := by
  unfold cancel
  rw [if_pos h, outside_of_scope (scope_entersIdle c _), outside_of_scope (scope_signal _ _)]
  rfl

theorem chanOf_cancel_self (c : Ch) (d : CancelDetail) (s : State) (h : (chanOf s c).state = .pending) :
    chanOf (cancel c d s) c = cancelledRec d (chanOf s c) := by
  rw [chanOf_of_outside (outside_cancel c d s h), chanOf_modChan_self]
  rfl

theorem chanOf_cancel_ne (c k : Ch) (d : CancelDetail) (s : State) (h : k ≠ c) :
    chanOf (cancel c d s) k = chanOf s k := by
  by_cases p : (chanOf s c).state = .pending
  · rw [chanOf_of_outside (outside_cancel c d s p), chanOf_modChan_ne _ _ _ _ h]
    rfl
  · rw [cancel_of_not_pending c d s p]

theorem ends_cancel {p : Ch → Ending → Prop} (c : Ch) (d : CancelDetail) (s : State) (hp : p c (.cancelled d)) :
    Ends p s (cancel c d s) := by
  by_cases h : (chanOf s c).state = .pending
  · have o := outside_cancel c d s h
    refine ⟨?_, fun k => ?_, ?_, fun _ _ _ => by rw [cancel_frame]⟩
    · simp only [Machine.fixed, o]
      rfl
    · by_cases e : k = c
      · subst e
        exact .inr ⟨_, hp, h, chanOf_cancel_self k d s h⟩
      · exact .inl (chanOf_cancel_ne c k d s e)
    · rw [queue_of_outside o]
      refine List.filter_congr fun e _ => ?_
      by_cases k : e.ch = c
      · simp [waitsOn, k, h, chanOf_cancel_self, cancelledRec, clearedRec]
      · rw [waitsOn_of_same (by rw [chanOf_cancel_ne c e.ch d s k])]
        simpa using k
  · rw [cancel_of_not_pending c d s h]
    exact .refl s

/-! ### Terminations (R16) -/

/-- A channel takes a termination, and nothing else. -/
def stop (c : Ch) (t : Term) (s : State) : State := modChan c (stoppedRec s c t) s

theorem chanOf_stop_self (c : Ch) (t : Term) (s : State) : chanOf (stop c t s) c = stoppedRec s c t (chanOf s c) :=
  chanOf_modChan_self _ _ _

theorem chanOf_stop_ne (c k : Ch) (t : Term) (s : State) (h : k ≠ c) : chanOf (stop c t s) k = chanOf s k :=
  chanOf_modChan_ne _ _ _ _ h

theorem ends_stop {p : Ch → Ending → Prop} (c : Ch) (t : Term) (s : State) (h : isRunning s c = true)
    (hp : p c (.term t)) : Ends p s (stop c t s) where
  fixed := rfl
  each k := by
    by_cases e : k = c
    · subst e
      exact .inr ⟨.term t, hp, beq_iff_eq.1 h, chanOf_stop_self k t s⟩
    · exact .inl (chanOf_stop_ne c k t s e)
  queue := by
    have r : (chanOf s c).state = .running := by simpa [isRunning] using h
    refine (List.filter_eq_self.2 fun e _ => ?_).symm
    by_cases k : e.ch = c
    · simp [waitsOn, k, r]
    · exact waitsOn_of_same (by rw [chanOf_stop_ne c e.ch t s k])
  clean _ _ _ := rfl

/-- What a termination does after the record is written: outputs off, the job block's writes, the pump's stop, the report. -/
theorem scope_endRunning (c : Ch) (t : Term) (w : State → State) (s : State) :
    scope (endRunning c t w s) = scope (w (jobOff c t (stop c t s))) := by
  unfold endRunning
  simp only [scope_signal, apply_ite scope, scope_pumpStop, ite_self]
  rfl

theorem ends_endRunning {p : Ch → Ending → Prop} (c : Ch) (t : Term) (w : State → State) (s : State)
    (h : isRunning s c = true) (hp : p c (.term t)) (hw : Ends p (stop c t s) (w (jobOff c t (stop c t s)))) :
    Ends p s (endRunning c t w s) :=
  (ends_stop c t s h hp).trans (hw.trans (.of_scope (scope_endRunning c t w s)))

/-- The endings that the loss of ALL_ROOMS_IN can bring (R28). -/
def roomsInLostEnds (s : State) (c : Ch) (x : Ending) : Prop :=
  c = .level ∧ chanMotion s .level = some .jackRetract ∧
    (x = .cancelled .interlock ∨ x = .term (.aborted (.item .allRoomsIn)))

theorem ends_roomsInLost (s : State) : Ends (roomsInLostEnds s) s (roomsInLost s) := by
  unfold roomsInLost
  split
  next h =>
    have lost : Ends (roomsInLostEnds s) s (cancel .level .interlock s) :=
      ends_cancel _ _ _ ⟨rfl, h.1, .inl rfl⟩
    simp only []
    split
    next r => exact lost.trans (ends_endRunning _ _ _ _ r ⟨rfl, h.1, .inr rfl⟩ (.of_scope (by simp)))
    next => exact lost
  next => exact .refl s

/-- The endings of a termination of channel `c`: its own, and at a NORMAL end that takes a room's in-switch LEVEL's. -/
def terminateEnds (s : State) (c : Ch) (t : Term) (d : Ch) (x : Ending) : Prop :=
  d = c ∧ x = .term t ∨ t = .normal ∧ (∃ r, c = .room r) ∧ roomsInLostEnds s d x

/-- The motion of a channel other than a room hangs on its record alone. -/
theorem chanMotion_level (s : State) :
    chanMotion s .level = (chanOf s .level).op.bind fun o => motionOf .level o (chanOf s .level).operand .none := by
  unfold chanMotion
  split <;> simp_all

theorem chanMotion_level_congr {s t : State} (h : chanOf t .level = chanOf s .level) :
    chanMotion t .level = chanMotion s .level := by
  rw [chanMotion_level, chanMotion_level, h]

theorem ends_lateSwitch (c : Ch) (t : Term) (s : State) :
    Ends (fun d x => t = .normal ∧ (∃ r, c = .room r) ∧ roomsInLostEnds s d x) s (lateSwitch c t s) := by
  cases c with
  | level => exact .refl s
  | room r =>
    simp only [lateSwitch]
    split
    · split
      next n => exact ((ends_roomsInLost s).mono fun d x h => ⟨n, ⟨r, rfl⟩, h⟩).trans (.of_scope (scope_roomHome r _))
      next => exact .of_scope (scope_roomHome r s)
    · exact .refl s
  | awning =>
    simp only [lateSwitch]
    split
    · exact .of_scope (by simp)
    · exact .refl s

theorem ends_terminateWith (c : Ch) (t : Term) (w : State → State) (s : State) (hw : ∀ u, scope (w u) = scope u) :
    Ends (terminateEnds s c t) s (terminateWith c t w s) := by
  unfold terminateWith
  split
  next h =>
    refine ends_endRunning c t _ s h (.inl ⟨rfl, rfl⟩) ?_
    have work : scope (w (jobOff c t (stop c t s))) = scope (stop c t s) := by rw [hw, scope_jobOff]
    refine (Ends.of_scope work).trans ((ends_lateSwitch c t _).mono ?_)
    rintro d x ⟨n, ⟨r, rfl⟩, rfl, m, k⟩
    have same : chanOf (w (jobOff (.room r) t (stop (.room r) t s))) .level = chanOf s .level := by
      rw [chanOf_of_outside (outside_of_scope work)]
      exact chanOf_stop_ne _ _ _ _ (by simp)
    exact .inr ⟨n, ⟨r, rfl⟩, rfl, (chanMotion_level_congr same) ▸ m, k⟩
  next => exact .refl s

theorem ends_terminate (c : Ch) (t : Term) (s : State) : Ends (terminateEnds s c t) s (terminate c t s) :=
  ends_terminateWith c t _ s (scope_endWrite c t)

theorem ends_fail (c : Ch) (k : FaultKind) (w : Subject) (s : State) :
    Ends (fun d x => d = c ∧ x = .term (.abnormal ⟨k, w⟩)) s (fail c k w s) :=
  (ends_terminate c _ s).mono fun d x h => h.resolve_right fun n => by simp at n

/-- A motion that stops on its channel's behalf: no other channel ends, but at a NORMAL end. -/
theorem ends_endMotion (c : Ch) (d : CancelDetail) (t : Term) (s : State) (n : t ≠ .normal) :
    Ends (fun k x => k = c ∧ (x = .cancelled d ∨ x = .term t)) s (endMotion c d t s) :=
  (ends_cancel c d s ⟨rfl, .inl rfl⟩).trans
    ((ends_terminate c t _).mono fun _ _ h => (h.resolve_right fun k => n k.1).imp_right .inr)

end Sys2Proof.Machine
end

section
/-! PROOF. Which motions the job blocks can end: the engine LEVEL's, a room its own and at a NORMAL end LEVEL's, the awning its
own. -/

namespace Sys2Proof.Machine

/-- Work first, endings after. -/
theorem Ends.after {p : Ch → Ending → Prop} {s t u : State} (h : scope t = scope s) (k : Ends p t u) : Ends p s u :=
  (Ends.of_scope h).trans k

/-- Only the channel's own motion ends. -/
def onlyChan (c d : Ch) (_ : Ending) : Prop := d = c

/-! ### The levelling engine -/

theorem ends_terminate_level (t : Term) (s : State) : Ends (onlyChan .level) s (terminate .level t s) :=
  (ends_terminate .level t s).mono fun d x h => by
    rcases h with ⟨e, -⟩ | ⟨-, ⟨r, e⟩, -⟩
    · exact e
    · cases e

theorem ends_fail_level (k : FaultKind) (w : Subject) (s : State) : Ends (onlyChan .level) s (fail .level k w s) :=
  ends_terminate_level _ s

theorem ends_levelSensorLoss (w : Subject) (s : State) : Ends (onlyChan .level) s (levelSensorLoss w s) := by
  unfold levelSensorLoss
  split
  · exact .after (scope_closeJacksCmd _ s) (ends_fail_level _ _ _)
  · exact .refl s

theorem ends_endTrim (s : State) : Ends (onlyChan .level) s (endTrim s) := by
  unfold endTrim
  simp only []
  split
  · exact ends_fail_level _ _ s
  · exact .after (by simp) (ends_terminate_level _ _)

theorem ends_midTest (s : State) : Ends (onlyChan .level) s (midTest s) := by
  unfold midTest
  simp only []
  generalize (if s.store.cfg.jackCount = 6 then _ else _ : List Jack) = l
  split
  · exact .of_scope (scope_startStep _ s)
  · exact ends_endTrim s

theorem ends_trimTest (s : State) : Ends (onlyChan .level) s (trimTest s) := by
  unfold trimTest
  simp only []
  generalize (if s.lev.cornerDone = true then _ else _ : List Jack) = l
  split
  · exact .of_scope (scope_startStep _ s)
  · exact .after (scope_modLev _ s) (ends_midTest _)

theorem ends_enterTrim (o : PlanOutcome) (s : State) : Ends (onlyChan .level) s (enterTrim o s) :=
  .after (by simp) (ends_trimTest _)

theorem ends_startSettle (s : State) : Ends (onlyChan .level) s (startSettle s) := by
  unfold startSettle
  simp only []
  split
  · exact .of_scope (scope_modLev _ s)
  · exact .after (scope_modLev _ s) (ends_levelSensorLoss _ _)

theorem ends_enterMeasure (s : State) : Ends (onlyChan .level) s (enterMeasure s) := by
  unfold enterMeasure
  simp only []
  split
  · refine .of_scope ?_
    simp only [scope_pumpOnCmd, scope_openJacksCmd]
    exact (scope_foldl (fun t j => modJack j _ t) (fun _ _ => by rfl) _ _).trans (scope_modLev _ s)
  · exact .after (scope_modLev _ s) (ends_startSettle _)

theorem ends_enterLift (l : List PlanLift) (s : State) : Ends (onlyChan .level) s (enterLift l s) := by
  have lifts : ∀ u : State, scope (l.foldl (fun t p => modJack p.jack (fun q => { q with
      lift := some p.lift, target := some p.target, close := none }) t) u) = scope u :=
    fun u => scope_foldl _ (fun _ _ => by rfl) l u
  unfold enterLift
  simp only []
  split
  · refine .of_scope ?_
    simp only [scope_pumpOnCmd, scope_openJacksCmd, lifts, scope_modLev]
  · refine .after ?_ (ends_enterMeasure _)
    simp only [scope_clearLifts, lifts, scope_modLev]

theorem ends_makePlan (g : Grad) (sat : Bool) (s : State) : Ends (onlyChan .level) s (makePlan g sat s) := by
  unfold makePlan
  simp only []
  split
  · exact .after (scope_modLev _ s) (ends_fail_level _ _ _)
  split
  · exact .after (scope_modLev _ s) (ends_fail_level _ _ _)
  split
  · exact .after (scope_modLev _ s) (ends_fail_level _ _ _)
  split
  · exact .after (scope_modLev _ s) (ends_enterTrim _ _)
  split
  · exact .after (by simp) (ends_enterTrim _ _)
  · exact .after (by simp) (ends_enterLift _ _)

theorem ends_enterSettle (s : State) : Ends (onlyChan .level) s (enterSettle s) :=
  .after (scope_modLev _ s) (ends_startSettle _)

theorem ends_enterGround (s : State) : Ends (onlyChan .level) s (enterGround s) := by
  unfold enterGround
  simp only []
  split
  · exact .after (scope_modLev _ s) (ends_levelSensorLoss _ _)
  · have marks : ∀ (f : Jack → JackRec → JackRec) (l : List Jack) (u : State),
        scope (l.foldl (fun t j => modJack j (f j) t) u) = scope u :=
      fun f l u => scope_foldl _ (fun _ _ => by rfl) l u
    split
    · exact .after ((marks _ _ _).trans (scope_modLev _ s)) (ends_enterSettle _)
    · refine .of_scope ?_
      simp only [scope_pumpOnCmd, scope_openJacksCmd]
      exact (marks _ _ _).trans (scope_modLev _ s)

theorem ends_groundReact (s : State) : Ends (onlyChan .level) s (groundReact s) := by
  unfold groundReact
  simp only []
  split
  · exact .after (by simp) (ends_fail_level _ _ _)
  · split
    · exact .after (by simp) (ends_enterSettle _)
    · exact .of_scope (by simp)

theorem ends_regroundReact (s : State) : Ends (onlyChan .level) s (regroundReact s) := by
  unfold regroundReact
  simp only []
  split
  · exact .after (by simp) (ends_fail_level _ _ _)
  · split
    · exact .after (by simp) (ends_startSettle _)
    · exact .of_scope (by simp)

theorem ends_liftReact (s : State) : Ends (onlyChan .level) s (liftReact s) := by
  have closes : scope ((presentJacks s).foldl (fun t j =>
      if valveOpen t j && !belowTarget t j then
        closeJack j t |> modJack j (fun q => { q with close := some q.stroke })
      else t) s) = scope s :=
    scope_foldl _ (fun t j => by split <;> simp) _ s
  unfold liftReact
  simp only []
  split
  · refine .after ?_ (ends_enterMeasure _)
    rw [scope_clearLifts, scope_levelPumpOff, closes]
  · exact .of_scope closes

theorem scope_trimReact (s : State) : scope (trimReact s) = scope s := by
  have closes : ∀ (l : List Jack), scope (l.foldl (fun t j =>
      match (jackOf t j).stepTarget with
      | some g => if valveOpen t j && g ≤ (jackOf t j).stroke then closeJack j t else t
      | none => t) s) = scope s := fun l =>
    scope_foldl _ (fun t j => by
      split
      · split <;> simp
      · rfl) l s
  unfold trimReact
  simp only []
  split
  · rw [scope_modLev]
    exact (scope_foldl _ (fun _ _ => by rfl) _ _).trans ((scope_levelPumpOff _).trans (closes _))
  · exact closes _

theorem ends_enterStow (s : State) : Ends (onlyChan .level) s (enterStow s) := by
  unfold enterStow
  simp only []
  split
  · exact .after (scope_modLev _ s) (ends_terminate_level _ _)
  · exact .of_scope (by simp)

theorem ends_stowReact (s : State) : Ends (onlyChan .level) s (stowReact s) := by
  unfold stowReact
  simp only []
  split
  · exact .after (by simp) (ends_terminate_level _ _)
  · exact .of_scope (by simp)

theorem ends_enterJog (v : Nat) (s : State) : Ends (onlyChan .level) s (enterJog v s) := by
  unfold enterJog
  simp only []
  split
  · exact .after (scope_modLev _ s) (ends_terminate_level _ _)
  · have jogged : ∀ (l : List Jack) (u : State),
        scope (l.foldl (fun t j => modJack j (fun q => { q with jogged := true }) t) u) = scope u :=
      fun l u => scope_foldl _ (fun _ _ => by rfl) l u
    split
    · exact .of_scope (by simp only [jogged, scope_openJacksCmd, scope_modLev])
    · exact .of_scope (by simp only [scope_pumpOnCmd, jogged, scope_openJacksCmd, scope_modLev])

theorem ends_jogReact (s : State) : Ends (onlyChan .level) s (jogReact s) := by
  unfold jogReact
  simp only []
  split
  · exact .after (by simp) (ends_terminate_level _ _)
  · exact .of_scope (by simp)

theorem ends_levelReact (s : State) : Ends (onlyChan .level) s (levelReact s) := by
  unfold levelReact
  split
  · split
    · exact ends_groundReact s
    · exact ends_liftReact s
    · split
      · exact ends_regroundReact s
      · exact .refl s
    · split
      · exact .of_scope (scope_trimReact s)
      · exact .refl s
    · exact ends_stowReact s
    · exact ends_jogReact s
    · exact .refl s
  · exact .refl s

theorem ends_levelBegin (o : Op) (v : Nat) (s : State) : Ends (onlyChan .level) s (levelBegin o v s) := by
  have grounds : ∀ u : State,
      scope (allJacks.foldl (fun t j => modJack j (fun q => { q with ground := none }) t) u) = scope u :=
    fun u => scope_foldl _ (fun _ _ => by rfl) allJacks u
  unfold levelBegin
  extract_lets s1 s2 s3
  have start : scope s3 = scope s := by
    have rest : scope s1 = scope s := scope_setLevelStatus _ s
    clear_value s1
    rw [← rest]
    simp only [s3, scope_modLev]
    cases o with
    | stow => exact grounds _
    | _ => rfl
  clear_value s3
  split
  · exact .after start (ends_enterStow s3)
  · exact .after start (ends_enterJog v s3)
  · exact .after start (ends_enterGround s3)

/-! ### Rooms -/

/-- The endings of room drive: the room's own, and LEVEL's where ALL_ROOMS_IN is lost on the way (R28). -/
def roomDriveEnds (s : State) (r : Room) (d : Ch) (x : Ending) : Prop := d = .room r ∨ roomsInLostEnds s d x

/-- LEVEL's motion after endings is the one it had, as an ended one keeps its operation and a cancelled one has none. -/
theorem Ends.chanMotion_level {p : Ch → Ending → Prop} {s t : State} (h : Ends p s t) (m : Motion)
    (hm : chanMotion t .level = some m) : chanMotion s .level = some m := by
  obtain e | ⟨x, -, -, e⟩ := h.each .level
  · rwa [chanMotion_level_congr e] at hm
  · rw [Machine.chanMotion_level, e] at hm
    rw [Machine.chanMotion_level]
    cases x with
    | cancelled d => simp [Ending.record, cancelledRec, clearedRec] at hm
    | term w => simpa [Ending.record, stoppedRec] using hm

theorem Ends.roomsInLostEnds {p : Ch → Ending → Prop} {s t : State} (h : Ends p s t) {d : Ch} {x : Ending}
    (k : roomsInLostEnds t d x) : roomsInLostEnds s d x :=
  ⟨k.1, h.chanMotion_level _ k.2.1, k.2.2⟩

/-- A step of room drive after others. -/
theorem Ends.thenRoom {r : Room} {s t u : State} (h : Ends (roomDriveEnds s r) s t) (k : Ends (roomDriveEnds t r) t u) :
    Ends (roomDriveEnds s r) s u :=
  h.trans (k.mono fun _ _ x => x.imp_right h.roomsInLostEnds)

theorem Ends.afterRoom {r : Room} {s t u : State} (h : scope t = scope s) (k : Ends (roomDriveEnds t r) t u) :
    Ends (roomDriveEnds s r) s u :=
  (Ends.of_scope h).thenRoom k

theorem ends_room_terminateWith (r : Room) (t : Term) (w : State → State) (s : State) (hw : ∀ u, scope (w u) = scope u) :
    Ends (roomDriveEnds s r) s (terminateWith (.room r) t w s) :=
  (ends_terminateWith _ t w s hw).mono fun _ _ h => h.imp (fun x => x.1) (fun x => x.2.2)

theorem ends_room_terminate (r : Room) (t : Term) (s : State) : Ends (roomDriveEnds s r) s (terminate (.room r) t s) :=
  ends_room_terminateWith r t _ s (scope_endWrite _ t)

theorem ends_room_fail (r : Room) (k : FaultKind) (w : Subject) (s : State) :
    Ends (roomDriveEnds s r) s (fail (.room r) k w s) :=
  ends_room_terminate r _ s

theorem ends_hydraulicBegin (r : Room) (o : Op) (s : State) : Ends (roomDriveEnds s r) s (hydraulicBegin r o s) := by
  unfold hydraulicBegin
  extract_lets s1
  have part : scope s1 = scope s := by
    simp only [s1, apply_ite scope, scope_setRoomStat, ite_self]
  clear_value s1
  split
  · have lost : Ends (roomDriveEnds s1 r) s1 (roomsInLost s1) := (ends_roomsInLost s1).mono fun _ _ => .inr
    exact .afterRoom part (lost.thenRoom (ends_room_fail r _ _ _))
  · exact .of_scope (by rw [scope_pumpOnCmd, scope_openRoomValve, part])

theorem ends_arriveOnTarget (r : Room) (s : State) : Ends (roomDriveEnds s r) s (arriveOnTarget r s) :=
  .afterRoom (scope_modRoom r _ s) (ends_room_terminate r _ _)

theorem ends_beginAutoExtend (r : Room) (n : Int) (s : State) : Ends (roomDriveEnds s r) s (beginAutoExtend r n s) := by
  have targets : ∀ (f : Side → EndRec → EndRec) (l : List Side) (u : State),
      scope (l.foldl (fun t e => modEnd r e (f e) t) u) = scope u := fun f l u => scope_foldl _ (fun _ _ => by rfl) l u
  unfold beginAutoExtend
  simp only []
  split
  · exact .afterRoom (targets _ _ s) (ends_arriveOnTarget r _)
  · exact .of_scope ((scope_driveEnds _ _ _ _).trans (targets _ _ s))

theorem ends_roomBegin (r : Room) (o : Op) (s : State) : Ends (roomDriveEnds s r) s (roomBegin r o s) := by
  unfold roomBegin
  extract_lets z s1 w s2
  have start : scope s1 = scope s := by simp [s1]
  have search : scope s2 = scope s1 := by simp [s2, apply_ite scope]
  clear_value s1 s2 w
  split
  · split
    · exact .afterRoom start (ends_room_terminateWith r w _ s1 (scope_setRoomStat r _ _))
    · exact .afterRoom start (ends_room_terminate r w s1)
  · split
    · split
      · exact .afterRoom start (ends_beginAutoExtend r _ s1)
      · exact .of_scope ((scope_driveEnds _ _ _ s1).trans start)
    · exact .of_scope ((scope_driveEnds _ _ _ s1).trans start)
    · split
      · exact .afterRoom start (ends_room_terminate r _ s1)
      · exact .of_scope ((scope_driveEnds _ _ _ s2).trans (search.trans start))

theorem ends_targetCheck (r : Room) (e : Side) (s : State) : Ends (roomDriveEnds s r) s (targetCheck r e s) := by
  unfold targetCheck
  simp only []
  split
  · split
    · split
      · exact .afterRoom (by simp) (ends_arriveOnTarget r _)
      · split <;> exact .of_scope (by simp)
    · exact .refl s
  · exact .refl s

theorem ends_rangeCheck (r : Room) (s : State) : Ends (roomDriveEnds s r) s (rangeCheck r s) := by
  unfold rangeCheck
  simp only []
  split
  · exact ends_room_fail r _ _ s
  · split
    · exact ends_room_fail r _ _ s
    · exact .refl s

theorem ends_afterCount (r : Room) (e : Side) (s : State) : Ends (roomDriveEnds s r) s (afterCount r e s) := by
  unfold afterCount
  simp only []
  split
  · exact .refl s
  split
  · exact ends_room_fail r _ _ s
  split
  · exact ends_targetCheck r e s
  · exact ((ends_targetCheck r e s).thenRoom (.of_scope (scope_syncCheck r _))).thenRoom (ends_rangeCheck r _)

theorem ends_roomPulse (r : Room) (e : Side) (s : State) : Ends (roomDriveEnds s r) s (roomPulse r e s) := by
  unfold roomPulse
  split
  · exact .afterRoom (by simp) (ends_afterCount r e _)
  · exact .refl s

theorem ends_roomLateExpiry (r : Room) (e : Side) (s : State) : Ends (roomDriveEnds s r) s (roomLateExpiry r e s) := by
  unfold roomLateExpiry
  split
  · exact .afterRoom (by simp) (ends_afterCount r e _)
  · exact ends_room_fail r _ _ s

theorem ends_roomStalled (r : Room) (e : Side) (s : State) : Ends (roomDriveEnds s r) s (roomStalled r e s) := by
  unfold roomStalled learnOutStall
  split
  · split
    · split
      · exact ends_room_terminate r _ s
      · exact ends_room_fail r _ _ s
    · exact ends_room_terminate r _ s
  · split
    · simp only []
      split
      · exact ends_room_fail r _ _ s
      · exact .of_scope (by simp)
    · exact ends_room_fail r _ _ s
  · exact ends_room_fail r _ _ s

theorem ends_hydraulicArrive (r : Room) (s : State) : Ends (roomDriveEnds s r) s (hydraulicArrive r s) := by
  unfold hydraulicArrive
  simp only []
  split
  · exact ends_room_terminateWith r _ _ s (fun u => scope_setRoomStat r _ _ u)
  · exact ends_room_terminateWith r _ _ s (fun u => scope_setRoomStat r _ _ u)

/-! ### The awning -/

theorem ends_awning_terminateWith (t : Term) (w : State → State) (s : State) (hw : ∀ u, scope (w u) = scope u) :
    Ends (onlyChan .awning) s (terminateWith .awning t w s) :=
  (ends_terminateWith .awning t w s hw).mono fun d x h => by
    rcases h with ⟨e, -⟩ | ⟨-, ⟨r, e⟩, -⟩
    · exact e
    · cases e

theorem ends_awning_terminate (t : Term) (s : State) : Ends (onlyChan .awning) s (terminate .awning t s) :=
  ends_awning_terminateWith t _ s (scope_endWrite _ t)

theorem ends_awning_fail (k : FaultKind) (w : Subject) (s : State) : Ends (onlyChan .awning) s (fail .awning k w s) :=
  ends_awning_terminate _ s

theorem ends_awningArrive (v : Pos) (s : State) : Ends (onlyChan .awning) s (awningArrive v s) :=
  ends_awning_terminateWith _ _ s (fun u => scope_setAwnStat v _ u)

theorem ends_awningBegin (o : Op) (v : Nat) (s : State) : Ends (onlyChan .awning) s (awningBegin o v s) := by
  unfold awningBegin
  extract_lets s1 s2
  have start : scope s1 = scope s := scope_modAwn _ s
  clear_value s1
  split
  · split
    · exact .of_scope ((scope_driveAwning _ s1).trans start)
    · split
      · exact .after start (.after (scope_modAwn _ s1) (ends_awning_terminateWith _ _ s2 (fun _ => rfl)))
      · exact .of_scope ((scope_driveAwning _ s2).trans start)
  · split
    · exact .after start (ends_awning_terminate _ s1)
    · refine .of_scope ?_
      rw [scope_driveAwning, apply_ite scope, scope_modAwn, ite_self, start]

theorem ends_afterAwnCount (s : State) : Ends (onlyChan .awning) s (afterAwnCount s) := by
  unfold afterAwnCount
  split
  · exact .refl s
  split
  · split
    · split
      · exact .after (by simp) (ends_awningArrive _ _)
      · exact .refl s
    · exact .refl s
  split
  · exact ends_awning_fail _ _ s
  · exact .refl s

theorem ends_awningPulse (s : State) : Ends (onlyChan .awning) s (awningPulse s) := by
  unfold awningPulse
  split
  · exact .after (by simp) (ends_afterAwnCount _)
  · exact .refl s

theorem ends_awningLateExpiry (s : State) : Ends (onlyChan .awning) s (awningLateExpiry s) := by
  unfold awningLateExpiry
  split
  · exact .after (by simp) (ends_afterAwnCount _)
  · exact ends_awning_fail _ _ s

theorem ends_awningSwitch (v : Bool) (s : State) : Ends (onlyChan .awning) s (awningSwitch v s) := by
  unfold awningSwitch
  simp only []
  split
  · exact .of_scope (scope_modAwn _ s)
  split
  · split <;> exact .of_scope (by simp)
  split
  · split
    · exact .of_scope (by simp)
    · exact .after (scope_modAwn _ s) (ends_awning_terminate _ _)
  · exact .of_scope (by simp)

end Sys2Proof.Machine
end

section
/-! PROOF. The supervisor's own operations: the interlock sweep, the acceptance of a START, admission, the scan, the protective
retract and what settles a step. Each keeps the channels in order and leaves what no motion touches. -/

namespace Sys2Proof.Machine

/-- The state without what motions and the supervisor write: what the end of a step leaves as it was, but for alerts, outputs,
the transmitter and the job that begins. -/
def kept (s : State) : State :=
  { fixed s with man := {}, mon := { (fixed s).mon with resv := PerCh.all none } }

/-- From `s` to `t` nothing outside motions has changed, and the channels stay in order. -/
structure Steady (s t : State) : Prop where
  kept : kept t = kept s
  sound : s.Sound → t.Sound

theorem Steady.refl (s : State) : Steady s s := ⟨rfl, id⟩

theorem Steady.trans {s t u : State} (h : Steady s t) (k : Steady t u) : Steady s u :=
  ⟨k.kept.trans h.kept, fun ok => k.sound (h.sound ok)⟩

theorem Ends.steady {p : Ch → Ending → Prop} {s t : State} (h : Ends p s t) : Steady s t :=
  ⟨by simp only [Machine.kept, h.fixed], h.sound⟩

theorem Steady.of_outside {s t : State} (h : outside t = outside s) : Steady s t :=
  ⟨by simp only [Machine.kept, fixed, h], Sound_of_view (view_of_outside h)⟩

theorem Steady.of_scope {s t : State} (h : scope t = scope s) : Steady s t := .of_outside (outside_of_scope h)

theorem Steady.foldl {α : Type} (f : State → α → State) (h : ∀ t a, Steady t (f t a)) (l : List α) (s : State) :
    Steady s (l.foldl f s) := by
  induction l generalizing s with
  | nil => exact .refl s
  | cons a l ih => exact (h s a).trans (ih (f s a))

/-! ### The interlock sweep (R28) -/

theorem Ends.foldl {α : Type} {p : Ch → Ending → Prop} (f : State → α → State) (l : List α)
    (h : ∀ t, ∀ a ∈ l, Ends p t (f t a)) (s : State) : Ends p s (l.foldl f s) := by
  induction l generalizing s with
  | nil => exact .refl s
  | cons a l ih =>
    exact (h s a List.mem_cons_self).trans (ih (fun t b hb => h t b (List.mem_cons_of_mem a hb)) (f s a))

/-- The endings of the interlock evaluation: INTERLOCK or ABORTED, for the first unsatisfied item of a channel's row. -/
def sweepEnds (s : State) (c : Ch) (x : Ending) : Prop :=
  ∃ i, chanUnsat s c = some i ∧ (x = .cancelled .interlock ∨ x = .term (.aborted (.item i)))

theorem mem_allChs (c : Ch) : c ∈ allChs := by
  rcases c with _ | r | _
  · decide
  · cases r <;> decide
  · decide

theorem mem_interlockBreaks (s : State) (c : Ch) (i : Item) :
    (c, i) ∈ interlockBreaks s ↔
      ((chanOf s c).state = .pending ∨ (chanOf s c).state = .running) ∧ chanUnsat s c = some i := by
  simp only [interlockBreaks, List.mem_filterMap]
  constructor
  · rintro ⟨d, -, h⟩
    split at h
    next m =>
      obtain ⟨j, hj, e⟩ := Option.map_eq_some_iff.1 h
      obtain ⟨rfl, rfl⟩ := Prod.mk.inj e
      exact ⟨m, hj⟩
    next => cases h
  · rintro ⟨m, h⟩
    exact ⟨c, mem_allChs c, by simp [m, h]⟩

theorem ends_sweep (s : State) : Ends (sweepEnds s) s (sweep s) := by
  refine Ends.foldl _ _ (fun t a ha => ?_) s
  obtain ⟨-, hi⟩ := (mem_interlockBreaks s a.1 a.2).1 ha
  refine (ends_endMotion a.1 .interlock (.aborted (.item a.2)) t (by simp)).mono ?_
  rintro c x ⟨rfl, hx⟩
  exact ⟨a.2, hi, hx⟩

/-! ### START (R4, R5, R6) -/

/-- The record that an acceptance writes (R5). -/
def acceptedRec (s : State) (c : Ch) (o : Op) (hold : Bool) (v : Nat) (w : Owner) (cause : Option AutoCause)
    (q : ChanRec) : ChanRec :=
  { q with
    state := .pending, op := some o, operand := acceptedOperand s c o v, owner := some w, waiting := none,
    hold := hold, deadline := if hold then s.now + s.store.cfg.holdWindow else 0, autoCause := cause }

theorem outside_accept (c : Ch) (o : Op) (hold : Bool) (v : Nat) (w : Owner) (cause : Option AutoCause) (s : State) :
    outside (accept c o hold v w cause s) =
      outside (modSup (fun u => { u with queue := u.queue ++ [⟨c, s.now⟩] })
        (modChan c (acceptedRec s c o hold v w cause) s)) := by
  unfold accept
  simp only [outside_of_scope (scope_signal _ _), apply_ite outside]
  split <;> rfl

theorem chanOf_accept_self (c : Ch) (o : Op) (hold : Bool) (v : Nat) (w : Owner) (cause : Option AutoCause) (s : State) :
    chanOf (accept c o hold v w cause s) c = acceptedRec s c o hold v w cause (chanOf s c) := by
  rw [chanOf_of_outside (outside_accept c o hold v w cause s)]
  exact chanOf_modChan_self c _ s

theorem chanOf_accept_ne (c d : Ch) (o : Op) (hold : Bool) (v : Nat) (w : Owner) (cause : Option AutoCause) (s : State)
    (h : d ≠ c) : chanOf (accept c o hold v w cause s) d = chanOf s d := by
  rw [chanOf_of_outside (outside_accept c o hold v w cause s)]
  exact chanOf_modChan_ne c d _ s h

theorem view_accept (c : Ch) (o : Op) (hold : Bool) (v : Nat) (w : Owner) (cause : Option AutoCause) (s : State) :
    view (accept c o hold v w cause s) = (view s).join c := by
  rw [view_of_outside (outside_accept c o hold v w cause s)]
  have m := view_modChan c (acceptedRec s c o hold v w cause) s
  have q : view (modSup (fun u => { u with queue := u.queue ++ [⟨c, s.now⟩] })
      (modChan c (acceptedRec s c o hold v w cause) s)) =
      { view (modChan c (acceptedRec s c o hold v w cause) s) with queue := (view s).queue ++ [c] } := by
    simp only [view, modSup_sup, modChan_sup, List.map_append, List.map_cons, List.map_nil]
    rfl
  rw [q, m]
  rfl

theorem steady_accept (c : Ch) (o : Op) (hold : Bool) (v : Nat) (w : Owner) (cause : Option AutoCause) (s : State)
    (idle : (chanOf s c).state = .idle) (here : s.present c = true) (run : s.power.state = .run) :
    Steady s (accept c o hold v w cause s) where
  kept := by
    simp only [Machine.kept, fixed, outside_accept]
    rfl
  sound ok := by
    refine ⟨?_, ?_⟩
    · rw [view_accept]
      exact ok.1.join c idle here run ok.2
    · rw [power_of_outside (outside_accept c o hold v w cause s)]
      exact ok.2

/-- What a START does beside its answer: nothing, a deferred start, the zero capture, or an acceptance of an IDLE channel that is
present in RUN. -/
theorem startMotion_cases (c : Ch) (o : Op) (hold : Bool) (v : Nat) (w : Owner) (cause : Option AutoCause) (s : State) :
    (startMotion c o hold v w cause s).2 = s ∨
    w = .automatic ∧
      startMotion c o hold v w cause s = (.deferred, modChan c (fun q => { q with deferred := some ⟨o, cause⟩ }) s) ∨
    o = .captureZero ∧ (chanOf s c).state = .idle ∧ startMotion c o hold v w cause s = (.ok, captureZero s) ∨
    (chanOf s c).state = .idle ∧ s.present c = true ∧ s.power.state = .run ∧ o ≠ .captureZero ∧
      startMotion c o hold v w cause s = (.accepted, accept c o hold v w cause s) := by
  unfold startMotion
  simp only []
  split
  · exact .inl rfl
  next run =>
  split
  · exact .inl rfl
  next here =>
  split
  · exact .inl rfl
  split
  · exact .inl rfl
  split
  · exact .inl rfl
  split
  next auto => exact .inr (.inl ⟨auto.2, rfl⟩)
  split
  · exact .inl rfl
  next idle =>
  split
  next z =>
    split
    · exact .inl rfl
    · exact .inr (.inr (.inl ⟨z, not_not.1 idle, rfl⟩))
  next nz =>
    split
    · exact .inl rfl
    · exact .inr (.inr (.inr ⟨not_not.1 idle, by simpa using here, not_not.1 run, nz, rfl⟩))

theorem steady_modChan_same (c : Ch) (f : ChanRec → ChanRec) (s : State) (h : ∀ q, (f q).state = q.state) :
    Steady s (modChan c f s) :=
  ⟨rfl, Sound_of_view (view_modChan_same c f s (h _))⟩

theorem steady_startMotion (c : Ch) (o : Op) (hold : Bool) (v : Nat) (w : Owner) (cause : Option AutoCause) (s : State)
    (nz : o ≠ .captureZero) : Steady s (startMotion c o hold v w cause s).2 := by
  obtain e | ⟨-, e⟩ | ⟨z, -⟩ | ⟨idle, here, run, -, e⟩ := startMotion_cases c o hold v w cause s
  · rw [e]
    exact .refl s
  · rw [e]
    exact steady_modChan_same c (fun q => { q with deferred := some ⟨o, cause⟩ }) s fun _ => rfl
  · exact absurd z nz
  · rw [e]
    exact steady_accept c o hold v w cause s idle here run

/-! ### The admission scan (R7 to R11) -/

theorem PerCh_set_get {α : Type} (p : PerCh α) (c : Ch) : p.set c (p.get c) = p := by
  rcases c with _ | r | _
  · rfl
  · cases r <;> rfl
  · rfl

theorem PerCh_set_set {α : Type} (p : PerCh α) (c : Ch) (v w : α) : (p.set c v).set c w = p.set c w := by
  rcases c with _ | r | _
  · rfl
  · cases r <;> rfl
  · rfl

/-- Writing what stands in a record changes nothing. -/
theorem modChan_of_fixed (c : Ch) (f : ChanRec → ChanRec) (s : State) (h : f (chanOf s c) = chanOf s c) :
    modChan c f s = s := by
  unfold modChan
  unfold chanOf at h
  rw [h, PerCh_set_get]

theorem modChan_modChan (c : Ch) (f g : ChanRec → ChanRec) (s : State) :
    modChan c g (modChan c f s) = modChan c (fun q => g (f q)) s := by
  simp only [modChan, PerCh_get_set_self, PerCh_set_set]

/-- The outside of a state is what its supervisor's writes are read from. -/
theorem outside_modChan_congr (c : Ch) (f : ChanRec → ChanRec) {s t : State} (h : outside t = outside s) :
    outside (modChan c f t) = outside (modChan c f s) := by
  have e : ∀ u, outside (modChan c f u) = modChan c f (outside u) := fun _ => rfl
  rw [e, e, h]

theorem outside_setWaiting (c : Ch) (w : Waiting) (s : State) :
    outside (setWaiting c w s) = outside (modChan c (fun q => { q with waiting := some w }) s) := by
  unfold setWaiting
  split
  next h =>
    rw [modChan_of_fixed c _ s]
    rw [← h]
  next => exact outside_of_scope (scope_signal _ _)

theorem steady_setWaiting (c : Ch) (w : Waiting) (s : State) : Steady s (setWaiting c w s) :=
  (steady_modChan_same c (fun q => { q with waiting := some w }) s fun _ => rfl).trans
    (.of_outside (outside_setWaiting c w s))

/-- The endings of an admitted channel's job (R11 step 6). -/
def jobEnds (s : State) (c d : Ch) (x : Ending) : Prop := d = c ∨ (∃ r, c = .room r) ∧ roomsInLostEnds s d x

theorem ends_jobBegin (c : Ch) (o : Op) (v : Nat) (s : State) : Ends (jobEnds s c) s (jobBegin c o v s) := by
  cases c with
  | level => exact (ends_levelBegin o v s).mono fun _ _ => .inl
  | room r =>
    have drive : Ends (roomDriveEnds s r) s (jobBegin (.room r) o v s) := by
      simp only [jobBegin]
      split
      · exact ends_hydraulicBegin r o s
      · exact ends_roomBegin r o s
    exact drive.mono fun _ _ h => h.imp_right fun k => ⟨⟨r, rfl⟩, k⟩
  | awning => exact (ends_awningBegin o v s).mono fun _ _ => .inl

/-- An admission up to the evaluation of its entry into RUNNING (R11 steps 1 to 5). -/
def handOver (c : Ch) (o : Op) (s : State) : State :=
  let s1 := modSup (fun u => { u with queue := u.queue.filter (fun e => e.ch != c) }) s
    |> modChan c (fun q => { q with waiting := none })
  let s2 := modMon (fun m => { m with
    resv := m.resv.set c (some ⟨demandOf s c, automaticRetract s c⟩) }) s1
  let s3 := if needsPump s c then takePump c (opDir o (chanOf s c).operand) s2 else s2
  requestMarkerClear s3 |> modChan c (fun q => { q with state := .running, admitted := s.now }) |> signal (.chan c)

theorem admitChan_eq (c : Ch) (o : Op) (s : State) (h : (chanOf s c).op = some o) :
    admitChan c s = if isRunning (sweep (handOver c o s)) c
      then jobBegin c o (chanOf s c).operand (sweep (handOver c o s)) else sweep (handOver c o s) := by
  unfold admitChan
  rw [h]
  rfl

theorem admitChan_none (c : Ch) (s : State) (h : (chanOf s c).op = none) : admitChan c s = s := by
  unfold admitChan
  rw [h]

/-- The record that an admission writes before the job takes the motion. -/
def runningRec (s : State) (q : ChanRec) : ChanRec := { q with waiting := none, state := .running, admitted := s.now }

/-- The outside after an admission's own writes. -/
theorem outside_handOver (c : Ch) (o : Op) (s : State) :
    outside (handOver c o s) = outside
      (modMan (fun m => if needsPump s c then
          { m with
            dirValve := (match opDir o (chanOf s c).operand with | .extend => .extend | .retract => .retract)
            pump := { m.pump with holder := some c, dir := some (opDir o (chanOf s c).operand) } } else m)
        (modMon (fun m => { m with resv := m.resv.set c (some ⟨demandOf s c, automaticRetract s c⟩) })
          (modChan c (runningRec s)
            (modSup (fun u => { u with queue := u.queue.filter (fun e => e.ch != c) }) s)))) := by
  have clear : ∀ u : State, outside (requestMarkerClear u) = outside u := by
    intro u
    unfold requestMarkerClear
    split <;> rfl
  unfold handOver
  simp only []
  rw [outside_of_scope (scope_signal _ _), outside_modChan_congr c _ (clear _)]
  have twice := modChan_modChan c (fun q => { q with waiting := none })
    (fun q => { q with state := .running, admitted := s.now })
    (modSup (fun u => { u with queue := u.queue.filter (fun e => e.ch != c) }) s)
  have once : modChan c (runningRec s) (modSup (fun u => { u with queue := u.queue.filter (fun e => e.ch != c) }) s) =
    _ := twice.symm
  rw [once]
  split <;> rfl

theorem chanOf_handOver_self (c : Ch) (o : Op) (s : State) : chanOf (handOver c o s) c = runningRec s (chanOf s c) := by
  rw [chanOf_of_outside (outside_handOver c o s)]
  exact chanOf_modChan_self c _ s

theorem chanOf_handOver_ne (c d : Ch) (o : Op) (s : State) (h : d ≠ c) : chanOf (handOver c o s) d = chanOf s d := by
  rw [chanOf_of_outside (outside_handOver c o s)]
  exact chanOf_modChan_ne c d _ s h

theorem view_handOver (c : Ch) (o : Op) (s : State) : view (handOver c o s) = (view s).leave c .running := by
  rw [view_of_outside (outside_handOver c o s)]
  exact view_leave c (runningRec s) _ s rfl

theorem steady_handOver (c : Ch) (o : Op) (s : State) (h : (chanOf s c).state = .pending) : Steady s (handOver c o s) where
  kept := by
    simp only [Machine.kept, fixed, outside_handOver]
    rfl
  sound ok := by
    have waits : (view s).state c = .pending := h
    have run : s.power.state = .run := by
      by_contra n
      have r := ok.1.rest n c
      simp [waits] at r
    refine ⟨?_, ?_⟩
    · rw [view_handOver]
      exact ok.1.leave c _ (by simp) (.inr ⟨by simp [waits], .inr run⟩)
    · rw [power_of_outside (outside_handOver c o s)]
      exact ok.2

theorem steady_admitChan (c : Ch) (s : State) (h : (chanOf s c).state = .pending) : Steady s (admitChan c s) := by
  cases ho : (chanOf s c).op with
  | none =>
    rw [admitChan_none c s ho]
    exact .refl s
  | some o =>
    rw [admitChan_eq c o s ho]
    have entry := (steady_handOver c o s h).trans (ends_sweep (handOver c o s)).steady
    split
    · exact entry.trans (ends_jobBegin c o _ _).steady
    · exact entry

theorem steady_walkEntry (w : Walk) (e : QEntry) : Steady w.st (walkEntry w e).st := by
  unfold walkEntry
  simp only []
  split
  · exact .refl _
  next p =>
  split
  · exact steady_setWaiting _ _ _
  split
  · exact steady_setWaiting _ _ _
  split
  · exact steady_setWaiting _ _ _
  split
  · exact steady_setWaiting _ _ _
  · exact steady_admitChan e.ch w.st (not_not.1 p)

theorem steady_walk (l : List QEntry) (w : Walk) : Steady w.st (l.foldl walkEntry w).st := by
  induction l generalizing w with
  | nil => exact .refl _
  | cons e l ih => exact (steady_walkEntry w e).trans (ih _)

theorem steady_scan (s : State) : Steady s (scan s) :=
  (Steady.of_scope (s := s) (t := modSup (fun u => { u with scanDue := false }) s) rfl).trans
    (steady_walk s.sup.queue ⟨modSup (fun u => { u with scanDue := false }) s, false, false⟩)

/-! ### The protective retract and what settles a step (R35, R36) -/

theorem steady_owed (o : Option AutoCause) (s : State) : Steady s (modSup (fun u => { u with owed := o }) s) :=
  .of_scope rfl

theorem steady_protectiveRequest (cause : AutoCause) (s : State) : Steady s (protectiveRequest cause s) := by
  unfold protectiveRequest
  simp only []
  split
  · exact .refl s
  split
  · exact steady_owed _ s
  · refine Steady.trans ?_ ((steady_startMotion _ _ _ _ _ _ _ (by simp)).trans (steady_owed _ _))
    split
    · exact (ends_endMotion _ _ _ _ (by simp)).steady
    · exact .refl s

theorem steady_requestOwed (s : State) : Steady s (requestOwed s) := by
  have due : Steady s (modSup (fun u => { u with owedDue := false }) s) := .of_scope rfl
  unfold requestOwed
  simp only []
  split
  · exact due.trans (steady_protectiveRequest _ _)
  · exact due

theorem steady_settleRound (s : State) : Steady s (settleRound s) := by
  unfold settleRound
  extract_lets s1 s2
  have first : Steady s s1 := (ends_sweep s).steady
  have second : Steady s1 s2 := by
    simp only [s2]
    split
    · exact steady_requestOwed s1
    · exact .refl s1
  split
  · exact (first.trans second).trans (steady_scan s2)
  · exact first.trans second

theorem steady_settle (s : State) : Steady s (settle s) := by
  have rounds : ∀ (n : Nat) (u : State), Steady u (settleRounds n u) := by
    intro n
    induction n with
    | zero => exact fun u => .refl u
    | succ n ih =>
      intro u
      unfold settleRounds
      split
      · exact .refl u
      · exact (steady_settleRound u).trans (ih _)
  exact rounds 40 s

end Sys2Proof.Machine
end

section
/-! PROOF. The configuration's entries after a write, the end of a step, and that the blocks' reactions, the scanner, the
terminals, the wind watch and power control keep the channels in order. -/

namespace Sys2Proof.Machine

/-! ### Reading the configuration after a write -/

@[simp] theorem Cfg.group_setGroup (c : Cfg) (g : Group) (l : List Int) : (c.setGroup g l).group g = l := by
  cases g <;> rfl

theorem Cfg.group_setGroup_ne (c : Cfg) (g k : Group) (l : List Int) (h : k ≠ g) : (c.setGroup g l).group k = c.group k := by
  cases g <;> cases k <;> simp_all [Cfg.setGroup, Cfg.group]

/-- A write in another entry leaves an entry's value. -/
theorem Cfg.entry_put_ne (c : Cfg) (g k : Group) (i j : Nat) (v : Int) (h : k ≠ g ∨ j ≠ i) :
    (c.put g i v).entry k j = c.entry k j := by
  by_cases e : k = g
  · subst e
    have n : i ≠ j := fun x => h.elim (fun y => y rfl) (fun y => y x.symm)
    simp [Cfg.entry, Cfg.put, List.getD_eq_getElem?_getD, List.getElem?_set_ne n]
  · simp [Cfg.entry, Cfg.put, Cfg.group_setGroup_ne _ _ _ _ e]

theorem Cfg.entry_put_self (c : Cfg) (g : Group) (i : Nat) (v : Int) (h : i < (c.group g).length) :
    (c.put g i v).entry g i = v := by
  simp [Cfg.entry, Cfg.put, List.getD_eq_getElem?_getD, h]

/-- The entries that presence is read from (R1). -/
def presenceEntry : Ch → Group × Nat
  | .level => (.geometry, 0)
  | .room r => (.rooms, 1 + 8 * r.idx)
  | .awning => (.awning, 0)

theorem present_putCfg (g : Group) (i : Nat) (v : Int) (s : State) (c : Ch) (h : presenceEntry c ≠ (g, i)) :
    (putCfg g i v s).present c = s.present c := by
  have same : (s.store.cfg.put g i v).entry (presenceEntry c).1 (presenceEntry c).2 =
      s.store.cfg.entry (presenceEntry c).1 (presenceEntry c).2 :=
    Cfg.entry_put_ne _ _ _ _ _ _ (by
      by_contra n
      rw [not_or, not_not, not_not] at n
      exact h (Prod.ext n.1 n.2))
  cases c with
  | level => simp only [presenceEntry] at same; simp [State.present, Cfg.jackCount, Cfg.nat, same]
  | room r => simp only [presenceEntry] at same; simp [State.present, Cfg.roomFitted, Cfg.roomEntry, same]
  | awning => simp only [presenceEntry] at same; simp [State.present, Cfg.awningFitted, same]

theorem view_putCfg (g : Group) (i : Nat) (v : Int) (s : State) (h : ∀ c, presenceEntry c ≠ (g, i)) :
    view (putCfg g i v s) = view s := by
  have p : (putCfg g i v s).present = s.present := funext fun c => present_putCfg g i v s c (h c)
  have e : view (putCfg g i v s) = { view s with present := (putCfg g i v s).present } := rfl
  rw [e, p]
  rfl

@[simp] theorem view_putCfg_learned (i : Nat) (v : Int) (s : State) : view (putCfg .learned i v s) = view s :=
  view_putCfg _ _ _ _ (fun c => by cases c <;> simp [presenceEntry])

theorem view_modMon (f : Monitor → Monitor) (s : State) : view (modMon f s) = view s := rfl
theorem view_modMan (f : Manifold → Manifold) (s : State) : view (modMan f s) = view s := rfl

/-! ### The end of a step -/

theorem view_beginReport (x : Source) (s : State) : view (beginReport x s) = view s := by
  unfold beginReport
  cases x with
  | chan c => exact view_modChan_same c _ _ rfl
  | _ => rfl

theorem view_chooseFrame (s : State) : view (chooseFrame s) = view s := by
  unfold chooseFrame
  split
  · rfl
  · split <;> rfl
  · split
    · rfl
    · split
      · rfl
      · rw [view_beginReport]
        rfl
      · split
        · exact view_beginReport _ s
        · rfl

theorem view_transmit (s : State) : view (transmit s) = view s := view_chooseFrame s

theorem view_setAlertCond (a : Alert) (v : Bool) (s : State) : view (setAlertCond a v s) = view s := by
  rw [setAlertCond_frame]
  rfl

theorem view_refreshAlerts (s : State) : view (refreshAlerts s) = view s := by
  rw [refreshAlerts_frame]
  rfl

theorem view_startJob (s : State) : view (startJob s) = view s := by
  unfold startJob
  split <;> rfl

theorem view_driveAwayCheck (s : State) : view (driveAwayCheck s) = view s := by
  unfold driveAwayCheck
  split <;> rfl

theorem view_conclude (s : State) : view (conclude s) = view (settle s) := by
  unfold conclude
  rw [view_startJob, ← view_driveAwayCheck (settle s), ← view_refreshAlerts (driveAwayCheck (settle s))]
  rfl

theorem sound_conclude {s : State} (h : s.Sound) : (conclude s).Sound :=
  Sound_of_view (view_conclude s) ((steady_settle s).sound h)

theorem sound_transmit {s : State} (h : s.Sound) : (transmit s).Sound := Sound_of_view (view_transmit s) h

theorem sound_finish {s : State} (h : s.Sound) : (finish s).Sound := sound_transmit (sound_conclude h)

/-! ### Reactions of the job blocks -/

theorem sound_settleEnd {s : State} (b : Bool) (h : s.Sound) : (settleEnd b s).Sound := by
  have coasts : ∀ u : State, view (learnJackCoasts u) = view u := fun u =>
    foldl_keeps _ view allJacks (fun t j _ => by
      split
      · exact (view_of_scope (scope_modJack j _ _)).trans (view_putCfg_learned _ _ t)
      · rfl) u
  unfold settleEnd
  extract_lets g sat s1 s2
  have first : s1.Sound := Sound_of_view ((view_of_scope (scope_modLev _ _)).trans
    ((coasts _).trans (view_of_scope (scope_modPlan _ s)))) h
  have second : s2.Sound := Sound_of_scope (scope_modPlan _ s1) first
  clear_value s1 s2
  split
  · split
    · exact (ends_enterTrim _ s1).sound first
    · split
      · exact (ends_makePlan g sat s1).sound first
      · exact (ends_enterTrim _ s1).sound first
  · split
    · exact (Ends.after (scope_modPlan _ s2) (ends_terminate_level _ _)).sound second
    · exact (ends_makePlan g sat s2).sound second

theorem sound_settleCheck {s : State} (h : s.Sound) : (settleCheck s).Sound := by
  unfold settleCheck
  split
  · exact sound_settleEnd false h
  · exact h

theorem sound_switchHome {s : State} (r : Room) (h : s.Sound) : (switchHome r s).Sound := by
  unfold switchHome
  split
  · exact (Ends.afterRoom (scope_modRoom r _ _) (ends_room_terminate r _ _)).sound
      (Sound_of_view (view_putCfg_learned _ _ s) h)
  · exact (ends_room_terminate r _ s).sound h

theorem sound_learnReverse {s : State} (r : Room) (h : s.Sound) : (learnReverse r s).Sound := by
  unfold learnReverse
  extract_lets s1
  have first : s1.Sound := Sound_of_scope ((scope_driveEnds _ _ _ _).trans (scope_modRoom r _ s)) h
  split
  · exact sound_switchHome r first
  · exact first

theorem sound_roomSwitch {s : State} (r : Room) (v : Bool) (h : s.Sound) : (roomSwitch r v s).Sound := by
  unfold roomSwitch
  extract_lets s1
  have first : s1.Sound := Sound_of_scope (scope_modRoom r _ s) h
  clear_value s1
  split
  · exact first
  split
  · split
    · exact Sound_of_scope (scope_setRoomStat r _ _ s1) first
    · exact first
  split
  · split
    · exact first
    · exact sound_switchHome r first
  · exact Sound_of_scope (scope_roomHome r s1) first

theorem sound_awningStalled {s : State} (h : s.Sound) : (awningStalled s).Sound := by
  unfold awningStalled
  split
  · split
    · split
      · exact (ends_awningArrive _ s).sound h
      · exact (ends_awning_fail _ _ s).sound h
    · split
      · exact (ends_awningArrive _ _).sound (Sound_of_view (view_putCfg_learned _ _ s) h)
      · exact (ends_awning_fail _ _ s).sound h
  · exact (ends_awning_fail _ _ s).sound h

theorem view_captureZero (s : State) : view (captureZero s) = view s := by
  unfold captureZero
  extract_lets z
  rw [view_of_scope (scope_modPlan _ _), view_of_scope (scope_modLev _ _), view_putCfg_learned, view_putCfg_learned]

theorem sound_startMotion {s : State} (c : Ch) (o : Op) (hold : Bool) (v : Nat) (w : Owner) (cause : Option AutoCause)
    (h : s.Sound) : (startMotion c o hold v w cause s).2.Sound := by
  by_cases nz : o = .captureZero
  · subst nz
    obtain e | ⟨-, e⟩ | ⟨-, -, e⟩ | ⟨-, -, -, n, -⟩ := startMotion_cases c .captureZero hold v w cause s
    · rwa [e]
    · rw [e]
      exact Sound_of_view (view_modChan_same c (fun q => { q with deferred := some ⟨.captureZero, cause⟩ }) s rfl) h
    · rw [e]
      exact Sound_of_view (view_captureZero s) h
    · exact absurd rfl n
  · exact (steady_startMotion c o hold v w cause s nz).sound h

/-! ### The end of STOPPING (R18) -/

theorem view_jobStopped (c : Ch) (s : State) : view (jobStopped c s) = view s := by
  cases c with
  | level => rfl
  | room r =>
    simp only [jobStopped]
    split
    · rfl
    · have coast : ∀ (e : Side) (u : State), view (learnEndCoast r e u) = view u := by
        intro e u
        unfold learnEndCoast
        simp only []
        split
        · exact view_putCfg_learned _ _ u
        · rfl
      unfold roomStopped
      simp only []
      rw [view_of_scope (scope_modRoom r _ _), view_of_scope (scope_modEnd r _ _ _), view_of_scope (scope_modEnd r _ _ _)]
      split
      · exact foldl_keeps _ view _ (fun t e _ => coast e t) s
      · rfl
  | awning =>
    simp only [jobStopped, awningStopped]
    rw [view_of_scope (scope_modAwn _ _)]
    split
    · split
      · exact view_putCfg_learned _ _ s
      · rfl
    · rfl

theorem view_releasePump (c : Ch) (s : State) : view (releasePump c s) = view s := by
  unfold releasePump
  split <;> rfl

theorem restingState_cases (q : ChanRec) :
    (∃ f w, q.last = some ⟨.abnormal f, w⟩ ∧ restingState q = (.faulted, some f)) ∨
      ((¬ ∃ f w, q.last = some ⟨.abnormal f, w⟩) ∧ restingState q = (.idle, none)) := by
  unfold restingState
  split
  next f w h => exact .inl ⟨f, w, h, rfl⟩
  next n => exact .inr ⟨fun ⟨f, w, h⟩ => n f w h, rfl⟩

theorem steady_takeDeferred (c : Ch) (s : State) (nz : ∀ d, (chanOf s c).deferred = some d → d.op ≠ .captureZero) :
    Steady s (takeDeferred c s) := by
  unfold takeDeferred
  split
  · exact .refl s
  next d hd =>
    have start := (steady_modChan_same c (fun q => { q with deferred := none }) s fun _ => rfl).trans
      (steady_startMotion c d.op false 0 .automatic d.cause _ (nz d hd))
    simp only []
    split
    · exact start
    · split
      · exact start.trans (steady_owed _ _)
      · exact start
    · exact start.trans (steady_owed _ _)

theorem sound_takeDeferred {s : State} (c : Ch) (h : s.Sound) : (takeDeferred c s).Sound := by
  unfold takeDeferred
  split
  · exact h
  next d _ =>
    have start := sound_startMotion c d.op false 0 .automatic d.cause
      ((steady_modChan_same c (fun q => { q with deferred := none }) s fun _ => rfl).sound h)
    simp only []
    split
    · exact start
    · split
      · exact (steady_owed _ _).sound start
      · exact start
    · exact (steady_owed _ _).sound start

theorem sound_stoppingEnd {s : State} (c : Ch) (st : (chanOf s c).state = .stopping) (h : s.Sound) :
    (stoppingEnd c s).Sound := by
  unfold stoppingEnd
  extract_lets s1 z s2 s3 s4
  have v1 : view s1 = view s := (view_releasePump c _).trans (view_jobStopped c s)
  have first : s1.Sound := Sound_of_view v1 h
  have stops : (view s1).state c = .stopping := by
    rw [v1]
    exact st
  have rest : z.1 = .idle ∨ z.1 = .faulted := by
    obtain ⟨f, w, -, e⟩ | ⟨-, e⟩ := restingState_cases (chanOf s1 c)
    · exact .inr (congrArg Prod.fst e)
    · exact .inl (congrArg Prod.fst e)
  clear_value s1 z
  have v2 : view s2 = (view s1).leave c z.1 := by
    rw [View.leave_of_not_queued first.1 c z.1 (by simp [stops])]
    exact (view_of_scope (scope_signal _ _)).trans (view_modChan c (fun q => { clearedRec z.1 q with fault := z.2 }) s1)
  have second : s2.Sound := by
    refine ⟨?_, ?_⟩
    · rw [v2]
      exact first.1.leave c z.1 (by rcases rest with e | e <;> simp [e]) (rest.imp_right fun e => ⟨by simp [stops], .inl e⟩)
    · exact (congrArg View.startingUp v2).trans first.2
  have third : s3.Sound := by
    simp only [s3]
    split
    · exact Sound_of_scope (scope_entersIdle c s2) second
    · exact second
  have fourth : s4.Sound := (steady_settle _).sound
    (Sound_of_scope (t := modSup (fun u => { u with scanDue := true }) (takeDeferred c s3)) rfl (sound_takeDeferred c third))
  split
  · exact Sound_of_view rfl fourth
  · exact fourth

/-! ### Drive-away, ALL_STOP and the pendant -/

theorem sound_autoStow {s : State} (h : s.Sound) : (autoStow s).Sound := by
  unfold autoStow
  split
  · exact sound_startMotion _ _ _ _ _ _ h
  · exact h

theorem sound_driveAwayBegin {s : State} (i : Item) (h : s.Sound) : (driveAwayBegin i s).Sound := by
  unfold driveAwayBegin
  split
  · exact h
  · extract_lets s1
    have first : s1.Sound := Sound_of_view ((view_setAlertCond _ _ _).trans rfl) h
    clear_value s1
    refine sound_autoStow ?_
    split
    · exact (steady_protectiveRequest _ _).sound first
    · exact first

theorem sound_allStop {s : State} (h : s.Sound) : (allStop s).Sound := by
  have each : ∀ (t : State) (c : Ch), t.Sound →
      (if t.present c then
        endMotion c .stop .stopped t
        |> (fun u => if (chanOf t c).state = .stopping then modChan c (fun q => { q with deferred := none }) u else u)
      else t).Sound := by
    intro t c ok
    split
    · have ended := (ends_endMotion c .stop .stopped t (by simp)).sound ok
      simp only []
      split
      · exact (steady_modChan_same c (fun q => { q with deferred := none }) _ fun _ => rfl).sound ended
      · exact ended
    · exact ok
  unfold allStop
  generalize allChs = l
  induction l generalizing s with
  | nil => exact h
  | cons c l ih => exact ih (each s c h)

theorem sound_pendantRelease {s : State} (c : Ch) (h : s.Sound) : (pendantRelease c s).Sound := by
  unfold pendantRelease
  split
  · exact (ends_endMotion c _ _ s (by simp)).sound h
  · exact h

theorem stopMotion_cases (c : Ch) (w : Owner) (s : State) :
    (stopMotion c w s).2 = s ∨ stopMotion c w s = (.ok, endMotion c .stop .stopped s) := by
  unfold stopMotion
  split
  · exact .inl rfl
  · split
    · exact .inl rfl
    · exact .inl rfl
    · exact .inl rfl
    · split
      · exact .inl rfl
      · exact .inr rfl

theorem sound_stopMotion {s : State} (c : Ch) (w : Owner) (h : s.Sound) : (stopMotion c w s).2.Sound := by
  obtain e | e := stopMotion_cases c w s
  · rwa [e]
  · rw [e]
    exact (ends_endMotion c _ _ s (by simp)).sound h

theorem sound_levelPress {s : State} (o : Op) (h : s.Sound) : (levelPress o s).Sound := by
  unfold levelPress
  split
  · exact sound_startMotion _ _ _ _ _ _ h
  · exact sound_startMotion _ _ _ _ _ _ h
  · exact sound_stopMotion _ _ h

theorem sound_pendantActivate {s : State} (r : InRole) (h : s.Sound) : (pendantActivate r s).Sound := by
  cases r with
  | roomOut q => exact sound_startMotion _ _ _ _ _ _ h
  | roomIn q => exact sound_startMotion _ _ _ _ _ _ h
  | awningOut => exact sound_startMotion _ _ _ _ _ _ h
  | awningIn => exact sound_startMotion _ _ _ _ _ _ h
  | levelAuto => exact sound_levelPress _ h
  | stow => exact sound_levelPress _ h
  | _ => exact h

theorem sound_pendantDeactivate {s : State} (r : InRole) (h : s.Sound) : (pendantDeactivate r s).Sound := by
  unfold pendantDeactivate
  split
  · exact sound_pendantRelease _ h
  · exact h

theorem sound_pendantDecode {s : State} (old : State) (r : InRole) (h : s.Sound) : (pendantDecode old s r).Sound := by
  unfold pendantDecode
  simp only []
  split
  · exact h
  split
  · split
    · exact h
    · exact sound_pendantActivate r h
  · exact sound_pendantDeactivate r h

theorem sound_allStopChange {s : State} (v : Bool) (h : s.Sound) : (allStopChange v s).Sound := by
  unfold allStopChange
  split
  · exact sound_allStop h
  · split
    · exact Sound_of_scope (t := modSup _ s) rfl h
    · exact h

theorem scope_limitChange (r : Room) (o v : Bool) (s : State) : scope (limitChange r o v s) = scope s := by
  unfold limitChange
  simp only [apply_ite scope, scope_setRoomStat, ite_self]

theorem scope_limitRoleChange (r : InRole) (v : Bool) (s : State) : scope (limitRoleChange r v s) = scope s := by
  unfold limitRoleChange
  split
  · exact scope_limitChange _ _ _ s
  · exact scope_limitChange _ _ _ s
  · rfl

theorem sound_roleChange {s : State} (r : InRole) (v : Bool) (h : s.Sound) : (roleChange r v s).Sound := by
  unfold roleChange
  split
  · split
    · exact Sound_of_view rfl h
    · exact sound_driveAwayBegin _ h
  · split
    · split
      · exact (steady_protectiveRequest _ s).sound h
      · exact h
    · exact Sound_of_view rfl h
  · exact sound_allStopChange v h
  · exact Sound_of_scope (scope_limitRoleChange _ _ s) h

theorem sound_foldl {α : Type} (f : State → α → State) (hf : ∀ t a, t.Sound → (f t a).Sound) (l : List α) {s : State}
    (h : s.Sound) : (l.foldl f s).Sound := by
  induction l generalizing s with
  | nil => exact h
  | cons a l ih => exact ih (hf s a h)

/-! ### Power control and the terminals -/

/-- A part that has started up may take any power state while every channel rests, and RUN at any time. -/
theorem sound_power {s t : State} (p : PowerState) (h : s.Sound) (e : view t = { view s with power := p })
    (rest : p = .run ∨ ∀ c, (chanOf s c).state = .idle ∨ (chanOf s c).state = .faulted) : t.Sound := by
  obtain ⟨⟨nodup, queued, absent, -, -⟩, live⟩ := h
  have live' : (view t).startingUp = false := by rw [e]; exact live
  refine ⟨?_, live'⟩
  rw [e]
  refine ⟨nodup, queued, absent, fun n => rest.resolve_left n, fun su => ?_⟩
  have no : s.power.startingUp = true := su
  rw [live] at no
  cases no

theorem sound_wake {s : State} (cause : PostureCause) (h : s.Sound) : (wake cause s).Sound := by
  unfold wake
  split
  · exact h
  · extract_lets s1 s2
    have first : s1.Sound := sound_power .run h rfl (.inl rfl)
    have second : s2.Sound := by
      simp only [s2]
      split
      · exact Sound_of_view rfl first
      · exact first
    split
    · exact (steady_protectiveRequest _ s2).sound second
    · exact second

theorem view_takeLevel (t : Fin 16) (s : State) : view (takeLevel t s) = view s :=
  (view_of_scope (scope_signal _ _)).trans rfl

theorem sound_debounced {s : State} (t : Fin 16) (h : s.Sound) : (debounced t s).Sound := by
  unfold debounced
  extract_lets s1
  have first : s1.Sound := Sound_of_view (view_takeLevel t s) h
  clear_value s1
  split
  · exact first
  · extract_lets s2 s3
    have second : s2.Sound := by
      simp only [s2]
      split
      · exact sound_wake _ first
      · exact first
    have third : s3.Sound := sound_roleChange _ _ second
    exact Sound_of_view rfl (sound_foldl _ (fun u p k => sound_pendantDecode s p k) _ third)

theorem sound_setMoving {s : State} (v : Bool) (h : s.Sound) : (setMoving v s).Sound := by
  unfold setMoving
  split
  · exact h
  · extract_lets s1
    have first : s1.Sound := Sound_of_view ((view_of_scope (scope_signal _ _)).trans rfl) h
    split
    · exact sound_driveAwayBegin _ first
    · exact first

theorem sound_speedPulse {s : State} (w : Nat) (h : s.Sound) : (speedPulse w s).Sound := by
  unfold speedPulse
  split
  · extract_lets l s1
    have first : s1.Sound := Sound_of_view rfl h
    split
    · exact sound_setMoving _ first
    · exact first
  · exact h

theorem sound_speedWindow {s : State} (h : s.Sound) : (speedWindow s).Sound := by
  unfold speedWindow
  extract_lets l s1
  have first : s1.Sound := Sound_of_view rfl h
  split
  · exact sound_setMoving _ first
  · exact first

/-! ### The scanner -/

theorem sound_scanJacks {s : State} (reads : Analog) (h : s.Sound) : (scanJacks reads s).Sound := by
  have sample : ∀ (t : State) (j : Jack), scope (jackSample reads t j) = scope t := by
    intro t j
    unfold jackSample
    simp only [apply_ite scope, scope_deriveContact, scope_signal, scope_modJack, ite_self]
  unfold scanJacks
  extract_lets s1 s2 s3
  have second : s2.Sound := Sound_of_scope (scope_foldl _ sample _ s1) (Sound_of_view (t := s1) rfl h)
  have third : s3.Sound := by
    simp only [s3]
    split
    · exact (ends_levelSensorLoss _ _).sound (Sound_of_view (view_refreshAlerts s2) second)
    · exact second
  exact (ends_levelReact s3).sound third

theorem sound_lineFaultEnds {s : State} (h : s.Sound) : (lineFaultEnds s).Sound :=
  sound_foldl _ (fun t r k => by
    split
    · exact (ends_room_fail r _ _ t).sound k
    · exact k) _ h

theorem sound_scanLine {s : State} (n : Nat) (h : s.Sound) : (scanLine n s).Sound := by
  unfold scanLine
  extract_lets s1 s2
  have v1 : view s1 = view s := by
    simp only [s1]
    split <;> exact view_modMan _ s
  have second : s2.Sound := by
    clear_value s1
    exact Sound_of_view ((view_modMan _ s1).trans v1) h
  refine Sound_of_scope (scope_stallSample _) ?_
  split
  · exact sound_lineFaultEnds (Sound_of_view (view_refreshAlerts s2) second)
  · exact second

theorem view_readSense (s : State) (d : Driver) : view (readSense s d) = view s :=
  (view_of_scope (scope_examineLatch d _)).trans rfl

theorem view_endStalls (s : State) (r : Room) : view (endStall (endStall s r .endA) r .endB) = view s :=
  view_of_scope ((scope_modEnd r .endB _ _).trans (scope_modEnd r .endA _ s))

theorem view_scanCurrents (c : PerDriver Nat) (s : State) : view (scanCurrents c s) = view s := by
  unfold scanCurrents
  extract_lets s1 s2 s3 s4
  have v1 : view s1 = view s := view_modMon _ s
  have v2 : view s2 = view s1 := foldl_keeps _ view _ (fun t d _ => view_modMon _ t) s1
  have v3 : view s3 = view s2 := foldl_keeps _ view _ (fun t r _ => view_endStalls t r) s2
  clear_value s1 s2 s3
  have v4 : view s4 = view s3 := view_of_scope (scope_modAwn _ s3)
  have v5 : view (allDrivers.foldl readSense s4) = view s4 := foldl_keeps _ view _ (fun t d _ => view_readSense t d) s4
  exact v5.trans (v4.trans (v3.trans (v2.trans v1)))

theorem sound_supplyStep {s : State} (n : Nat) (h : s.Sound) : (supplyStep n s).Sound := by
  unfold supplyStep
  split
  · exact h
  next v _ =>
    extract_lets s1
    have first : s1.Sound := Sound_of_view ((view_refreshAlerts _).trans rfl) h
    clear_value s1
    cases v with
    | brown => exact sound_foldl _ (fun t c k => by
        split
        · exact k
        · exact (ends_terminate c _ t).sound k) _ first
    | normal => exact Sound_of_scope (t := modSup _ s1) rfl first
    | sag => exact first

theorem sound_supplySample {s : State} (n : Nat) (h : s.Sound) : (supplySample n s).Sound := by
  unfold supplySample
  extract_lets l s1
  have first : s1.Sound := Sound_of_view rfl h
  split
  · exact first
  · exact sound_supplyStep _ (sound_supplyStep _ (Sound_of_view rfl first))

theorem sound_analogScan {s : State} (reads : Analog) (h : s.Sound) : (analogScan reads s).Sound := by
  unfold analogScan
  split
  · have jacks := (steady_settle _).sound (sound_scanJacks reads h)
    have line := (steady_settle _).sound (sound_scanLine reads.line jacks)
    exact sound_supplySample _ (Sound_of_view (view_scanCurrents _ _) line)
  · exact sound_supplySample _ h
  · exact h

theorem sound_trip {s : State} (d : Driver) (h : s.Sound) : (trip d s).Sound := by
  have off : scope (driverOff d s) = scope s := by
    cases d with
    | pump => exact scope_pumpStop true s
    | _ => rfl
  unfold trip
  extract_lets c s1 s2
  have first : s1.Sound := Sound_of_view (t := s1) (view_of_scope off) h
  have second : s2.Sound := by
    simp only [s2]
    clear_value c s1
    split
    · exact (ends_fail _ _ _ s1).sound first
    · exact first
  exact Sound_of_view ((view_of_scope (scope_examineLatch d _)).trans (view_refreshAlerts s2)) second

theorem sound_clearJackFlag {s : State} (j : Jack) (h : s.Sound) : (clearJackFlag j s).Sound :=
  (ends_levelReact _).sound (Sound_of_scope
    ((scope_deriveContact j _).trans ((scope_signal _ _).trans (scope_modJack j _ s))) h)

theorem sound_clearLineFlag {s : State} (h : s.Sound) : (clearLineFlag s).Sound :=
  Sound_of_view ((view_of_scope (scope_stallSample _)).trans rfl) h

theorem sound_stowedSwitch {s : State} (j : Jack) (v : Bool) (h : s.Sound) : (stowedSwitch j v s).Sound :=
  (ends_levelReact _).sound (Sound_of_scope ((scope_deriveContact j _).trans (scope_modJack j _ s)) h)

theorem sound_inclinometerPoll {s : State} (read : Option RawGrad) (h : s.Sound) : (inclinometerPoll read s).Sound := by
  unfold inclinometerPoll
  split
  · exact h
  split
  next r =>
    have pushed : ((readEntry (goodRead r s)).foldl (fun t e => pushRing e t) (goodRead r s)).Sound :=
      Sound_of_scope (scope_foldl _ (fun t e => scope_pushRing e t) _ _) (Sound_of_view (t := goodRead r s) rfl h)
    exact Sound_of_view rfl (sound_settleCheck pushed)
  · extract_lets s1
    have first : s1.Sound := Sound_of_view ((view_refreshAlerts _).trans rfl) h
    refine Sound_of_view (s := if s.scan.grad.failures = 3 then levelSensorLoss .none s1 else s1) rfl ?_
    split
    · exact (ends_levelSensorLoss _ s1).sound first
    · exact first

/-! ### The wind watch -/

theorem sound_clearRooms {s : State} (h : s.Sound) : (clearRooms s).Sound :=
  sound_foldl _ (fun t r k => by
    split
    · exact (ends_endMotion (.room r) _ _ t (by simp)).sound k
    · exact k) _ h

theorem sound_windRequest {s : State} (h : s.Sound) : (windRequest s).Sound := by
  unfold windRequest
  extract_lets q active s1 p
  have first : s1.Sound := by
    simp only [s1]
    split
    · exact (ends_endMotion _ _ _ s (by simp)).sound h
    · exact h
  have start : p.2.Sound := sound_startMotion _ _ _ _ _ _ first
  split
  · exact h
  split
  · exact sound_clearRooms ((steady_owed _ _).sound start)
  · exact sound_clearRooms ((steady_owed _ _).sound start)
  · have cause : (rewriteCause p.2).Sound := Sound_of_view ((view_of_scope (scope_signal _ _)).trans
      (view_modChan_same .awning (fun q => { q with autoCause := some .wind }) p.2 rfl)) start
    exact sound_clearRooms ((steady_owed _ _).sound cause)
  · exact start

theorem sound_windBinEnd {s : State} (h : s.Sound) : (windBinEnd s).Sound := by
  unfold windBinEnd
  extract_lets s1 s2
  have first : s1.Sound := Sound_of_view rfl h
  have second : s2.Sound := Sound_of_view rfl first
  split
  · split
    · exact Sound_of_view rfl (sound_windRequest (sound_wake _ second))
    · exact second
  · exact first

end Sys2Proof.Machine
end

section
/-! PROOF. The settings store, power control, start-up and the service of requests keep the channels in order, and so does every
command: the invariant of R1, R7 and R190. -/

namespace Sys2Proof.Machine

/-! ### Presence that changes with the configuration (R1) -/

theorem view_becomeAbsent (c : Ch) (s : State) : view (becomeAbsent c s) = (view s).leave c .idle := by
  have tail : scope (becomeAbsent c s) = scope (modChan c (fun _ => {})
      (modSup (fun u => { u with queue := u.queue.filter (fun e => e.ch != c) }) s)) :=
    (scope_examineLatchesOf c _).trans (scope_signal _ _)
  rw [view_of_scope tail]
  exact view_leave c (fun _ => {}) _ s rfl

/-- A channel becomes absent after a write in the configuration that leaves every other channel's presence. -/
theorem sound_becomeAbsent {s t : State} (c : Ch) (p : Ch → Bool) (h : s.Sound) (e : view t = { view s with present := p })
    (hp : ∀ d, d ≠ c → p d = false → s.present d = false) : (becomeAbsent c t).Sound := by
  have v : view (becomeAbsent c t) = { (view s).leave c .idle with present := p } := by
    rw [view_becomeAbsent, e]
    rfl
  refine ⟨?_, (congrArg View.startingUp v).trans h.2⟩
  rw [v]
  refine (h.1.leave c .idle (by simp) (.inl rfl)).withPresent p fun d hd => ?_
  by_cases k : d = c
  · subst k
    simp [View.leave]
  · simpa [View.leave, Function.update_of_ne k] using h.1.absent d (hp d k hd)

/-- A write in the configuration that makes no channel absent keeps the channels in order. -/
theorem sound_withPresent {s t : State} (p : Ch → Bool) (h : s.Sound) (e : view t = { view s with present := p })
    (hp : ∀ d, p d = false → s.present d = false) : t.Sound := by
  refine ⟨?_, (congrArg View.startingUp e).trans h.2⟩
  rw [e]
  exact h.1.withPresent p fun d hd => h.1.absent d (hp d hd)

theorem scope_levelJacks (old s : State) : scope (allJacks.foldl (jackPresence old) s) = scope s :=
  scope_foldl _ (fun t j => by
    unfold jackPresence
    simp only [apply_ite scope, scope_deriveContact, scope_signal, scope_modJack, scope_setJackValve, ite_self]) _ s

/-- What the LEVEL channel's presence does to the view: it leaves the queue as it becomes absent. -/
theorem view_levelPresence (old s : State) :
    view (levelPresence old s) =
      if old.present .level = true ∧ s.present .level = false then (view s).leave .level .idle else view s := by
  have jacks := view_of_scope (scope_levelJacks old s)
  have here : (allJacks.foldl (jackPresence old) s).present .level = s.present .level :=
    present_of_view jacks .level
  unfold levelPresence
  extract_lets s1
  have first : view s1 = view s := jacks
  have here1 : s1.present .level = s.present .level := here
  clear_value s1
  rw [← here1, ← first]
  cases old.present .level <;> cases s1.present .level <;> simp [view_becomeAbsent, view_of_scope (scope_signal _ _)]

/-! ### SET (R186) -/

theorem sound_takeFresh {s : State} (h : s.Sound) : (takeFresh s).Sound := by
  have calm : view (refreshAlerts (snapshotOnRest (signal .posture s))) = view s :=
    (view_refreshAlerts _).trans (view_of_scope ((scope_snapshotOnRest _).trans (scope_signal _ s)))
  exact (ends_sweep _).sound (Sound_of_view calm h)

theorem scope_applyLimits (r : Room) (b : Bool) (s : State) : scope (applyLimits r b s) = scope s := by
  unfold applyLimits
  simp only [apply_ite scope, scope_setRoomStat, ite_self]

theorem scope_applySwitches (r : Room) (s : State) : scope (applySwitches r s) = scope s := by
  unfold applySwitches
  simp only [apply_ite scope, scope_applyLimits, scope_roomHome, ite_self]

theorem sound_freshRoom {s : State} (r : Room) (h : s.Sound) : (freshRoom r s).Sound := by
  unfold freshRoom
  extract_lets s1
  have first : s1.Sound := by
    refine Sound_of_view ((view_of_scope (scope_modRoom r _ _)).trans ?_) h
    rw [view_putCfg_learned, view_putCfg_learned, view_putCfg_learned]
  clear_value s1
  split
  · exact Sound_of_scope (scope_applySwitches r _) (sound_takeFresh (Sound_of_scope (scope_closeOnRetract s1) first))
  · exact first

theorem sound_freshAwning {s : State} (h : s.Sound) : (freshAwning s).Sound := by
  unfold freshAwning
  extract_lets s1
  have first : s1.Sound := sound_takeFresh (Sound_of_scope (scope_modAwn _ s) h)
  split
  · exact Sound_of_scope (scope_awnHome s1) first
  · exact first

/-- What a write of one entry does to the view: presence follows, for the channel that the entry belongs to. -/
theorem view_putCfg_present (g : Group) (i : Nat) (v : Int) (s : State) :
    view (putCfg g i v s) = { view s with present := (putCfg g i v s).present } := rfl

theorem sound_levelStored {s t : State} (p : Ch → Bool) (h : s.Sound) (e : view t = { view s with present := p })
    (hp : ∀ d, d ≠ .level → p d = false → s.present d = false) : (levelPresence s t).Sound := by
  have v := view_levelPresence s t
  have here : t.present .level = p .level := congrArg (fun v : View => v.present .level) e
  split at v
  next gone =>
    rw [← view_becomeAbsent] at v
    exact Sound_of_view v (sound_becomeAbsent .level p h e hp)
  next stays =>
    refine Sound_of_view v (sound_withPresent p h e fun d hd => ?_)
    by_cases k : d = .level
    · subst k
      by_contra n
      exact stays ⟨by simpa using n, here.trans hd⟩
    · exact hp d k hd

theorem sound_roomsStored {s : State} (i : Nat) (v : Int) (h : s.Sound) :
    (roomsStored i s (putCfg .rooms i v s)).Sound := by
  have other : ∀ d, presenceEntry d ≠ (.rooms, i) → (putCfg .rooms i v s).present d = s.present d :=
    fun d => present_putCfg .rooms i v s d
  unfold roomsStored
  split
  next z =>
    subst z
    refine Sound_of_scope (s := putCfg .rooms 0 v s) rfl (Sound_of_view (view_putCfg _ _ _ _ fun c => ?_) h)
    cases c <;> simp [presenceEntry]
  next nz =>
  extract_lets r
  split
  next fit =>
    have rest : ∀ d, d ≠ .room r → (putCfg .rooms i v s).present d = s.present d := by
      intro d hd
      by_cases k : presenceEntry d = (.rooms, i)
      · exfalso
        cases d with
        | level => simp [presenceEntry] at k
        | awning => simp [presenceEntry] at k
        | room q =>
          apply hd
          have idx : 1 + 8 * q.idx = i := congrArg Prod.snd k
          have div : (i - 1) / 8 = q.idx := by omega
          simp only [r, div]
          cases q <;> rfl
      · exact other d k
    split
    next fitted =>
      have here : (putCfg .rooms i v s).present (.room r) = true := (Bool.and_eq_true_iff.1 fitted).1
      refine sound_freshRoom r (Sound_of_scope (scope_signal _ _)
        (sound_withPresent _ h (view_putCfg_present .rooms i v s) fun d hd => ?_))
      by_cases k : d = .room r
      · rw [k, here] at hd
        cases hd
      · rwa [rest d k] at hd
    next notFitted =>
      split
      next unfitted =>
        refine sound_becomeAbsent (.room r) (putCfg .rooms i v s).present h
          ((view_of_scope (scope_modRoom r freshRoomRec _)).trans (view_putCfg_present .rooms i v s)) fun d k hd => ?_
        rwa [rest d k] at hd
      next notUnfitted =>
        refine sound_withPresent _ h (view_putCfg_present .rooms i v s) fun d hd => ?_
        by_cases k : d = .room r
        · subst k
          have now : (putCfg .rooms i v s).store.cfg.roomFitted r = false := hd
          have was : ¬ s.store.cfg.roomFitted r = true := fun w => notUnfitted (by rw [now, w]; rfl)
          simpa [State.present] using was
        · rwa [rest d k] at hd
  next notFit =>
    have same : view (putCfg .rooms i v s) = view s := view_putCfg _ _ _ _ fun c k => by
      cases c with
      | level => simp [presenceEntry] at k
      | awning => simp [presenceEntry] at k
      | room q =>
        have idx : 1 + 8 * q.idx = i := congrArg Prod.snd k
        omega
    have stored : (putCfg .rooms i v s).Sound := Sound_of_view same h
    split
    · exact sound_freshRoom r stored
    · exact stored

theorem sound_awningStored {s : State} (i : Nat) (v : Int) (h : s.Sound) :
    (awningStored i s (putCfg .awning i v s)).Sound := by
  have e := view_putCfg_present .awning i v s
  unfold awningStored
  split
  next nz => exact Sound_of_view (view_putCfg _ _ _ _ fun c k => by cases c <;> simp_all [presenceEntry]) h
  next z =>
  have rest : ∀ d, d ≠ .awning → (putCfg .awning i v s).present d = s.present d := fun d hd =>
    present_putCfg .awning i v s d (fun k => by cases d <;> simp_all [presenceEntry])
  split
  next fitted =>
    have here : (putCfg .awning i v s).present .awning = true := (Bool.and_eq_true_iff.1 fitted).1
    refine sound_freshAwning (Sound_of_scope (scope_signal _ _) (sound_withPresent _ h e fun d hd => ?_))
    by_cases k : d = .awning
    · rw [k, here] at hd
      cases hd
    · rwa [rest d k] at hd
  next notFitted =>
    split
    next unfitted =>
      refine sound_becomeAbsent .awning (putCfg .awning i v s).present h
        ((view_of_scope (scope_modAwn _ _)).trans e) fun d k hd => ?_
      rwa [rest d k] at hd
    next notUnfitted =>
      refine sound_withPresent _ h e fun d hd => ?_
      by_cases k : d = .awning
      · subst k
        have now : (putCfg .awning i v s).store.cfg.awningFitted = false := hd
        have was : ¬ s.store.cfg.awningFitted = true := fun w => notUnfitted (by rw [now, w]; rfl)
        simpa [State.present] using was
      · rwa [rest d k] at hd

theorem sound_mapReading {s : State} (old : State) (r : InRole) (h : s.Sound) : (mapReading old s r).Sound := by
  unfold mapReading
  simp only []
  split
  · exact h
  · split
    · split
      · exact h
      · exact Sound_of_view rfl h
    · exact sound_allStopChange _ h
    · exact Sound_of_scope (scope_limitRoleChange _ _ s) h

theorem sound_mapChanged {s : State} (old : State) (h : s.Sound) : (mapChanged old s).Sound := by
  have masked : (maskMap old (speedAssignment s)).Sound := by
    have v : view (speedAssignment s) = view s := by
      unfold speedAssignment
      split <;> rfl
    exact Sound_of_view (s := speedAssignment s) rfl (Sound_of_view v h)
  refine sound_foldl _ (fun t r k => ?_) _ (sound_foldl _ (fun t r k => sound_mapReading old r k) _ masked)
  unfold mapRelease
  split
  · exact sound_pendantDeactivate r k
  · exact k

theorem sound_expireWaiting {s : State} (h : s.Sound) : (expireWaiting s).Sound :=
  sound_foldl _ (fun t e k => by
    split
    · exact (ends_cancel (p := fun _ _ => True) e.ch .waitExpired t trivial).sound k
    · exact k) _ h

theorem view_reportingStored (i : Nat) (s : State) : view (reportingStored i s) = view s := by
  unfold reportingStored
  split
  · split
    · split <;> rfl
    · rfl
  · split <;> rfl

theorem view_windStored (i : Nat) (old s : State) : view (windStored i old s) = view s := by
  unfold windStored
  split
  · rfl
  · split
    · rfl
    · split <;> rfl

theorem sound_storeEntry {s : State} (g : Group) (i : Nat) (v : Int) (h : s.Sound) : (storeEntry g i v s).Sound := by
  have plain : (∀ c, presenceEntry c ≠ (g, i)) → (putCfg g i v s).Sound := fun n => Sound_of_view (view_putCfg g i v s n) h
  cases g with
  | geometry =>
    have e : storeEntry .geometry i v s = if i = 0 then levelPresence s (putCfg .geometry i v s) else putCfg .geometry i v s := rfl
    rw [e]
    split
    next z =>
      refine sound_levelStored _ h (view_putCfg_present .geometry i v s) fun d k hd => ?_
      rwa [present_putCfg _ _ _ _ _ (fun e => by cases d <;> simp_all [presenceEntry])] at hd
    next nz => exact plain fun c k => by cases c <;> simp_all [presenceEntry]
  | rooms => exact sound_roomsStored i v h
  | awning => exact sound_awningStored i v h
  | wind => exact Sound_of_view (view_windStored i s _) (plain fun c => by cases c <;> simp [presenceEntry])
  | interlock =>
    have stored := plain fun c => by cases c <;> simp [presenceEntry]
    have e : storeEntry .interlock i v s =
      if i = 25 then expireWaiting (putCfg .interlock i v s) else putCfg .interlock i v s := rfl
    rw [e]
    split
    · exact sound_expireWaiting stored
    · exact stored
  | terminals =>
    have moved : ∀ (k : Nat) (w : Int) (u : State), u.Sound → (putCfg .terminals k w u).Sound := fun k w u ok =>
      Sound_of_view (view_putCfg _ _ _ _ fun c => by cases c <;> simp [presenceEntry]) ok
    unfold storeEntry
    extract_lets s1
    have first : s1.Sound := by
      simp only [s1]
      split
      · exact moved _ _ s h
      · exact h
    clear_value s1
    exact sound_mapChanged s (moved i v s1 first)
  | reporting => exact Sound_of_view (view_reportingStored i _) (plain fun c => by cases c <;> simp [presenceEntry])
  | level => exact plain fun c => by cases c <;> simp [presenceEntry]
  | supply => exact plain fun c => by cases c <;> simp [presenceEntry]
  | learned => exact plain fun c => by cases c <;> simp [presenceEntry]

theorem sound_setRequest {s : State} (g i : Byte) (v : BitVec 32) (h : s.Sound) : (setRequest g i v s).2.Sound := by
  unfold setRequest
  split
  · exact h
  split
  · exact h
  simp only []
  split
  · exact h
  split
  · exact h
  · exact sound_storeEntry _ _ _ h

/-! ### LOAD_DEFAULTS (R188) -/

theorem default_present (s : State) (h : s.store.cfg = Cfg.default) (m : s.store.marking = .default) (c : Ch) :
    s.present c = false := by
  cases c with
  | level => simp [State.present, m]
  | room r =>
    simp only [State.present, h]
    cases r <;> decide
  | awning =>
    simp only [State.present, h]
    decide

/-- In order but for channels that a change of the configuration has left absent and that still stand in a state. -/
def State.SoundBut (s : State) : Prop :=
  ∃ w : View, w.Ok ∧ view s = { w with present := s.present } ∧ s.power.startingUp = false

theorem SoundBut_of_view {s t : State} (h : view t = view s) (k : s.SoundBut) : t.SoundBut := by
  obtain ⟨w, ok, e, su⟩ := k
  have p : t.present = s.present := congrArg View.present h
  have u : (view t).startingUp = (view s).startingUp := congrArg View.startingUp h
  exact ⟨w, ok, by rw [h, e, p], u.trans su⟩

theorem State.SoundBut.becomeAbsent {s : State} (c : Ch) (k : s.SoundBut) : (becomeAbsent c s).SoundBut := by
  obtain ⟨w, ok, e, su⟩ := k
  have v := view_becomeAbsent c s
  have p : (Machine.becomeAbsent c s).present = s.present := congrArg View.present v
  have u : (view (Machine.becomeAbsent c s)).startingUp = s.power.startingUp := congrArg View.startingUp v
  refine ⟨w.leave c .idle, ok.leave c .idle (by simp) (.inl rfl), ?_, u.trans su⟩
  rw [v, e, p]
  rfl

theorem State.SoundBut.sound {s : State} (k : s.SoundBut) (h : ∀ c, s.present c = false → (chanOf s c).state = .idle) : s.Sound := by
  obtain ⟨w, ok, e, su⟩ := k
  refine ⟨?_, su⟩
  have states : (view s).state = w.state := by rw [e]
  rw [e]
  exact ok.withPresent _ fun c hc => by
    rw [← states]
    exact h c hc

/-- The outside after a channel becomes absent (R1): out of the queue, with its record's reset values. -/
theorem outside_becomeAbsent (c : Ch) (s : State) :
    outside (becomeAbsent c s) = outside (modSup (fun u => { u with queue := u.queue.filter (fun e => e.ch != c) })
      (modChan c (fun _ => {}) s)) :=
  outside_of_scope ((scope_examineLatchesOf c _).trans (scope_signal _ _))

theorem chanOf_becomeAbsent (c d : Ch) (s : State) :
    chanOf (becomeAbsent c s) d = if d = c then {} else chanOf s d := by
  rw [chanOf_of_outside (outside_becomeAbsent c s)]
  split
  next e =>
    subst e
    exact chanOf_modChan_self d (fun _ => {}) s
  next e => exact chanOf_modChan_ne c d (fun _ => {}) s e

theorem kept_of_outside {s t : State} (h : outside t = outside s) : kept t = kept s := (Steady.of_outside h).kept

theorem kept_becomeAbsent (c : Ch) (s : State) : kept (becomeAbsent c s) = kept s :=
  (kept_of_outside (outside_becomeAbsent c s)).trans rfl

/-- A room's part in LOAD_DEFAULTS (R188): a present one becomes absent, an absent one keeps its level alone. -/
def roomAway (s t : State) (r : Room) : State :=
  if s.present (.room r) then roomAbsent r t else modRoom r freshRoomRec t

/-- LOAD_DEFAULTS before the terminal map is handed on (R188). -/
def defaultsTaken (s : State) : State :=
  let s1 := modStore (fun t => { t with cfg := Cfg.default, marking := .default }) s
  let s3 := allRooms.foldl (roomAway s) (levelPresence s s1)
  let s4 := if s.present .awning then awningAbsent s3 else s3
  if s.store.cfg.windFitted then clearWind s4 else s4

theorem loadDefaults_eq (s : State) :
    loadDefaults s = signal .store (startTelemetryTimer (dropSource .telemetry (mapChanged s (defaultsTaken s)))) := rfl

/-- What a channel's presence does to the records as LEVEL follows the configuration. -/
theorem chanOf_levelPresence (old s : State) (d : Ch) :
    chanOf (levelPresence old s) d =
      if d = .level ∧ old.present .level = true ∧ s.present .level = false then {} else chanOf s d := by
  have jacks := scope_levelJacks old s
  unfold levelPresence
  extract_lets s1
  have first : scope s1 = scope s := jacks
  clear_value s1
  have same : chanOf s1 d = chanOf s d := chanOf_of_outside (outside_of_scope first) d
  have here : s1.present .level = s.present .level := present_of_view (view_of_scope first) .level
  rw [← here, ← same]
  have calm : chanOf (signal (.chan .level) s1) d = chanOf s1 d :=
    chanOf_of_outside (outside_of_scope (scope_signal _ s1)) d
  cases old.present .level <;> cases s1.present .level <;> simp [chanOf_becomeAbsent, calm]

theorem kept_levelPresence (old s : State) : kept (levelPresence old s) = kept s := by
  have jacks : kept (allJacks.foldl (jackPresence old) s) = kept s := (Steady.of_scope (scope_levelJacks old s)).kept
  unfold levelPresence
  extract_lets s1
  have first : kept s1 = kept s := jacks
  clear_value s1
  split
  · exact (kept_becomeAbsent _ _).trans first
  · split
    · exact (Steady.of_scope (scope_signal _ s1)).kept.trans first
    · exact first

theorem State.SoundBut.levelPresence {s : State} (old : State) (k : s.SoundBut) : (levelPresence old s).SoundBut := by
  have v := view_levelPresence old s
  split at v
  · rw [← view_becomeAbsent] at v
    exact SoundBut_of_view v (k.becomeAbsent .level)
  · exact SoundBut_of_view v k

theorem chanOf_roomAway (s t : State) (r : Room) (d : Ch) :
    chanOf (roomAway s t r) d = if d = .room r ∧ s.present d = true then {} else chanOf t d := by
  unfold roomAway
  split
  next here =>
    unfold roomAbsent
    rw [chanOf_becomeAbsent]
    by_cases e : d = .room r
    · subst e
      simp [here]
    · simp only [e, if_false, false_and]
      exact chanOf_of_outside (outside_of_scope (scope_modRoom r _ t)) d
  next away =>
    by_cases e : d = .room r
    · subst e
      simp only [away, and_false, if_false, Bool.false_eq_true]
      exact chanOf_of_outside (outside_of_scope (scope_modRoom r _ t)) _
    · simp only [e, if_false, false_and]
      exact chanOf_of_outside (outside_of_scope (scope_modRoom r _ t)) d

theorem kept_roomAway (s t : State) (r : Room) : kept (roomAway s t r) = kept t := by
  unfold roomAway
  split
  · exact (kept_becomeAbsent _ _).trans rfl
  · rfl

theorem State.SoundBut.roomAway {t : State} (s : State) (r : Room) (k : t.SoundBut) : (roomAway s t r).SoundBut := by
  have same : view (modRoom r freshRoomRec t) = view t := view_of_scope (scope_modRoom r _ t)
  unfold Machine.roomAway
  split
  · exact (SoundBut_of_view same k).becomeAbsent (.room r)
  · exact SoundBut_of_view same k

theorem chanOf_roomsAway (s : State) (l : List Room) (t : State) (d : Ch) :
    chanOf (l.foldl (roomAway s) t) d = if (∃ r ∈ l, d = .room r) ∧ s.present d = true then {} else chanOf t d := by
  induction l generalizing t with
  | nil => simp
  | cons r l ih =>
    rw [List.foldl_cons, ih, chanOf_roomAway]
    by_cases p : s.present d = true
    · by_cases e : d = .room r
      · subst e
        simp [p]
      · simp [e]
    · simp [p]

/-- The records as LOAD_DEFAULTS leaves the channels before the terminal map is handed on: every present channel's at its reset
values. -/
theorem chanOf_defaultsTaken (s : State) (d : Ch) :
    chanOf (defaultsTaken s) d = if s.present d = true then {} else chanOf s d := by
  have away : ∀ c, (modStore (fun t => { t with cfg := Cfg.default, marking := .default }) s).present c = false :=
    fun c => default_present _ rfl rfl c
  unfold defaultsTaken
  extract_lets s1 s3 s4
  have lev : chanOf (levelPresence s s1) d = if d = .level ∧ s.present .level = true then {} else chanOf s d := by
    have e := chanOf_levelPresence s s1 d
    have same : chanOf s1 d = chanOf s d := rfl
    simpa only [s1, away, and_true, ← same] using e
  have third : chanOf s3 d = if d ≠ .awning ∧ s.present d = true then {} else chanOf s d := by
    have all : ∀ r : Room, r ∈ allRooms := by
      intro r
      cases r <;> decide
    have rooms := chanOf_roomsAway s allRooms (levelPresence s s1) d
    cases d with
    | level => simpa [lev] using rooms
    | room r => simpa [lev, all] using rooms
    | awning => simpa [lev] using rooms
  have fourth : chanOf s4 d = if s.present d = true then {} else chanOf s d := by
    have gone : ∀ u : State, chanOf (awningAbsent u) d = if d = .awning then {} else chanOf u d := by
      intro u
      unfold awningAbsent
      rw [chanOf_becomeAbsent, chanOf_of_outside (outside_of_scope (scope_modAwn _ u))]
    simp only [s4]
    cases d with
    | level => split <;> simp [gone, third]
    | room r => split <;> simp [gone, third]
    | awning => split <;> simp [*]
  split
  · exact fourth
  · exact fourth

/-- The store and every other block that no motion writes, as LOAD_DEFAULTS leaves them before the terminal map is handed on. -/
theorem kept_defaultsTaken (s : State) :
    kept (defaultsTaken s) = kept { s with
      store := { s.store with cfg := Cfg.default, marking := .default }
      wind := if s.store.cfg.windFitted = true then {} else s.wind } := by
  unfold defaultsTaken
  extract_lets s1 s3 s4
  have third : kept s3 = kept s1 :=
    (foldl_keeps _ kept allRooms (fun t r _ => kept_roomAway s t r) _).trans (kept_levelPresence s s1)
  have fourth : kept s4 = kept s1 := by
    simp only [s4]
    split
    · exact (kept_becomeAbsent .awning _).trans third
    · exact third
  clear_value s3 s4
  split
  · have w : ∀ u : State, kept (clearWind u) = { kept u with wind := {} } := fun _ => rfl
    rw [w, fourth]
    rfl
  · exact fourth.trans rfl

/-- What reads the same from a state and from its kept part is common to states of one kept part. -/
theorem of_kept {β : Type} {s t : State} (p : State → β) (hp : ∀ x, p (kept x) = p x) (h : kept t = kept s) : p t = p s := by
  rw [← hp t, h, hp s]

theorem defaultsTaken_present (s : State) (c : Ch) : (defaultsTaken s).present c = false := by
  refine default_present _ ?_ ?_ c
  · exact of_kept (fun x => x.store.cfg) (fun _ => rfl) (kept_defaultsTaken s)
  · exact of_kept (fun x => x.store.marking) (fun _ => rfl) (kept_defaultsTaken s)

theorem sound_defaultsTaken {s : State} (h : s.Sound) : (defaultsTaken s).Sound := by
  refine State.SoundBut.sound ?_ fun c _ => ?_
  · unfold defaultsTaken
    extract_lets s1 s3 s4
    have first : s1.SoundBut := ⟨view s, h.1, rfl, h.2⟩
    have rooms : ∀ (l : List Room) (t : State), t.SoundBut → (l.foldl (roomAway s) t).SoundBut := by
      intro l
      induction l with
      | nil => exact fun _ k => k
      | cons r l ih => exact fun t k => ih _ (k.roomAway s r)
    have third : s3.SoundBut := rooms _ _ (first.levelPresence s)
    have fourth : s4.SoundBut := by
      simp only [s4]
      split
      · exact (SoundBut_of_view (view_of_scope (scope_modAwn _ s3)) third).becomeAbsent .awning
      · exact third
    split
    · exact SoundBut_of_view rfl fourth
    · exact fourth
  · rw [chanOf_defaultsTaken]
    split
    · rfl
    next away => exact h.1.absent c (Bool.eq_false_iff.2 away)

theorem sound_loadDefaults {s : State} (h : s.Sound) : (loadDefaults s).Sound := by
  rw [loadDefaults_eq]
  exact Sound_of_view ((view_of_scope (scope_signal _ _)).trans rfl) (sound_mapChanged s (sound_defaultsTaken h))

end Sys2Proof.Machine
end

section
/-! PROOF. Power control, the service of requests, the receiver, start-up and every command keep the channels in order (O6). -/

namespace Sys2Proof.Machine

/-! ### Power control and requests -/

theorem allAtRest_iff (s : State) :
    allAtRest s = true ↔ ∀ c, s.present c = true → (chanOf s c).state = .idle ∨ (chanOf s c).state = .faulted := by
  simp only [allAtRest, List.all_eq_true, Bool.or_eq_true, Bool.not_eq_true', beq_iff_eq, or_assoc]
  constructor
  · intro h c p
    exact (h c (mem_allChs c)).resolve_left (by simp [p])
  · intro h c _
    cases p : s.present c with
    | true => exact .inr (h c p)
    | false => exact .inl rfl

theorem sound_enterRest {s : State} (p : PowerState) (h : s.Sound) (rest : allAtRest s = true) : (enterRest p s).Sound := by
  have still : ∀ c, (chanOf s c).state = .idle ∨ (chanOf s c).state = .faulted := by
    intro c
    cases k : s.present c with
    | true => exact (allAtRest_iff s).1 rest c k
    | false => exact .inl (h.1.absent c k)
  have band : ∀ u : State, view (cancelBandTimers u) = view u := fun u =>
    (view_modMan _ _).trans (view_of_scope (scope_foldl (fun t j => modJack j _ t) (fun t j => scope_modJack j _ t) allJacks u))
  unfold enterRest
  extract_lets s1 s2
  have first : view s1 = { view s with power := p } := by
    have e : ∀ u : State, view (modPower (fun q => { q with state := p }) (modLev (fun l => { l with drift := none })
        (modScan (fun c => { c with grad := { c.grad with stale := true } }) u))) = { view u with power := p } := fun _ => rfl
    rw [e, band]
    rfl
  have second : view s2 = view s1 := by
    simp only [s2]
    split <;> rfl
  have ok : s2.Sound := sound_power p h (second.trans first) (.inr still)
  split
  · exact sound_wake _ ok
  · exact ok

theorem view_pushReply (tag kind : Byte) (l : List Byte) (s : State) : view (pushReply tag kind l s) = view s := rfl

theorem sound_reply {s : State} (tag kind : Byte) (l : List Byte) (h : s.Sound) : (transmit (pushReply tag kind l s)).Sound :=
  sound_transmit (Sound_of_view (view_pushReply tag kind l s) h)

theorem sound_answer (tag kind : Byte) (p : Verdict × State) (h : p.2.Sound) : (answer tag kind p).Sound := by
  unfold answer
  simp only []
  split
  · exact sound_finish (Sound_of_view (view_pushReply _ _ _ _) h)
  · exact sound_reply _ _ _ h

theorem sound_holdMotion {s : State} (c : Ch) (w : Owner) (h : s.Sound) : (holdMotion c w s).2.Sound := by
  unfold holdMotion
  simp only []
  split
  · exact h
  split
  · exact (steady_modChan_same c (fun q => { q with deadline := s.now + s.store.cfg.holdWindow }) s fun _ => rfl).sound h
  split
  · exact h
  · exact h

/-- A fault that is cleared returns its channel to IDLE (R19). -/
theorem sound_clearFault {s : State} (c : Ch) (h : s.Sound) : (clearFault c s).2.Sound := by
  unfold clearFault
  split
  · exact h
  split
  · exact h
  next faulted =>
  split
  · exact h
  · extract_lets s1
    have v1 : view s1 = view s := view_of_scope (scope_foldl _ (fun t d => scope_clearLatch d t) _ s)
    have first : s1.Sound := Sound_of_view v1 h
    have state1 : (view s1).state c = .faulted := by
      rw [v1]
      exact not_not.1 faulted
    clear_value s1
    have v2 : view (modChan c (fun q => { q with state := .idle, fault := none }) s1) = (view s1).leave c .idle := by
      rw [View.leave_of_not_queued first.1 c .idle (by simp [state1])]
      exact view_modChan c _ s1
    have idle : (modChan c (fun q => { q with state := .idle, fault := none }) s1).Sound := by
      refine ⟨?_, first.2⟩
      rw [v2]
      exact first.1.leave c .idle (by simp) (.inl rfl)
    exact Sound_of_scope ((scope_entersIdle c _).trans (scope_signal _ _)) idle

theorem sound_serveRest {s : State} (tag kind : Byte) (p : PowerState) (h : s.Sound) : (serveRest tag kind p s).Sound := by
  unfold serveRest
  split
  · exact sound_reply _ _ _ h
  next taken =>
    have still : allAtRest s = true := by
      cases r : allAtRest s with
      | true => rfl
      | false => simp [restRefusal, r] at taken
    exact sound_finish (sound_enterRest p (Sound_of_view (view_pushReply _ _ _ s) h) still)

theorem sound_serve {s : State} (tag : Byte) (q : Req) (h : s.Sound) : (serve tag q s).Sound := by
  have bad : ∀ k, (serveBad tag k s).Sound := fun k => sound_reply _ _ _ h
  unfold serve
  split
  · exact bad _
  cases q with
  | start c o hold v => exact sound_answer _ _ _ (sound_startMotion _ _ _ _ _ _ h)
  | hold c => exact sound_reply _ _ _ (sound_holdMotion c .link h)
  | stop c => exact sound_answer _ _ _ (sound_stopMotion c .link h)
  | clear c => exact sound_answer _ _ _ (sound_clearFault c h)
  | readInputs => exact sound_transmit (Sound_of_view rfl h)
  | setLinkOutputs m => exact sound_transmit (Sound_of_view rfl h)
  | readSupply => exact sound_reply _ _ _ h
  | get g i =>
    simp only [serveGet]
    split
    · exact sound_reply _ _ _ h
    · exact bad _
  | set g i v =>
    have ok := Sound_of_view (view_pushReply tag 0x09 (setRequest g i v s).1.payload _) (sound_setRequest g i v h)
    simp only [serveSet]
    split
    · exact sound_finish ok
    · exact sound_transmit ok
  | save =>
    simp only [serveSave]
    split
    · exact sound_reply _ _ _ h
    · exact sound_transmit (Sound_of_view (view_startJob _) (Sound_of_view (s := s) rfl h))
  | loadDefaults =>
    simp only [serveLoadDefaults]
    split
    · exact sound_finish (Sound_of_view (view_pushReply _ _ _ _) (sound_loadDefaults h))
    · exact sound_reply _ _ _ h
  | enterWatch => exact sound_serveRest tag 0x0C .watch h
  | enterSleep => exact sound_serveRest tag 0x0D .sleep h
  | resetPart => exact sound_transmit (Sound_of_view rfl h)
  | pauseReports => exact sound_transmit (Sound_of_view rfl h)
  | resumeReports => exact sound_transmit (Sound_of_view rfl h)
  | requestReport x => exact sound_transmit (Sound_of_view rfl h)
  | ackAlert m => exact sound_transmit (Sound_of_view rfl h)
  | getIdentity => exact sound_reply _ _ _ h
  | bad k => exact bad k
/-! ### The receiver -/

theorem sound_wakeByLink {s : State} (h : s.Sound) : (wakeByLink s).Sound :=
  sound_finish (Sound_of_view rfl (sound_wake .link h))

theorem sound_acceptRequest {s : State} (tag : Byte) (q : Req) (h : s.Sound) : (acceptRequest tag q s).Sound := by
  unfold acceptRequest
  split
  · exact sound_serve tag q h
  · exact Sound_of_view rfl h

theorem sound_takeRequest {s : State} (tag : Byte) (q : Req) (h : s.Sound) : (takeRequest tag q s).Sound := by
  unfold takeRequest
  split
  · exact h
  · exact h
  · exact Sound_of_view rfl h
  · split
    · exact sound_acceptRequest tag q h
    · exact sound_wakeByLink h

theorem sound_takeBadFrame {s : State} (rx : RxState) (h : s.Sound) : (takeBadFrame rx s).Sound := by
  unfold takeBadFrame
  split
  · exact h
  · exact h
  · exact Sound_of_view rfl h
  · split
    · exact Sound_of_view rfl h
    · exact sound_wakeByLink h

theorem sound_completeFrame {s : State} (buf : List Byte) (h : s.Sound) : (completeFrame buf s).Sound := by
  unfold completeFrame
  extract_lets s1
  have first : s1.Sound := Sound_of_view rfl h
  split
  · split
    · exact sound_acceptRequest _ _ first
    · exact first
  · exact first

theorem sound_receiveByte {s : State} (b : Byte) (h : s.Sound) : (receiveByte b s).Sound := by
  unfold receiveByte assemble
  split
  · exact h
  · exact h
  · exact Sound_of_view rfl h
  · simp only []
    split
    · split
      · exact Sound_of_view rfl h
      · split
        · exact sound_completeFrame _ h
        · exact Sound_of_view rfl h
    · exact Sound_of_view rfl h
  · split
    · exact h
    · split
      · exact Sound_of_view rfl h
      · exact sound_wakeByLink h

theorem sound_serveHeld {s : State} (h : s.Sound) : (serveHeld s).Sound := by
  unfold serveHeld
  split
  · split
    · exact sound_serve _ _ (Sound_of_view rfl h)
    · exact h
  · exact h

theorem sound_frameSent {s : State} (h : s.Sound) : (frameSent s).Sound := by
  unfold frameSent
  split
  · exact sound_transmit (Sound_of_view rfl h)
  · exact sound_transmit (Sound_of_view rfl h)
  · exact h

/-! ### Memory jobs -/

theorem sound_imageWritten {s : State} (c : Cfg) (ok : Bool) (h : s.Sound) : (imageWritten c ok s).Sound := by
  unfold imageWritten
  split
  · extract_lets s1
    refine Sound_of_scope (scope_signal _ _) (sound_levelStored s1.present h rfl fun d k hd => ?_)
    cases d with
    | level => exact absurd rfl k
    | room r => exact hd
    | awning => exact hd
  · exact Sound_of_scope (scope_signal _ _) (Sound_of_view rfl h)

theorem sound_snapshotJobFailed {s : State} (h : s.Sound) : (snapshotJobFailed s).Sound :=
  Sound_of_scope (scope_signal _ _) (Sound_of_view rfl h)

theorem sound_markerCleared {s : State} (ok : Bool) (h : s.Sound) : (markerCleared ok s).Sound := by
  unfold markerCleared
  split
  · exact Sound_of_view rfl h
  · exact sound_snapshotJobFailed h

theorem sound_snapshotWritten {s : State} (c : Snapshot) (ok : Bool) (h : s.Sound) : (snapshotWritten c ok s).Sound := by
  unfold snapshotWritten
  split
  · exact Sound_of_view rfl h
  · exact sound_snapshotJobFailed h

/-! ### Start-up (R192) -/

/-- A part during start-up: in RUN, with every channel IDLE and an empty start queue. -/
theorem view_ok_of_idle (p : Ch → Bool) (b : Bool) : View.Ok ⟨fun _ => .idle, [], p, .run, b⟩ :=
  ⟨List.nodup_nil, fun c => by simp, fun _ _ => rfl, fun n => absurd rfl n, fun _ => ⟨rfl, fun _ => rfl⟩⟩

theorem view_startingUp {s : State} (h : s.ChannelsOk) (su : s.power.startingUp = true) :
    view s = ⟨fun _ => .idle, [], s.present, .run, true⟩ := by
  obtain ⟨run, idle⟩ := h.start su
  have queue : (view s).queue = [] := List.eq_nil_iff_forall_not_mem.2 fun c hc => by
    have p := (h.queued c).1 hc
    rw [idle c] at p
    cases p
  have states : (view s).state = fun _ => .idle := funext idle
  have e : view s = ⟨(view s).state, (view s).queue, s.present, s.power.state, s.power.startingUp⟩ := rfl
  rw [e, states, queue, run, su]

/-- What the first four steps of start-up read leaves the channels and the power state. -/
theorem view_startUpReads (reads : StartUpReads) (s : State) :
    ∃ p, view (firstPoll reads.poll (firstLevels reads (readMarker reads.snapshotAnswer
      (readSettings reads.settingsAnswer s)))) = { view s with present := p } := by
  have settings : ∀ u : State, ∃ p, view (readSettings reads.settingsAnswer u) = { view u with present := p } := by
    intro u
    unfold readSettings
    split
    · split <;> exact ⟨_, rfl⟩
    · exact ⟨_, rfl⟩
  have marker : ∀ u : State, view (readMarker reads.snapshotAnswer u) = view u := fun _ => rfl
  have levels : ∀ u : State, view (firstLevels reads u) = view u := by
    intro u
    unfold firstLevels
    extract_lets stow rooms
    have a : view stow = view u := view_of_scope (scope_foldl _ (fun t j => scope_modJack j _ t) allJacks u)
    have b : view rooms = view stow := view_of_scope (scope_foldl _ (fun t r => scope_modRoom r _ t) allRooms stow)
    clear_value stow rooms
    have blocks : ∀ f g k l, view (modMon f (modScan g (modTerm k (modAwn l rooms)))) = view rooms := fun _ _ _ _ => rfl
    exact (blocks _ _ _ _).trans (b.trans a)
  have poll : ∀ u : State, view (firstPoll reads.poll u) = view u := by
    intro u
    unfold firstPoll
    split
    · exact (view_of_scope (scope_foldl _ (fun t e => scope_pushRing e t) _ _)).trans rfl
    · rfl
  obtain ⟨p, hp⟩ := settings s
  exact ⟨p, by rw [poll, levels, marker, hp]⟩

theorem view_buildPosture (s : State) : view (buildPosture s) = view s := by
  have jacks : ∀ u : State, scope (buildJacks u) = scope u := fun u =>
    scope_foldl _ (fun t j => scope_modJack j _ t) _ u
  have level : ∀ u : State, scope (buildLevel u) = scope u := fun _ => rfl
  have room : ∀ (u : State) (r : Room), scope (restoreRoom u r) = scope u := fun u r => by
    unfold restoreRoom
    simp only [apply_ite scope, scope_modRoom, ite_self]
  have awning : ∀ u : State, scope (restoreAwning u) = scope u := fun u => by
    unfold restoreAwning
    simp only [apply_ite scope, scope_modAwn, ite_self]
  have switches : ∀ (u : State) (r : Room), scope (firstSwitches u r) = scope u := fun u r => by
    unfold firstSwitches
    simp only [apply_ite scope, scope_applyLimits, scope_roomHome, scope_setRoomStat, ite_self]
  have awningSwitch : ∀ u : State, scope (firstAwningSwitch u) = scope u := fun u => by
    unfold firstAwningSwitch
    simp only [apply_ite scope, scope_awnHome, scope_setAwnStat, ite_self]
  unfold buildPosture
  extract_lets t u v
  have ht : view t = view s := view_of_scope ((awning _).trans ((scope_foldl _ room _ _).trans ((level _).trans (jacks s))))
  have hu : view u = view s := by
    have back : ∀ x : State, view x = view s → view { x with link := s.link, store := s.store } = view s := by
      intro x hx
      have e : view { x with link := s.link, store := s.store } = { view x with present := s.present } := rfl
      rw [e, hx]
      rfl
    exact (view_setAlertCond _ _ _).trans (back t ht)
  have hv : view v = view u := view_of_scope ((awningSwitch _).trans (scope_foldl _ switches _ u))
  clear_value t u v
  have p : u.present = s.present := congrArg View.present hu
  have e : view { v with link := u.link, store := u.store } = { view v with present := u.present } := rfl
  rw [e, hv, hu, p]
  rfl

theorem sound_startUp {s : State} (reads : StartUpReads) (h : s.ChannelsOk) (su : s.power.startingUp = true) :
    (startUp reads s).Sound := by
  unfold startUp
  extract_lets s1 s2 s3 s4 s5 s6
  obtain ⟨p, hp⟩ := view_startUpReads reads s
  have first : view s1 = ⟨fun _ => .idle, [], p, .run, true⟩ := by
    have e : view s1 = { view s with present := p } := hp
    rw [e, view_startingUp h su]
  clear_value s1
  have second : s2.Sound := by
    have e : view s2 = { view s1 with startingUp := false } := rfl
    refine ⟨?_, rfl⟩
    rw [e, first]
    exact view_ok_of_idle p false
  clear_value s2
  have third : s3.Sound := Sound_of_view (view_buildPosture s2) second
  clear_value s3
  have fourth : s4.Sound := Sound_of_view (view_scanCurrents _ _) (sound_scanLine _ third)
  clear_value s4
  have fifth : s5.Sound := sound_foldl (fun t v => supplySample v t) (fun t v k => sound_supplySample v k) _ fourth
  clear_value s5
  have sixth : s6.Sound := by
    simp only [s6]
    split
    · exact Sound_of_view rfl fifth
    · exact fifth
  clear_value s6
  have drive : view (driveAwayAtStart s6) = view s6 := by
    unfold driveAwayAtStart
    split <;> rfl
  exact Sound_of_view (s := s6) (drive ▸ rfl) sixth

/-! ### Every command -/

/-- A command of a part that has started up. -/
theorem channelsOk_whenLive {s : State} (f : State → State) (h : s.ChannelsOk) (hf : s.Sound → (f s).Sound) :
    (whenLive f s).ChannelsOk := by
  unfold whenLive
  split
  · exact h
  next live => exact (channelsOk_iff_view _).2 (hf ⟨(channelsOk_iff_view s).1 h, by simpa using live⟩).1

/-- An expiry, due or not. -/
theorem channelsOk_onDue {s : State} (due : Bool) (f : State → State) (h : s.ChannelsOk)
    (hf : due = true → s.Sound → (f s).Sound) : (onDue due f s).ChannelsOk := by
  unfold onDue
  split
  next d =>
    obtain ⟨d, live⟩ := Bool.and_eq_true_iff.1 d
    exact (channelsOk_iff_view _).2 (sound_finish (hf d ⟨(channelsOk_iff_view s).1 h, by simpa using live⟩)).1
  next => exact h

theorem channelsOk_resetPart (cause : ResetCause) (s : State) : (resetPart cause s).ChannelsOk := by
  have e : view (resetPart cause s) = ⟨fun _ => .idle, [], (resetPart cause s).present, .run, true⟩ := by
    have states : (view (resetPart cause s)).state = fun _ => .idle := by
      funext c
      rcases c with _ | r | _
      · rfl
      · cases r <;> rfl
      · rfl
    rw [← states]
    rfl
  rw [channelsOk_iff_view, e]
  exact view_ok_of_idle _ _

theorem channelsOk_tick {s : State} (h : s.ChannelsOk) : (tick s).ChannelsOk := by
  have renew : ∀ (u : State) (c : Ch), view (renewHold u c) = view u := by
    intro u c
    unfold renewHold
    split
    · exact view_modChan_same c _ u rfl
    · rfl
  have begin_ : ∀ u : State, view (beginWaiting u) = view u := by
    intro u
    unfold beginWaiting
    split
    · exact view_transmit u
    · rfl
  unfold tick
  extract_lets s1 s2
  split
  · exact ChannelsOk_of_view (s := s) rfl h
  · have e : view s2 = view s := (begin_ _).trans ((foldl_keeps _ view allChs (fun t c _ => renew t c) _).trans rfl)
    clear_value s2
    exact ChannelsOk_of_view (t := { s2 with pending := s2.pending ++ dueCommands s2 }) (s := s) e h

end Sys2Proof.Machine
end

section
/-! PROOF. Every command keeps the channels in order (R1, R7, R190): the arms of `exec`, and the step (O6). -/

namespace Sys2Proof.Machine

theorem sound_pumpDuty {s : State} (c : Option Ch) (h : s.Sound) :
    (match c with
      | some c => fail c .pumpTime .none (modPump (fun p => { p with hot := true }) (pumpStop false s)
        |> modMon (fun m => { m with tripSince := m.tripSince.set .pump none }) |> refreshAlerts)
      | none => modPump (fun p => { p with hot := true }) (pumpStop false s)
        |> modMon (fun m => { m with tripSince := m.tripSince.set .pump none }) |> refreshAlerts).Sound := by
  have off : (modPump (fun p => { p with hot := true }) (pumpStop false s)
      |> modMon (fun m => { m with tripSince := m.tripSince.set .pump none }) |> refreshAlerts).Sound :=
    Sound_of_view (view_refreshAlerts _) (Sound_of_view rfl (Sound_of_scope (scope_pumpStop false s) h))
  cases c with
  | none => exact off
  | some c => exact (ends_fail c .pumpTime .none _).sound off

theorem stopping_of_due {s : State} {c : Ch} (h : stoppingDue s c = true) : (chanOf s c).state = .stopping :=
  beq_iff_eq.1 (Bool.and_eq_true_iff.1 h).1

/-- The commands that act whenever the part has started up. -/
theorem channelsOk_live {s t : State} (f : State → State) (h : s.ChannelsOk)
    (e : Host.Outcome.next (whenLive f s) = (Host.Outcome.next t : Host.Outcome State Fault Refusal))
    (hf : s.Sound → (f s).Sound) : t.ChannelsOk :=
  Host.Outcome.next.inj e ▸ channelsOk_whenLive f h hf

/-- The commands that act when a timer is due. -/
theorem channelsOk_due {s t : State} (due : Bool) (f : State → State) (h : s.ChannelsOk)
    (e : Host.Outcome.next (onDue due f s) = (Host.Outcome.next t : Host.Outcome State Fault Refusal))
    (hf : due = true → s.Sound → (f s).Sound) : t.ChannelsOk :=
  Host.Outcome.next.inj e ▸ channelsOk_onDue due f h hf

/-- The commands that may leave the state as it was. -/
theorem sound_ite {s t : State} (p : Prop) [Decidable p] (h : s.Sound) (k : s.Sound → t.Sound) :
    (if p then t else s).Sound := by
  split
  · exact k h
  · exact h

theorem sound_imageEnd {s : State} (ok : Bool) (h : s.Sound) :
    (match s.store.job with
      | some (.image c) => finish (imageWritten c ok s)
      | _ => s).Sound := by
  split
  · exact sound_finish (sound_imageWritten _ ok h)
  · exact h

theorem sound_markerEnd {s : State} (ok : Bool) (h : s.Sound) :
    (match s.store.job with
      | some .markerClear => finish (markerCleared ok s)
      | _ => s).Sound := by
  split
  · exact sound_finish (sound_markerCleared ok h)
  · exact h

theorem sound_snapshotEnd {s : State} (ok : Bool) (h : s.Sound) :
    (match s.store.job with
      | some (.snapshot (some c)) => finish (snapshotWritten c ok s)
      | _ => s).Sound := by
  split
  · exact sound_finish (sound_snapshotWritten _ ok h)
  · exact h

theorem sound_senseChange {s : State} (d : Driver) (v : Bool) (h : s.Sound) :
    (let u := modMon (fun m => { m with senseLines := m.senseLines.set d v }) s
     finish (if s.power.state = .run then readSense u d else u)).Sound := by
  refine sound_finish ?_
  split
  · exact Sound_of_view (view_readSense _ d) (Sound_of_view rfl h)
  · exact Sound_of_view rfl h

theorem sound_cooldownEnd {s : State} (h : s.Sound) :
    (modPump (fun p => { p with runState := .none, runTime := 0, hot := false, tripped := false }) s
      |> refreshAlerts |> modSup (fun u => { u with scanDue := true })).Sound :=
  Sound_of_view (s := refreshAlerts (modPump _ s)) rfl (Sound_of_view (view_refreshAlerts _) (Sound_of_view rfl h))

theorem sound_finishStartUp {s : State} (h : s.Sound) : (finishStartUp s).Sound := by
  have e : view (finishStartUp s) = view (conclude s) := rfl
  exact Sound_of_view e (sound_conclude h)

theorem channelsOk_exec {i : Instr} {s t : State} (h : s.ChannelsOk) (e : exec i s = .next t) : t.ChannelsOk := by
  cases i with
  | start | hold | stop | clear | readInputs | setLinkOutputs | readSupply | get | set | save | loadDefaults | enterWatch
  | enterSleep | resetPart | pauseReports | resumeReports | requestReport | ackAlert | getIdentity | badRequest =>
    exact channelsOk_live _ h e (sound_takeRequest _ _)
  | frameBadCheck | frameTooLong => exact channelsOk_live _ h e (sound_takeBadFrame _)
  | linkByte b => exact channelsOk_live _ h e (sound_receiveByte b)
  | syncAtRest => exact channelsOk_live _ h e (fun k => sound_ite _ k sound_wakeByLink)
  | assemblyGapTimeout | drainQuietTimeout =>
    exact channelsOk_live _ h e (fun k => sound_ite _ k (Sound_of_view rfl))
  | heldRequestServed => exact channelsOk_live _ h e sound_serveHeld
  | frameSent => exact channelsOk_live _ h e sound_frameSent
  | telemetryTimerExpiry => exact channelsOk_due _ _ h e (fun _ => Sound_of_view rfl)
  | idleFillSpacingExpiry => exact channelsOk_live _ h e (fun k => sound_ite _ k sound_transmit)
  | powerOnReset | pinReset => exact Host.Outcome.next.inj e ▸ channelsOk_resetPart _ s
  | requestReset =>
    refine Host.Outcome.next.inj e ▸ ?_
    split
    · exact channelsOk_resetPart _ s
    · exact h
  | startUpEnd reads =>
    refine Host.Outcome.next.inj e ▸ ?_
    split
    next su => exact (channelsOk_iff_view _).2 (sound_finishStartUp (sound_startUp reads h su)).1
    next => exact h
  | imageWriteEnd ok => exact channelsOk_live _ h e (sound_imageEnd ok)
  | markerClearEnd ok => exact channelsOk_live _ h e (sound_markerEnd ok)
  | snapshotWriteEnd ok => exact channelsOk_live _ h e (sound_snapshotEnd ok)
  | admissionScan => exact channelsOk_live _ h e (fun k => sound_finish ((steady_scan s).sound k))
  | waitExpired c =>
    exact channelsOk_due _ _ h e (fun _ => (ends_cancel (p := fun _ _ => True) c .waitExpired s trivial).sound)
  | holdExpiry c => exact channelsOk_due _ _ h e (fun _ => (ends_endMotion c .released .released s (by decide)).sound)
  | stoppingEnd c => exact channelsOk_due _ _ h e (fun d => sound_stoppingEnd c (stopping_of_due d))
  | inputRawChange t high => exact channelsOk_live _ h e (Sound_of_view rfl)
  | inputDebounceExpiry t => exact channelsOk_due _ _ h e (fun _ => sound_debounced t)
  | speedPulse w => exact channelsOk_live _ h e (fun k => sound_finish (sound_speedPulse w k))
  | speedWindowExpiry => exact channelsOk_due _ _ h e (fun _ => sound_speedWindow)
  | stowedSwitchChange j v => exact channelsOk_live _ h e (fun k => sound_finish (sound_stowedSwitch j v k))
  | roomInSwitchChange r v => exact channelsOk_live _ h e (fun k => sound_finish (sound_roomSwitch r v k))
  | awningInSwitchChange v => exact channelsOk_live _ h e (fun k => sound_finish ((ends_awningSwitch v s).sound k))
  | analogScan reads => exact channelsOk_live _ h e (fun k => sound_finish (sound_analogScan reads k))
  | sensorFlagClear flag =>
    cases flag with
    | jack j => exact channelsOk_due _ _ h e (fun _ => sound_clearJackFlag j)
    | line => exact channelsOk_due _ _ h e (fun _ => sound_clearLineFlag)
  | tripTimerExpiry d => exact channelsOk_due _ _ h e (fun _ => sound_trip d)
  | faultSenseChange d v => exact channelsOk_live _ h e (sound_senseChange d v)
  | inclinometerPoll read => exact channelsOk_live _ h e (fun k => sound_finish (sound_inclinometerPoll read k))
  | settleGiveUp => exact channelsOk_due _ _ h e (fun _ => sound_settleEnd true)
  | groundTimeLimit | liftTimeLimit | levelStall | trimTimeLimit | stowTimeLimit =>
    exact channelsOk_due _ _ h e (fun _ => (ends_fail_level _ _ s).sound)
  | trimWaitEnd => exact channelsOk_due _ _ h e (fun _ => (ends_trimTest s).sound)
  | driftTimerExpiry => exact channelsOk_due _ _ h e (fun _ => Sound_of_scope (scope_setLevelStatus _ s))
  | cooldownEnd => exact channelsOk_due _ _ h e (fun _ => sound_cooldownEnd)
  | pumpDutyLimit => exact channelsOk_due _ _ h e (fun _ => sound_pumpDuty _)
  | hydraulicDeadheadEnd r => exact channelsOk_due _ _ h e (fun _ => (ends_hydraulicArrive r s).sound)
  | hydraulicTravelTime r => exact channelsOk_due _ _ h e (fun _ => (ends_room_fail r _ _ s).sound)
  | roomHallPulse r d => exact channelsOk_live _ h e (fun k => sound_finish ((ends_roomPulse r d s).sound k))
  | roomPulseLateExpiry r d => exact channelsOk_due _ _ h e (fun _ => (ends_roomLateExpiry r d s).sound)
  | roomStall r d => exact channelsOk_due _ _ h e (fun _ => (ends_roomStalled r d s).sound)
  | learnReversalEnd r => exact channelsOk_due _ _ h e (fun _ => sound_learnReverse r)
  | awningHallPulse => exact channelsOk_live _ h e (fun k => sound_finish ((ends_awningPulse s).sound k))
  | awningPulseLateExpiry => exact channelsOk_due _ _ h e (fun _ => (ends_awningLateExpiry s).sound)
  | awningStall => exact channelsOk_due _ _ h e (fun _ => sound_awningStalled)
  | anemometerPulse => exact channelsOk_live _ h e (fun k => sound_ite _ k (Sound_of_view rfl))
  | windBinEnd => exact channelsOk_due _ _ h e (fun _ => sound_windBinEnd)
  | lockoutEnd => exact channelsOk_due _ _ h e (fun _ => Sound_of_view rfl)

/-- Settles O6: the view's order is a step invariant, kept by each command's work, by what ends a step and by the tick. -/
theorem stepKeepsChannels : Obligations.StepKeepsChannels := by
  intro s t h e
  unfold step at e
  split at e
  · exact Host.Outcome.next.inj e ▸ channelsOk_tick h
  next c rest _ => exact channelsOk_exec (s := { s with pending := rest }) (ChannelsOk_of_view (s := s) rfl h) e

end Sys2Proof.Machine
end

section
/-! PROOF. The reset state: every channel and every room end carries its default record (O4), and each of the step
invariants holds of it (O5). -/

namespace Sys2Proof.Machine

theorem chanOf_reset (c : Ch) : chanOf .reset c = {} := by
  rcases c with _ | r | _
  · rfl
  · cases r <;> rfl
  · rfl

theorem endOf_reset (r : Room) (e : Side) : endOf .reset r e = {} := by
  cases r <;> cases e <;> rfl

theorem latch_reset (d : Driver) : (State.reset.mon.latches.get d).isSet = false := by
  rcases d with _ | ⟨r, e⟩ | _ | _
  · rfl
  · cases r <;> cases e <;> rfl
  · rfl
  · rfl

theorem resv_reset (c : Ch) : State.reset.mon.resv.get c = none := by
  rcases c with _ | r | _
  · rfl
  · cases r <;> rfl
  · rfl

theorem valve_reset (j : Jack) : valveOpen .reset j = false := by cases j <;> rfl

theorem cfgs_reset : State.reset.cfgs = [Cfg.default] := rfl

/-- Settles O4, value by value. -/
theorem resetValues : Obligations.ResetValues := by
  have room : ∀ r, State.reset.man.roomValves.get r = false := fun r => by cases r <;> rfl
  have alert : ∀ a, (State.reset.link.alerts.get a).cond = false ∧ (State.reset.link.alerts.get a).latch = false :=
    fun a => by cases a <;> exact ⟨rfl, rfl⟩
  have ends : ∀ r e, (endOf .reset r e).drive = .brake := fun r e => by rw [endOf_reset]
  unfold Obligations.ResetValues
  refine ⟨⟨fun c => by simp [chanOf_reset], rfl, rfl, rfl, rfl, rfl, rfl, rfl, rfl, rfl, rfl, valve_reset, room, rfl, rfl,
    rfl, rfl⟩, ends, rfl, rfl, rfl, rfl, rfl, rfl, rfl, rfl, resv_reset, latch_reset, by decide, rfl, rfl, by decide,
    rfl, rfl, rfl, rfl, rfl, alert, rfl, rfl, rfl, rfl, rfl, rfl⟩

theorem default_rolesOk : Cfg.default.rolesOk := ⟨by decide +kernel, by decide +kernel⟩

theorem reset_channelsOk : State.reset.ChannelsOk where
  nodup := List.nodup_nil
  queued c := by
    have empty : State.reset.sup.queue = [] := rfl
    simp [chanOf_reset, empty]
  absent c _ := by simp [chanOf_reset]
  rest n := absurd rfl n
  start _ := ⟨rfl, fun c => by simp [chanOf_reset]⟩

theorem reset_manifoldOk : State.reset.ManifoldOk where
  owned j h := by simp [valve_reset] at h
  retract _ _ j := valve_reset j
  start _ j := valve_reset j

theorem reset_rackOk : State.reset.RackOk where
  driven r e h := absurd (by rw [endOf_reset]) h
  within r h := by simp [isRunning, chanOf_reset] at h
  start _ r := by simp [isRunning, chanOf_reset]

theorem reset_windOk : State.reset.WindOk :=
  ⟨fun h => absurd rfl h, fun h => absurd h (by decide), fun h => absurd rfl h, fun h => absurd rfl h, fun _ => rfl⟩

theorem reset_budgetOk : State.reset.BudgetOk where
  channels := reset_channelsOk
  ranges c hc := by
    rw [cfgs_reset, List.mem_singleton] at hc
    subst hc
    exact ⟨by decide, by decide⟩
  entries c := by simp [resv_reset, runningOrStopping, chanOf_reset]
  reserve c q h := by simp [resv_reset] at h
  ordinary := by decide
  autoOnly c h := by simp [chanOf_reset] at h
  deferredOnly c d h := by simp [chanOf_reset] at h

/-- Settles O5: one lemma per invariant. -/
theorem invariantsHoldAtReset : Obligations.InvariantsHoldAtReset :=
  ⟨reset_channelsOk, reset_manifoldOk, reset_rackOk, reset_windOk, ⟨Nat.zero_le _, fun r e => by simp [endOf_reset]⟩,
    List.nodup_nil, Nat.zero_le _, fun c hc => by
      rw [cfgs_reset, List.mem_singleton] at hc
      exact hc ▸ default_rolesOk,
    reset_budgetOk⟩

end Sys2Proof.Machine
end

section
/-! PROOF. What ends a step (O3): settling leaves what no motion touches, and the rest of `finish` writes alerts, outputs, the
job that begins, the link port and a completions count. -/

namespace Sys2Proof.Machine

/-! ### What the alerts and outputs are derived from -/

/-- A channel's record without its completions count. -/
def uncounted (q : ChanRec) : ChanRec := { q with completions := 0 }

/-- The state without what follows `settle` in `finish`: the link port, the outputs, the memory jobs, completions counts. -/
def derivedFrom (s : State) : State :=
  { s with
    link := {}
    chans := ⟨uncounted s.chans.level, ⟨uncounted s.chans.rooms.a, uncounted s.chans.rooms.b, uncounted s.chans.rooms.c,
      uncounted s.chans.rooms.d⟩, uncounted s.chans.awning⟩
    term := { s.term with outputs := Vector.replicate 8 false }
    store := { s.store with job := none, waiting := [], image := none, snapMark := false } }

theorem chanOf_derivedFrom (s : State) (c : Ch) : chanOf (derivedFrom s) c = uncounted (chanOf s c) := by
  rcases c with _ | r | _
  · rfl
  · cases r <;> rfl
  · rfl

theorem alertCond_derivedFrom (s : State) (a : Alert) : alertCond (derivedFrom s) a = alertCond s a := by
  have hall : ∀ c, hallFaulted (derivedFrom s) c = hallFaulted s c := fun c => by
    unfold hallFaulted
    rw [chanOf_derivedFrom]
    rfl
  cases a with
  | hallFault => exact congrArg (List.any allChs) (funext hall)
  | _ => rfl

theorem outputLevel_derivedFrom (s : State) (o : Fin 8) : outputLevel (derivedFrom s) o = outputLevel s o := rfl

theorem alertCond_congr {s t : State} (h : derivedFrom t = derivedFrom s) (a : Alert) : alertCond t a = alertCond s a := by
  rw [← alertCond_derivedFrom t, h, alertCond_derivedFrom]

theorem outputLevel_congr {s t : State} (h : derivedFrom t = derivedFrom s) (o : Fin 8) : outputLevel t o = outputLevel s o := by
  rw [← outputLevel_derivedFrom t, h, outputLevel_derivedFrom]

theorem derivedFrom_setAlertCond (a : Alert) (v : Bool) (s : State) : derivedFrom (setAlertCond a v s) = derivedFrom s := by
  rw [setAlertCond_frame]
  rfl

theorem derivedFrom_refreshAlerts (s : State) : derivedFrom (refreshAlerts s) = derivedFrom s := by
  rw [refreshAlerts_frame]
  rfl

theorem derivedFrom_refreshOutputs (s : State) : derivedFrom (refreshOutputs s) = derivedFrom s := rfl

theorem derivedFrom_startJob (s : State) : derivedFrom (startJob s) = derivedFrom s := by
  unfold startJob
  split <;> rfl

/-- What the transmitter's choice does to a channel's record: a report that begins takes its completions count (R193). -/
theorem chanOf_beginReport (x : Source) (s : State) (d : Ch) :
    chanOf (beginReport x s) d = if x = .chan d then uncounted (chanOf s d) else chanOf s d := by
  cases x with
  | chan c =>
    by_cases h : d = c
    · subst h
      simp only [if_true]
      exact chanOf_modChan_self _ _ _
    · simp only [Source.chan.injEq, Ne.symm h, if_false]
      exact chanOf_modChan_ne _ _ _ _ h
  | _ => rfl

theorem chanOf_chooseFrame (s : State) (d : Ch) :
    chanOf (chooseFrame s) d = chanOf s d ∨ s.link.tx = none ∧ chanOf (chooseFrame s) d = uncounted (chanOf s d) := by
  have begun : ∀ (x : Source) (t : State), chanOf t d = chanOf s d →
      chanOf (beginReport x t) d = chanOf s d ∨ chanOf (beginReport x t) d = uncounted (chanOf s d) := by
    intro x t e
    rw [chanOf_beginReport, e]
    split
    · exact .inr rfl
    · exact .inl rfl
  unfold chooseFrame
  split
  · exact .inl rfl
  · split <;> exact .inl rfl
  next idle _ =>
    split
    · exact .inl rfl
    · split
      · exact .inl rfl
      · exact Or.imp_right (fun e => ⟨idle, e⟩) (begun _ (modLink _ s) rfl)
      · split
        · exact Or.imp_right (fun e => ⟨idle, e⟩) (begun _ s rfl)
        · exact .inl rfl

theorem chans_ext {p q : PerCh ChanRec} (h : ∀ c, p.get c = q.get c) : p = q := by
  have l : p.level = q.level := h .level
  have a : p.rooms.a = q.rooms.a := h (.room .a)
  have b : p.rooms.b = q.rooms.b := h (.room .b)
  have c : p.rooms.c = q.rooms.c := h (.room .c)
  have d : p.rooms.d = q.rooms.d := h (.room .d)
  have w : p.awning = q.awning := h .awning
  rcases p with ⟨_, ⟨_, _, _, _⟩, _⟩
  rcases q with ⟨_, ⟨_, _, _, _⟩, _⟩
  simp_all

theorem derivedFrom_transmit (s : State) : derivedFrom (transmit s) = derivedFrom s := by
  have chans : (derivedFrom (chooseFrame s)).chans = (derivedFrom s).chans := chans_ext fun c => by
    have e : (derivedFrom (chooseFrame s)).chans.get c = uncounted (chanOf (chooseFrame s) c) := chanOf_derivedFrom _ c
    have e' : (derivedFrom s).chans.get c = uncounted (chanOf s c) := chanOf_derivedFrom _ c
    rw [e, e']
    obtain k | ⟨-, k⟩ := chanOf_chooseFrame s c <;> rw [k]
    rfl
  have frame : derivedFrom (chooseFrame s) = { derivedFrom s with chans := (derivedFrom (chooseFrame s)).chans } := by
    rw [chooseFrame_frame]
    rfl
  exact frame.trans (by rw [chans])

theorem derivedFrom_finish (s : State) : derivedFrom (finish s) = derivedFrom (driveAwayCheck (settle s)) := by
  unfold finish conclude
  rw [derivedFrom_transmit, derivedFrom_startJob, derivedFrom_refreshOutputs, derivedFrom_refreshAlerts]

/-! ### What stays as it was -/

/-- What `finish` never writes. -/
def untouched (s : State) : State :=
  { derivedFrom (kept s) with
    sup := {}
    store := { (derivedFrom (kept s)).store with markerClean := false }
    link := { s.link with
      tx := none, part2 := none, reports := [], postureCause := none, lastTelemetry := none, alerts := ({} : Link).alerts,
      attention := false } }

theorem untouched_settle (s : State) : untouched (driveAwayCheck (settle s)) = untouched s := by
  have check : untouched (driveAwayCheck (settle s)) = untouched (settle s) := by
    unfold driveAwayCheck
    split
    · exact (fun _ => rfl : ∀ x, untouched (endDriveAway x) = untouched x) _
    · rfl
  have l : ∀ x, untouched x = untouched (kept x) := fun _ => rfl
  rw [check, l, (steady_settle s).kept, ← l]

theorem untouched_refreshAlerts (s : State) : untouched (refreshAlerts s) = untouched s := by
  rw [refreshAlerts_frame]
  rfl

theorem untouched_startJob (s : State) : untouched (startJob s) = untouched s := by
  unfold startJob
  split <;> rfl

theorem untouched_transmit (s : State) : untouched (transmit s) = untouched s := by
  unfold transmit
  rw [chooseFrame_frame]
  rfl

theorem untouched_refreshOutputs (s : State) : untouched (refreshOutputs s) = untouched s := rfl

theorem untouched_finish (s : State) : untouched (finish s) = untouched s := by
  unfold finish conclude
  rw [untouched_transmit, untouched_startJob, untouched_refreshOutputs, untouched_refreshAlerts, untouched_settle]

/-- What reads the same from a state and from its untouched part is the same after `finish`. -/
theorem of_untouched {β : Type} (p : State → β) (hp : ∀ x, p (untouched x) = p x) (s : State) : p (finish s) = p s := by
  rw [← hp (finish s), untouched_finish, hp]

theorem finish_term (s : State) : (finish s).term = { s.term with outputs := (finish s).term.outputs } := by
  have e := of_untouched (fun x => { x.term with outputs := Vector.replicate 8 false }) (fun _ => rfl) s
  exact congrArg (fun u : Terminals => { u with outputs := (finish s).term.outputs }) e

theorem finish_mon (s : State) :
    (finish s).mon = { s.mon with
      resv := (finish s).mon.resv, latches := (finish s).mon.latches, tripSince := (finish s).mon.tripSince } := by
  have e := of_untouched (fun x => { x.mon with resv := PerCh.all none, latches := PerDriver.all {}, tripSince := PerDriver.all none })
    (fun _ => rfl) s
  exact congrArg (fun u : Monitor => { u with
    resv := (finish s).mon.resv, latches := (finish s).mon.latches, tripSince := (finish s).mon.tripSince }) e

theorem finish_store (s : State) :
    (finish s).store = { s.store with
      image := (finish s).store.image, snapMark := (finish s).store.snapMark,
      markerClean := (finish s).store.markerClean, job := (finish s).store.job, waiting := (finish s).store.waiting } := by
  have e := of_untouched (fun x => { x.store with
    image := none, snapMark := false, markerClean := false, job := none, waiting := [] }) (fun _ => rfl) s
  exact congrArg (fun u : Store => { u with
      image := (finish s).store.image, snapMark := (finish s).store.snapMark,
      markerClean := (finish s).store.markerClean, job := (finish s).store.job, waiting := (finish s).store.waiting }) e

theorem finish_link (s : State) :
    (finish s).link = { s.link with
      tx := (finish s).link.tx, part2 := (finish s).link.part2, reports := (finish s).link.reports,
      postureCause := (finish s).link.postureCause, lastTelemetry := (finish s).link.lastTelemetry,
      alerts := (finish s).link.alerts, attention := (finish s).link.attention } := by
  have e := of_untouched (fun x => { x.link with
      tx := none, part2 := none, reports := [], postureCause := none, lastTelemetry := none, alerts := ({} : Link).alerts,
      attention := false }) (fun _ => rfl) s
  exact congrArg (fun u : Link => { u with
      tx := (finish s).link.tx, part2 := (finish s).link.part2, reports := (finish s).link.reports,
      postureCause := (finish s).link.postureCause, lastTelemetry := (finish s).link.lastTelemetry,
      alerts := (finish s).link.alerts, attention := (finish s).link.attention }) e

/-! ### The alerts (R181) -/

/-- An alert's record once its owner has given its condition. -/
def AlertRec.given (v : Bool) (q : AlertRec) : AlertRec := { cond := v, latch := q.latch || (v && !q.cond) }

theorem PerAlert_set_get {α : Type} (p : PerAlert α) (a : Alert) : p.set a (p.get a) = p := by cases a <;> rfl

theorem signal_alerts (x : Source) (s : State) : (signal x s).link.alerts = s.link.alerts := by
  rw [signal_frame]

theorem setAlertCond_alerts (a : Alert) (v : Bool) (s : State) :
    (setAlertCond a v s).link.alerts = s.link.alerts.set a ((s.link.alerts.get a).given v) := by
  unfold setAlertCond
  extract_lets q s1
  split
  next same =>
    have e : q.given v = q := by
      rw [AlertRec.given, same, Bool.and_not_self, Bool.or_false, ← same]
    change s.link.alerts = s.link.alerts.set a (q.given v)
    rw [e]
    exact (PerAlert_set_get _ a).symm
  next change =>
    have e : q.given v = { cond := v, latch := q.latch || v } := by
      have n : q.cond = !v := Bool.eq_not.2 change
      simp [AlertRec.given, n]
    have moved : s1.link.alerts = s.link.alerts.set a (q.given v) := by
      rw [e]
      rfl
    split
    · exact (signal_alerts _ _).trans moved
    · exact moved

/-- A fold that gives each alert of a list its condition gives every other alert nothing. -/
theorem giveAlerts (l : List Alert) (s : State) (nodup : l.Nodup) (a : Alert) :
    (l.foldl (fun t a => setAlertCond a (alertCond t a) t) s).link.alerts.get a =
      if a ∈ l then (s.link.alerts.get a).given (alertCond s a) else s.link.alerts.get a := by
  induction l generalizing s with
  | nil => simp
  | cons b l ih =>
    obtain ⟨out, nodup⟩ := List.nodup_cons.1 nodup
    have cond : alertCond (setAlertCond b (alertCond s b) s) a = alertCond s a :=
      alertCond_congr (derivedFrom_setAlertCond _ _ _) a
    rw [List.foldl_cons, ih _ nodup, cond, setAlertCond_alerts]
    by_cases e : a = b
    · subst e
      simp [out]
    · simp [e, PerAlert_get_set_ne _ _ _ _ e]

theorem refreshAlerts_get (s : State) (a : Alert) :
    (refreshAlerts s).link.alerts.get a = (s.link.alerts.get a).given (alertCond s a) := by
  have all : a ∈ allAlerts := by cases a <;> decide
  exact (giveAlerts allAlerts s (by decide) a).trans (if_pos all)

theorem transmit_alerts (s : State) : (transmit s).link.alerts = s.link.alerts := by
  unfold transmit
  rw [chooseFrame_frame]
  rfl

theorem startJob_link (s : State) : (startJob s).link = s.link := by
  rw [startJob_frame]

theorem settle_alerts (s : State) : (driveAwayCheck (settle s)).link.alerts = s.link.alerts := by
  have check : (driveAwayCheck (settle s)).link = (settle s).link := by
    unfold driveAwayCheck
    split <;> rfl
  rw [check]
  exact of_kept (fun x => x.link.alerts) (fun _ => rfl) (steady_settle s).kept

theorem finish_alert (s : State) (a : Alert) :
    (finish s).link.alerts.get a = (s.link.alerts.get a).given (alertCond (finish s) a) := by
  have e : (finish s).link.alerts = (refreshAlerts (driveAwayCheck (settle s))).link.alerts := by
    unfold finish conclude
    rw [transmit_alerts, startJob_link]
    rfl
  rw [e, refreshAlerts_get, settle_alerts, alertCond_congr (derivedFrom_finish s)]

/-! ### The outputs and the attention line -/

theorem startJob_term (s : State) : (startJob s).term = s.term := by
  rw [startJob_frame]

theorem finish_outputs (s : State) (o : Fin 8) : (finish s).term.outputs.get o = outputLevel (finish s) o := by
  have e : (finish s).term.outputs = Vector.ofFn (outputLevel (refreshAlerts (driveAwayCheck (settle s)))) := by
    have k : (finish s).term = (conclude s).term := by
      unfold finish transmit
      rw [chooseFrame_frame]
      rfl
    rw [k]
    unfold conclude
    rw [startJob_term]
    rfl
  have d : outputLevel (finish s) o = outputLevel (refreshAlerts (driveAwayCheck (settle s))) o :=
    outputLevel_congr ((derivedFrom_finish s).trans (derivedFrom_refreshAlerts _).symm) o
  rw [e, d]
  exact Vector.getElem_ofFn o.isLt

theorem finish_attention (s : State) :
    (finish s).link.attention = (!s.power.startingUp && !(finish s).link.reports.isEmpty) := by
  have p : (finish s).power = s.power := of_untouched State.power (fun _ => rfl) s
  rw [← p]
  rfl

/-! ### Nothing due -/

theorem settle_of_settled {s : State} (h : settled s = true) : settle s = s := by
  change (if settled s then s else _) = s
  rw [if_pos h]

theorem driveAwayCheck_of_not {s : State} (h : (s.sup.driveAway && travelReady s) = false) : driveAwayCheck s = s := by
  unfold driveAwayCheck
  rw [if_neg (by simp [h])]

theorem startJob_memory (s : State) :
    startJob s = { s with store := { s.store with
      job := (startJob s).store.job, waiting := (startJob s).store.waiting, image := (startJob s).store.image,
      snapMark := (startJob s).store.snapMark } } := by
  unfold startJob
  split <;> rfl

/-- With nothing due, `finish` derives alerts and outputs, begins a job and chooses a frame. -/
theorem finish_of_settled {s : State} (h : settled s = true) (d : (s.sup.driveAway && travelReady s) = false) :
    finish s = transmit (startJob (refreshOutputs (refreshAlerts s))) := by
  unfold finish conclude
  rw [settle_of_settled h, driveAwayCheck_of_not d]

theorem finish_frame_of_settled {s : State} (h : settled s = true) (d : (s.sup.driveAway && travelReady s) = false) :
    finish s = { s with
      link := (finish s).link, chans := (finish s).chans
      term := { s.term with outputs := (finish s).term.outputs }
      store := { s.store with
        job := (finish s).store.job, waiting := (finish s).store.waiting, image := (finish s).store.image,
        snapMark := (finish s).store.snapMark } } := by
  rw [finish_of_settled h d]
  unfold transmit
  rw [chooseFrame_frame, startJob_memory, refreshAlerts_frame]
  rfl

theorem chanOf_finish_of_settled {s : State} (h : settled s = true) (d : (s.sup.driveAway && travelReady s) = false) (c : Ch) :
    chanOf (finish s) c = chanOf s c ∨ s.link.tx = none ∧ chanOf (finish s) c = uncounted (chanOf s c) := by
  have before : ∀ x, chanOf (startJob (refreshOutputs (refreshAlerts s))) x = chanOf s x := fun x => by
    rw [startJob_frame, refreshAlerts_frame]
    rfl
  have tx : (startJob (refreshOutputs (refreshAlerts s))).link.tx = s.link.tx := by
    rw [startJob_link, refreshAlerts_frame]
    rfl
  have k := chanOf_chooseFrame (startJob (refreshOutputs (refreshAlerts s))) c
  rw [before, tx] at k
  rw [finish_of_settled h d]
  exact k

/-- Settles O3: what stays, what is derived, and that with nothing due no motion moves. -/
theorem endOfStepDerives : Obligations.EndOfStepDerives := by
  unfold Obligations.EndOfStepDerives
  refine ⟨fun s => ?_, fun s => ?_, fun s h d => ?_⟩
  · have now : (finish s).now = s.now := of_untouched State.now (fun _ => rfl) s
    have pending : (finish s).pending = s.pending := of_untouched State.pending (fun _ => rfl) s
    have power : (finish s).power = s.power := of_untouched State.power (fun _ => rfl) s
    have wind : (finish s).wind = s.wind := of_untouched State.wind (fun _ => rfl) s
    have scan : (finish s).scan = s.scan := of_untouched State.scan (fun _ => rfl) s
    exact ⟨now, pending, power, wind, scan, finish_term s, finish_mon s, finish_store s, finish_link s⟩
  · have outputs := finish_outputs s
    have attention := finish_attention s
    refine ⟨fun a => ?_, outputs, attention⟩
    have e := finish_alert s a
    exact ⟨congrArg AlertRec.cond e, congrArg AlertRec.latch e⟩
  · refine ⟨finish_frame_of_settled h d, fun c => ?_⟩
    obtain e | ⟨tx, e⟩ := chanOf_finish_of_settled h d c
    · rw [e]
      exact ⟨rfl, .inl rfl⟩
    · rw [e]
      exact ⟨rfl, .inr ⟨rfl, tx⟩⟩

end Sys2Proof.Machine
end

section
/-! PROOF. Requests of the link port: a listening part serves a request command, and what its reply leaves unchanged. START
(O13 to O15), HOLD and CLEAR (O16). -/

namespace Sys2Proof.Machine

/-! ### Service and reply -/

/-- A request command meets a part that listens: the request is served. -/
theorem exec_request {s : State} (L : s.Listening) {i : Instr} {tag : Byte} {q : Req} (h : requestOf i = some (tag, q)) :
    exec i s = .next (serve tag q s) := by
  obtain ⟨live, run, hunt, room⟩ := L
  have taken : whenLive (takeRequest tag q) s = serve tag q s := by
    simp [whenLive, takeRequest, acceptRequest, live, run, hunt, room]
  rw [← taken]
  cases i <;> first
    | (obtain ⟨rfl, rfl⟩ := Prod.mk.inj (Option.some.inj h); rfl)
    | cases h

/-- A reply ends a step with the transmitter alone: the reply buffer, its line and the attention line. -/
theorem transmit_pushReply (tag kind : Byte) (l : List Byte) (s : State) :
    ∃ tx a, transmit (pushReply tag kind l s) = { s with link := { s.link with
      replies := s.link.replies ++ [{ kind := replyKind kind, tag := tag, payload := l }], tx := tx, attention := a } } :=
  ⟨_, _, transmit_reply (pushReply tag kind l s) (by simp [pushReply])⟩

theorem answered_transmit {s : State} {kind k tag : Byte} {l : List Byte} (hk : replyKind kind = k) (u : State)
    (hu : u.link = s.link) : s.Answered (transmit (pushReply tag kind l u)) k tag l := by
  obtain ⟨tx, a, e⟩ := transmit_pushReply tag kind l u
  rw [State.Answered, e, ← hu, ← hk]

/-- A request that is answered by its reply alone. -/
theorem answersOnly {s : State} (L : s.Listening) {i : Instr} {tag kind k : Byte} {q : Req} {l : List Byte}
    (h : requestOf i = some (tag, q)) (e : serve tag q s = transmit (pushReply tag kind l s)) (hk : replyKind kind = k) :
    s.AnswersOnly i k tag l := by
  refine ⟨_, exec_request L h, ?_, ?_⟩
  · obtain ⟨tx, a, t⟩ := transmit_pushReply tag kind l s
    rw [State.OnlyLink, e, t]
  · rw [e]
    exact answered_transmit hk s rfl

/-- A verdict of a request that does nothing is its whole answer. -/
theorem answer_of_quiet {tag kind : Byte} {v : Verdict} {s : State} (h : v.acts = false) :
    answer tag kind (v, s) = transmit (pushReply tag kind v.payload s) := by
  simp [answer, h]

/-- A verdict of a request that acts is followed by what ends a step. -/
theorem answer_of_acts {tag kind : Byte} {v : Verdict} {s : State} (h : v.acts = true) :
    answer tag kind (v, s) = finish (pushReply tag kind v.payload s) := by
  simp [answer, h]

/-- A reply that joins the buffer beside a report. -/
theorem replied_pushReply {s u : State} {kind k tag : Byte} {l : List Byte} (hk : replyKind kind = k)
    (hu : u.link = { s.link with reports := u.link.reports }) (hr : ∀ x ∈ s.link.reports, x ∈ u.link.reports) :
    s.Replied (pushReply tag kind l u) k tag l := by
  refine ⟨?_, hr⟩
  have e : (pushReply tag kind l u).link =
      { u.link with replies := u.link.replies ++ [{ kind := replyKind kind, tag := tag, payload := l }] } := rfl
  rw [e, hk, hu]

theorem mem_signal (x y : Source) (s : State) (h : y ∈ s.link.reports) : y ∈ (signal x s).link.reports := by
  unfold signal queueSource
  split
  · simp only [modLink_link]
    split
    · exact h
    · exact List.mem_append_left _ h
  · exact h

theorem mem_signal_self (x : Source) (s : State) (h : s.store.cfg.sourceEnabled x = true) :
    x ∈ (signal x s).link.reports := by
  unfold signal queueSource
  rw [if_pos h]
  simp only [modLink_link]
  split
  next m => exact m
  · exact List.mem_append_right _ (List.mem_singleton.2 rfl)

/-- The queue that a signal leaves depends on the queue and the configuration alone. -/
theorem signal_reports_congr {s t : State} (x : Source) (link : t.link.reports = s.link.reports)
    (cfg : t.store.cfg = s.store.cfg) : (signal x t).link.reports = (signal x s).link.reports := by
  simp only [signal, queueSource, cfg, apply_ite State.link, apply_ite Link.reports, modLink_link, link]

/-! ### START (R4, R5) -/

theorem serve_start (tag : Byte) {c : Ch} {o : Op} {v : Half} (h : Bool) (s : State) (enc : startEncoded c o v = true) :
    serve tag (.start c o h v) s = answer tag 0x01 (startMotion c o h v.toNat .link none s) := by
  simp [serve, Req.encoded, enc, serveStart]

/-- A START of the link port whose verdict does nothing changes nothing but the reply. -/
theorem start_answersOnly {s : State} (L : s.Listening) {tag : Byte} {c : Ch} {o : Op} {h : Bool} {v : Half} (w : Verdict)
    (enc : startEncoded c o v = true) (quiet : w.acts = false) (e : startMotion c o h v.toNat .link none s = (w, s)) :
    s.AnswersOnly (.start tag c o h v) 0x81 tag w.payload := by
  refine answersOnly L rfl ?_ (kind := 0x01) (by decide)
  rw [serve_start tag h s enc, e, answer_of_quiet quiet]

theorem refused_payload (r : Reason) :
    (Verdict.refused r none).payload = replyHead .refused (some r) none false false false := by
  simp [Verdict.payload]

/-- A START that passes the first five checks of R4 is judged by the operation's own. -/
theorem startMotion_of_idle {s : State} {c : Ch} {o : Op} {h : Bool} {n : Nat} {w : Owner} {q : Option AutoCause}
    (run : s.power.state = .run) (here : s.present c = true) (free : allStopActive s = false)
    (idle : (chanOf s c).state = .idle) :
    startMotion c o h n w q s =
      if o = .captureZero then
        match captureRefusal s with
        | some (r, i) => (.refused r i, s)
        | none => (.ok, captureZero s)
      else match lateChecks s c o h n w with
        | some (r, i) => (.refused r i, s)
        | none => (.accepted, accept c o h n w q s) := by
  simp [startMotion, run, here, free, idle] <;> rfl

/-- The late checks of a LINK START whose job block has no objection. -/
theorem lateChecks_link {s : State} {c : Ch} {o : Op} {n : Nat} {m : Motion} (h : Bool) (job : jobCheck s c o n = none)
    (hm : motionOf c o n .none = some m) :
    lateChecks s c o h n .link = match firstUnsat s c m false with
      | some i => some (.interlock, some i)
      | none => if needsHold s c o = true ∧ h = false then some (.holdRequired, none) else none := by
  have link : (Owner.link == Owner.automatic && o == Op.autoRetract) = false := rfl
  simp only [lateChecks, job, hm, link]
  cases firstUnsat s c m false <;> simp

theorem startMotion_of_late {s : State} {c : Ch} {o : Op} {h : Bool} {n : Nat} {r : Reason} {i : Option Item}
    (run : s.power.state = .run) (here : s.present c = true) (free : allStopActive s = false)
    (idle : (chanOf s c).state = .idle) (nz : o ≠ .captureZero) (late : lateChecks s c o h n .link = some (r, i)) :
    startMotion c o h n .link none s = (.refused r i, s) := by
  rw [startMotion_of_idle run here free idle, if_neg nz, late]

/-- Settles O13, check by check in the order of R4. -/
theorem startRefused : Obligations.StartRefused := by
  intro s tag c o h v L enc q answers refused
  have run := L.run
  have refuse : ∀ r, startMotion c o h v.toNat .link none s = (.refused r none, s) → refused r := fun r e => by
    have k := start_answersOnly L _ enc rfl e (tag := tag)
    rwa [refused_payload] at k
  split
  next absent => exact refuse _ (by simp [startMotion, run, absent])
  next here =>
  have here : s.present c = true := Bool.not_eq_false _ ▸ here
  split
  next held => exact refuse _ (by simp [startMotion, run, here, held])
  next free =>
  have free : allStopActive s = false := Bool.not_eq_true _ ▸ free
  split
  next faulted => exact refuse _ (by simp [startMotion, run, here, free, show (chanOf s c).state = .faulted from faulted])
  next sound =>
  split
  next mine =>
    exact start_answersOnly L .already enc rfl (by
      unfold startMotion
      simp only [run, here, free, ne_eq, not_true_eq_false, if_false, Bool.not_true, Bool.false_eq_true]
      rw [if_neg sound, if_pos mine])
  next other =>
  split
  next busy =>
    exact start_answersOnly L .busy enc rfl (by
      unfold startMotion
      simp only [run, here, free, ne_eq, not_true_eq_false, if_false, Bool.not_true, Bool.false_eq_true]
      rw [if_neg sound, if_neg other, if_neg (fun k => nomatch k.2), if_pos busy])
  next idle =>
  have idle : (chanOf s c).state = .idle := not_not.1 idle
  intro nz
  have late : ∀ r i, lateChecks s c o h v.toNat .link = some (r, i) →
      answers (Verdict.refused r i).payload := fun r i e =>
    start_answersOnly L _ enc rfl (startMotion_of_late run here free idle nz e)
  refine ⟨fun r job => ?_, fun job m hm => ⟨fun i unsat => ?_, fun sat hold no => ?_⟩⟩
  · have k := late r none (by simp [lateChecks, job])
    rwa [refused_payload] at k
  · have k := late .interlock (some i) (by rw [lateChecks_link h job hm, unsat])
    simpa [Verdict.payload] using k
  · have k := late .holdRequired none (by rw [lateChecks_link h job hm, sat]; simp [hold, no])
    rwa [refused_payload] at k

/-- Everything that an acceptance writes (R5, R83). -/
theorem accept_frame (c : Ch) (o : Op) (h : Bool) (n : Nat) (w : Owner) (q : Option AutoCause) (s : State) :
    accept c o h n w q s = { s with
      chans := (modChan c (acceptedRec s c o h n w q) s).chans
      sup := { s.sup with queue := s.sup.queue ++ [⟨c, s.now⟩], scanDue := true }
      lev := { s.lev with drift := if c = .level then none else s.lev.drift }
      link := { s.link with reports := (accept c o h n w q s).link.reports } } := by
  by_cases l : c = .level
  · subst l
    unfold accept
    rw [signal_frame]
    rfl
  · unfold accept
    rw [signal_frame]
    simp only [if_neg l]
    rfl

theorem mem_accept (c : Ch) (o : Op) (h : Bool) (n : Nat) (w : Owner) (q : Option AutoCause) (s : State) :
    (∀ x ∈ s.link.reports, x ∈ (accept c o h n w q s).link.reports) ∧
      (s.store.cfg.sourceEnabled (.chan c) = true → Source.chan c ∈ (accept c o h n w q s).link.reports) := by
  have before : ∃ u : State, accept c o h n w q s = signal (.chan c) u ∧ u.link = s.link ∧ u.store = s.store := by
    refine ⟨_, rfl, ?_, ?_⟩
    · simp only [apply_ite State.link]
      exact ite_self _
    · simp only [apply_ite State.store]
      exact ite_self _
  obtain ⟨u, e, link, store⟩ := before
  rw [e]
  exact ⟨fun x hx => mem_signal _ x u (link ▸ hx), fun en => mem_signal_self _ u (store ▸ en)⟩

/-- Settles O14: the acceptance of R5, then the reply. -/
theorem startAccepted : Obligations.StartAccepted := by
  intro s tag c o h v m L enc here free idle nz job hm sat hold
  have late : lateChecks s c o h v.toNat .link = none := by
    rw [lateChecks_link h job hm, sat]
    simpa using hold
  have e : startMotion c o h v.toNat .link none s = (.accepted, accept c o h v.toNat .link none s) := by
    rw [startMotion_of_idle L.run here free idle, if_neg nz, late]
  have frame := accept_frame c o h v.toNat .link none s
  obtain ⟨keeps, joins⟩ := mem_accept c o h v.toNat .link none s
  refine ⟨pushReply tag 0x01 (plainReply .accepted) (accept c o h v.toNat .link none s), ?_, ?_, ?_, ?_, ?_,
    replied_pushReply (by decide) ?_ keeps, joins, ?_⟩
  · rw [exec_request L (tag := tag) (q := .start c o h v) rfl, serve_start tag h s enc, e]
    rfl
  · exact chanOf_accept_self c o h v.toNat .link none s
  · exact fun d n => chanOf_accept_ne c d o h v.toNat .link none s n
  · change (accept c o h v.toNat .link none s).sup = _
    rw [frame]
  · change (accept c o h v.toNat .link none s).lev = _
    rw [frame]
  · rw [frame]
  · generalize accept c o h v.toNat .link none s = u at frame
    rw [frame]
    rfl

/-! ### CAPTURE_ZERO (R66, R88) -/

/-- The captured offsets are floor means of the uncorrected pairs (R88). -/
theorem zeroCapture_eq (l : List RingEntry) :
    zeroCapture l = ⟨Int.fdiv (l.map (fun e => e.raw.pitch)).sum l.length, Int.fdiv (l.map (fun e => e.raw.roll)).sum l.length⟩ := by
  simp [zeroCapture, meanGrad, floorMean, floorDiv, Function.comp_def]

/-- Everything that a capture writes: the two offsets, the drift timer, the plan record. -/
theorem captureZero_frame (s : State) :
    captureZero s = { s with
      store := { s.store with
        cfg := (s.store.cfg.put .learned 0 (zeroCapture s.lev.ring).pitch).put .learned 1 (zeroCapture s.lev.ring).roll }
      lev := { s.lev with drift := none, plan := s.lev.plan.map (fun p => { p with final := none, outcome := none }) } } := by
  unfold captureZero
  generalize zeroCapture s.lev.ring = z
  rfl

/-- Settles O15: the two refusals of R66, and the capture itself. -/
theorem startCapturesZero : Obligations.StartCapturesZero := by
  intro s tag h L here free idle cmd
  have enc : startEncoded .level .captureZero 0 = true := by decide
  have verdict : startMotion .level .captureZero h (0 : Half).toNat .link none s =
      match captureRefusal s with
      | some (r, i) => (.refused r i, s)
      | none => (.ok, captureZero s) := by
    rw [startMotion_of_idle L.run here free idle, if_pos rfl]
  split
  next air =>
    refine start_answersOnly L (.refused .interlock (some .jackContact)) enc rfl ?_
    rw [verdict, captureRefusal, if_pos (by simp [air])]
  next ground =>
  have ground : ¬ (!allGround s) = true := by simpa using ground
  split
  next few =>
    refine start_answersOnly L (.refused .noSensor none) enc rfl ?_
    rw [verdict, captureRefusal, if_neg ground, if_pos (by simpa [Config.ringSize] using few)]
  next full =>
    have e : startMotion .level .captureZero h (0 : Half).toNat .link none s = (.ok, captureZero s) := by
      rw [verdict, captureRefusal, if_neg ground, if_neg (by simpa [Config.ringSize] using full)]
    have frame := captureZero_frame s
    generalize captureZero s = u at e frame
    refine ⟨pushReply tag 0x01 (plainReply .ok) u, ?_, ?_, ?_, replied_pushReply (by decide) ?_ (fun x k => ?_), ?_⟩
    · rw [exec_request L (tag := tag) (q := .start .level .captureZero h 0) rfl, serve_start tag h s enc, e]
      rfl
    · rw [frame, zeroCapture_eq]
      rfl
    · rw [frame]
      rfl
    · rw [frame]
    · rw [frame]
      exact k
    · rw [frame]
      rfl

end Sys2Proof.Machine
end

section
/-! PROOF. HOLD and CLEAR (O16): what each answers in every state of its channel, and what a CLEAR writes. -/

namespace Sys2Proof.Machine

/-! ### HOLD (R13) -/

theorem serve_hold (tag : Byte) (c : Ch) (s : State) :
    serve tag (.hold c) s = transmit (pushReply tag 0x02 (holdMotion c .link s).1.payload (holdMotion c .link s).2) := by
  simp [serve, Req.encoded, serveHold]

theorem lastReleased_iff (s : State) (c : Ch) (w : Owner) :
    lastReleased s c w = true ↔
      (chanOf s c).last = some ⟨.released, some w⟩ ∨ (chanOf s c).last = some ⟨.cancelled .released, some w⟩ := by
  unfold lastReleased
  cases (chanOf s c).last with
  | none => simp
  | some l =>
    obtain ⟨t, o⟩ := l
    simp [or_and_right]

theorem hold_answersOnly {s : State} (L : s.Listening) {tag : Byte} {c : Ch} (v : Verdict) (e : holdMotion c .link s = (v, s)) :
    s.AnswersOnly (.hold tag c) 0x82 tag v.payload :=
  answersOnly L rfl (by rw [serve_hold, e]) (by decide) (kind := 0x02)

/-- The record of a motion whose hold is renewed (R13). -/
def renewedRec (s : State) (q : ChanRec) : ChanRec := { q with deadline := s.now + s.store.cfg.holdWindow }

theorem hold_renews {s : State} (L : s.Listening) (tag : Byte) (c : Ch) (here : s.present c = true)
    (mine : ((chanOf s c).state = .pending ∨ (chanOf s c).state = .running) ∧ (chanOf s c).hold = true ∧
      (chanOf s c).owner = some .link) :
    ∃ t, exec (.hold tag c) s = .next t ∧
      chanOf t c = { chanOf s c with deadline := s.now + s.store.cfg.holdWindow } ∧
      (∀ d, d ≠ c → chanOf t d = chanOf s d) ∧ s.Answered t 0x82 tag (plainReply .ok) ∧
      t = { s with chans := t.chans, link := t.link } := by
  have e : holdMotion c .link s = (.ok, modChan c (renewedRec s) s) := by
    unfold holdMotion
    simp only [here, Bool.not_true, Bool.false_eq_true, if_false]
    exact if_pos mine
  have run := exec_request L (i := .hold tag c) rfl
  rw [serve_hold, e] at run
  obtain ⟨tx, a, frame⟩ := transmit_pushReply tag 0x02 Verdict.ok.payload (modChan c (renewedRec s) s)
  refine ⟨_, run, ?_, fun d n => ?_, answered_transmit (by decide) _ rfl, ?_⟩
  · rw [frame]
    exact chanOf_modChan_self c (renewedRec s) s
  · rw [frame]
    exact chanOf_modChan_ne c d (renewedRec s) s n
  · rw [frame]
    rfl

/-! ### CLEAR (R19, R156) -/

theorem serve_clear (tag : Byte) (c : Ch) (s : State) : serve tag (.clear c) s = answer tag 0x04 (clearFault c s) := by
  simp [serve, Req.encoded, serveClear]

theorem clear_answersOnly {s : State} (L : s.Listening) {tag : Byte} {c : Ch} (v : Verdict) (quiet : v.acts = false)
    (e : clearFault c s = (v, s)) : s.AnswersOnly (.clear tag c) 0x84 tag v.payload :=
  answersOnly L rfl (by rw [serve_clear, e, answer_of_quiet quiet]) (by decide) (kind := 0x04)

theorem mem_allDrivers (d : Driver) : d ∈ allDrivers := by
  rcases d with _ | ⟨r, e⟩ | _ | _
  · decide
  · cases r <;> cases e <;> decide
  · decide
  · decide

theorem mem_latchesOf (s : State) (c : Ch) (d : Driver) :
    d ∈ latchesOf s c ↔ (s.mon.latches.get d).isSet = true ∧ (s.mon.latches.get d).ch = some c := by
  simp [latchesOf, mem_allDrivers]

/-- Latches that clear one after another: monitor and the mark of a scan alone. -/
theorem clearLatches_frame (l : List Driver) (s : State) :
    l.foldl (fun t d => clearLatch d t) s = { s with
      mon := { s.mon with
        latches := (l.foldl (fun t d => clearLatch d t) s).mon.latches
        tripSince := (l.foldl (fun t d => clearLatch d t) s).mon.tripSince }
      sup := { s.sup with scanDue := s.sup.scanDue || !l.isEmpty } } := by
  induction l generalizing s with
  | nil => simp
  | cons d l ih =>
    rw [List.foldl_cons, ih]
    simp [clearLatch]

theorem clearLatches_get (l : List Driver) (s : State) (d : Driver) :
    (l.foldl (fun t d => clearLatch d t) s).mon.latches.get d = if d ∈ l then {} else s.mon.latches.get d := by
  induction l generalizing s with
  | nil => simp
  | cons k l ih =>
    have one : (clearLatch k s).mon.latches.get d = if d = k then {} else s.mon.latches.get d := by
      by_cases e : d = k
      · subst e
        simp [clearLatch]
      · simp [clearLatch, e, PerDriver_get_set_ne _ _ _ _ e]
    rw [List.foldl_cons, ih, one]
    by_cases e : d = k <;> simp [e]

/-- Where no latch recorded to a channel is set, their examination finds nothing. -/
theorem examineLatchesOf_of_clear (c : Ch) (s : State)
    (h : ∀ d, (s.mon.latches.get d).ch = some c → (s.mon.latches.get d).isSet = false) : examineLatchesOf c s = s := by
  have each : ∀ d ∈ allDrivers.filter (fun d => (s.mon.latches.get d).ch == some c), examineLatch d s = s := fun d hd => by
    have clear := h d (by simpa using (List.mem_filter.1 hd).2)
    simp [examineLatch, latchClears, clear]
  unfold examineLatchesOf
  generalize allDrivers.filter (fun d => (s.mon.latches.get d).ch == some c) = l at each
  induction l with
  | nil => rfl
  | cons d l ih =>
    rw [List.foldl_cons, each d List.mem_cons_self]
    exact ih fun k hk => each k (List.mem_cons_of_mem _ hk)

theorem entersIdle_of_clear (c : Ch) (s : State)
    (h : ∀ d, (s.mon.latches.get d).ch = some c → (s.mon.latches.get d).isSet = false) :
    entersIdle c s = { s with sup := { s.sup with owedDue := (entersIdle c s).sup.owedDue } } := by
  unfold entersIdle
  rw [examineLatchesOf_of_clear c s h]
  extract_lets u
  split <;> rfl

/-- The record that a CLEAR leaves (R19). -/
def unfaultedRec (q : ChanRec) : ChanRec := { q with state := .idle, fault := none }

/-- What a CLEAR that is accepted does. -/
def clearWork (c : Ch) (s : State) : State :=
  entersIdle c (signal (.chan c) (modChan c unfaultedRec ((latchesOf s c).foldl (fun t d => clearLatch d t) s)))

theorem clearFault_of_faulted {s : State} {c : Ch} (here : s.present c = true) (faulted : (chanOf s c).state = .faulted)
    (quiet : ∀ d ∈ latchesOf s c, s.mon.faultSense.get d = false) : clearFault c s = (.ok, clearWork c s) := by
  have none_active : (latchesOf s c).any (fun d => s.mon.faultSense.get d) = false :=
    List.any_eq_false.2 fun d hd => by simp [quiet d hd]
  unfold clearFault
  simp only [here, faulted, none_active, Bool.not_true, Bool.false_eq_true, ne_eq, not_true_eq_false, if_false]
  rfl

theorem clearWork_frame (c : Ch) (s : State) :
    clearWork c s = { s with
      chans := (modChan c unfaultedRec s).chans
      mon := { s.mon with
        latches := ((latchesOf s c).foldl (fun t d => clearLatch d t) s).mon.latches
        tripSince := ((latchesOf s c).foldl (fun t d => clearLatch d t) s).mon.tripSince }
      sup := { s.sup with
        scanDue := s.sup.scanDue || !(latchesOf s c).isEmpty
        owedDue := (clearWork c s).sup.owedDue }
      link := { s.link with reports := (signal (.chan c) s).link.reports } } := by
  have fold := clearLatches_frame (latchesOf s c) s
  have latch := clearLatches_get (latchesOf s c) s
  unfold clearWork
  generalize (latchesOf s c).foldl (fun t d => clearLatch d t) s = t at fold latch
  have clear : ∀ d, ((signal (.chan c) (modChan c unfaultedRec t)).mon.latches.get d).ch = some c →
      ((signal (.chan c) (modChan c unfaultedRec t)).mon.latches.get d).isSet = false := fun d => by
    rw [signal_frame]
    change (t.mon.latches.get d).ch = some c → (t.mon.latches.get d).isSet = false
    rw [latch]
    split
    · exact fun _ => rfl
    next out =>
      intro mine
      exact Bool.eq_false_iff.2 fun set => out ((mem_latchesOf s c d).2 ⟨set, mine⟩)
  rw [entersIdle_of_clear c _ clear]
  have reports : (signal (.chan c) (modChan c unfaultedRec t)).link.reports = (signal (.chan c) s).link.reports := by
    refine signal_reports_congr _ ?_ ?_ <;>
    · rw [fold]
      rfl
  have e : signal (.chan c) (modChan c unfaultedRec t) = { modChan c unfaultedRec t with
      link := { t.link with reports := (signal (.chan c) s).link.reports } } := by
    rw [signal_frame, reports]
    rfl
  rw [e, fold]
  rfl

theorem clear_returns {s : State} (L : s.Listening) (tag : Byte) (c : Ch) (here : s.present c = true)
    (faulted : (chanOf s c).state = .faulted)
    (quiet : ∀ d, (s.mon.latches.get d).isSet = true ∧ (s.mon.latches.get d).ch = some c → s.mon.faultSense.get d = false) :
    ∃ u, exec (.clear tag c) s = .next (finish u) ∧
      chanOf u c = { chanOf s c with state := .idle, fault := none } ∧
      (∀ d, d ≠ c → chanOf u d = chanOf s d) ∧
      (∀ d, (s.mon.latches.get d).isSet = true ∧ (s.mon.latches.get d).ch = some c → u.mon.latches.get d = {}) ∧
      (∀ d, ¬ ((s.mon.latches.get d).isSet = true ∧ (s.mon.latches.get d).ch = some c) →
        u.mon.latches.get d = s.mon.latches.get d) ∧
      ((∃ d, (s.mon.latches.get d).isSet = true ∧ (s.mon.latches.get d).ch = some c) → u.sup.scanDue = true) ∧
      u.sup.queue = s.sup.queue ∧ s.Replied u 0x84 tag (plainReply .ok) ∧
      u = { s with chans := u.chans, mon := u.mon, sup := u.sup, link := u.link } := by
  have e := clearFault_of_faulted here faulted fun d hd => quiet d ((mem_latchesOf s c d).1 hd)
  have run := exec_request L (i := .clear tag c) rfl
  rw [serve_clear, e, answer_of_acts rfl] at run
  have frame := clearWork_frame c s
  have latch := clearLatches_get (latchesOf s c) s
  refine ⟨_, run, ?_, fun d n => ?_, fun d mine => ?_, fun d other => ?_, fun some_latch => ?_, ?_,
    replied_pushReply (by decide) ?_ fun x hx => ?_, ?_⟩
  · change chanOf (clearWork c s) c = _
    rw [frame]
    exact chanOf_modChan_self c unfaultedRec s
  · change chanOf (clearWork c s) d = _
    rw [frame]
    exact chanOf_modChan_ne c d unfaultedRec s n
  · change (clearWork c s).mon.latches.get d = _
    rw [frame]
    exact (latch d).trans (if_pos ((mem_latchesOf s c d).2 mine))
  · change (clearWork c s).mon.latches.get d = _
    rw [frame]
    exact (latch d).trans (if_neg fun m => other ((mem_latchesOf s c d).1 m))
  · change (clearWork c s).sup.scanDue = _
    obtain ⟨d, mine⟩ := some_latch
    have filled : (latchesOf s c).isEmpty = false :=
      Bool.eq_false_iff.2 fun k => List.ne_nil_of_mem ((mem_latchesOf s c d).2 mine) (List.isEmpty_iff.1 k)
    rw [frame]
    simp [filled]
  · change (clearWork c s).sup.queue = _
    rw [frame]
  · rw [frame]
  · rw [frame]
    exact mem_signal (.chan c) x s hx
  · rw [frame]
    rfl

/-- Settles O16: the table of R13, and the CLEAR of R19. -/
theorem holdRenewsAndClearReturns : Obligations.HoldRenewsAndClearReturns := by
  refine ⟨fun s tag c L => ?_, fun s tag c L => ?_⟩
  · intro q refused
    have refuse : ∀ r, holdMotion c .link s = (.refused r none, s) → refused r := fun r e => by
      have k := hold_answersOnly L _ e (tag := tag)
      rwa [refused_payload] at k
    split
    next absent => exact refuse _ (by simp [holdMotion, absent])
    next here =>
    have here : s.present c = true := Bool.not_eq_false _ ▸ here
    split
    next mine => exact hold_renews L tag c here mine
    next other =>
    have e : holdMotion c .link s = if (q.state = .idle ∨ q.state = .stopping) ∧ lastReleased s c .link = true
        then (.refused .tooLate none, s) else (.refused .notHeld none, s) := by
      unfold holdMotion
      simp only [here, Bool.not_true, Bool.false_eq_true, if_false]
      exact if_neg other
    split
    next late => exact refuse _ (e.trans (if_pos (late.imp_right (lastReleased_iff s c .link).2)))
    next early => exact refuse _ (e.trans (if_neg fun k => early (k.imp_right (lastReleased_iff s c .link).1)))
  · intro mine refused
    have refuse : ∀ r, clearFault c s = (.refused r none, s) → refused r := fun r e => by
      have k := clear_answersOnly L _ rfl e (tag := tag)
      rwa [refused_payload] at k
    refine ⟨fun absent => refuse _ (by simp [clearFault, absent]),
      fun here sound => refuse _ (by simp [clearFault, here, sound]),
      fun here faulted => ⟨fun d own active => refuse _ ?_, fun quiet => clear_returns L tag c here faulted quiet⟩⟩
    have found : (latchesOf s c).any (fun d => s.mon.faultSense.get d) = true :=
      List.any_eq_true.2 ⟨d, (mem_latchesOf s c d).2 own, active⟩
    simp [clearFault, here, faulted, found]

end Sys2Proof.Machine
end

section
/-! PROOF. SAVE and LOAD_DEFAULTS (O20): the image that waits or begins, and what the default table and its terminal map do to
the channels and the memory. -/

namespace Sys2Proof.Machine

/-! ### SAVE (R187) -/

theorem serve_save (tag : Byte) (s : State) :
    serve tag .save s = if s.store.saving then transmit (pushReply tag 0x0A (plainReply .busy) s)
      else transmit (startJob (pushReply tag 0x0A (plainReply .accepted) (beginSave s))) := rfl

/-- The table's image behind the jobs already waiting. -/
def savedStore (t : Store) : Store := { t with saving := true, waiting := t.waiting ++ [.image t.cfg] }

theorem startJob_of_busy (s : State) (j : Job) (h : s.store.job = some j) : startJob s = s := by
  unfold startJob
  rw [h]

theorem startJob_of_image (s : State) (c : Cfg) (h : s.store.job = none) (w : s.store.waiting = [.image c]) :
    (startJob s).store = { s.store with job := some (.image c), waiting := [], image := none } := by
  unfold startJob
  rw [h, w]
  rfl

theorem save_taken {s : State} (L : s.Listening) (tag : Byte) (free : s.store.saving = false) :
    ∃ t, exec (.save tag) s = .next t ∧ t.store.saving = true ∧ s.Answered t 0x8A tag (plainReply .accepted) ∧
      (∀ j, s.store.job = some j →
        t.store = { s.store with saving := true, waiting := s.store.waiting ++ [.image s.store.cfg] }) ∧
      (s.store.job = none → s.store.waiting = [] →
        t.store = { s.store with saving := true, job := some (.image s.store.cfg), image := none }) ∧
      t.store.cfg = s.store.cfg ∧ t.store.marking = s.store.marking ∧ t = { s with store := t.store, link := t.link } := by
  have run := exec_request L (i := .save tag) rfl
  rw [serve_save, if_neg (by simp [free])] at run
  have memory := startJob_memory (pushReply tag 0x0A (plainReply .accepted) (beginSave s))
  have busy := startJob_of_busy (pushReply tag 0x0A (plainReply .accepted) (beginSave s))
  have begins := startJob_of_image (pushReply tag 0x0A (plainReply .accepted) (beginSave s)) s.store.cfg
  generalize startJob (pushReply tag 0x0A (plainReply .accepted) (beginSave s)) = v at run memory busy begins
  have full : v.link.replies ≠ [] := by
    rw [memory]
    simp [pushReply, beginSave]
  have frame := transmit_reply v full
  have store : (transmit v).store = v.store := by
    rw [frame]
  have saving : v.store.saving = true := by
    rw [memory]
    rfl
  refine ⟨_, run, store ▸ saving, ?_, fun j hj => ?_, fun hj hw => ?_, ?_, ?_, ?_⟩
  · rw [State.Answered, frame, memory]
    rfl
  · rw [store, busy j hj]
    rfl
  · rw [store, begins hj (by simp [pushReply, beginSave, hw])]
    simp [pushReply, beginSave, hw]
  · rw [store, memory]
    rfl
  · rw [store, memory]
    rfl
  · rw [frame, memory]
    rfl

/-! ### LOAD_DEFAULTS (R188) -/

theorem serve_loadDefaults (tag : Byte) (s : State) :
    serve tag .loadDefaults s = if atRest s then finish (pushReply tag 0x0B (plainReply .ok) (loadDefaults s))
      else transmit (pushReply tag 0x0B (plainReply .busy) s) := rfl

theorem atRest_iff (s : State) :
    atRest s = true ↔
      (∀ c, s.present c = true → (chanOf s c).state = .idle ∨ (chanOf s c).state = .faulted) ∧ s.sup.queue = [] := by
  simp [atRest, allAtRest_iff]

/-- ALL_STOP finds no channel to stop where none is present (R39). -/
theorem allStop_of_absent {s : State} (away : ∀ c, s.present c = false) : allStop s = s := by
  unfold allStop
  induction allChs with
  | nil => rfl
  | cons c l ih =>
    rw [List.foldl_cons, if_neg (by simp [away c])]
    exact ih

/-- What the map's hand-over keeps: everything that no motion writes but the terminals. -/
def unmapped (s : State) : State := { kept s with term := {} }

theorem unmapped_of_kept {s t : State} (h : kept t = kept s) : unmapped t = unmapped s := by
  simp only [unmapped, h]

/-- What reads the same from a state and from its unmapped part is common to states of one unmapped part. -/
theorem of_unmapped {β : Type} {s t : State} (p : State → β) (hp : ∀ x, p (unmapped x) = p x) (h : unmapped t = unmapped s) :
    p t = p s := by
  rw [← hp t, h, hp s]

/-- A reading that the map moves, in a part without channels, writes at most the owed retract's marks and a room's level. -/
theorem outside_mapReading (old t : State) (r : InRole) (away : ∀ c, t.present c = false) :
    outside (mapReading old t r) = outside t := by
  unfold mapReading
  extract_lets was is_
  split
  · rfl
  · split
    · split <;> rfl
    · unfold allStopChange
      split
      · rw [allStop_of_absent away]
      · split <;> rfl
    · exact outside_of_scope (scope_limitRoleChange _ _ _)

theorem ends_pendantRelease (c : Ch) (s : State) :
    Ends (fun k x => k = c ∧ (x = .cancelled .released ∨ x = .term .released)) s (pendantRelease c s) := by
  unfold pendantRelease
  split
  · exact ends_endMotion c .released .released s (by decide)
  · exact .refl s

theorem ends_pendantDeactivate (r : InRole) (s : State) :
    Ends (fun _ x => x = .cancelled .released ∨ x = .term .released) s (pendantDeactivate r s) := by
  unfold pendantDeactivate
  split
  · exact (ends_pendantRelease _ s).mono fun _ _ h => h.2
  · exact .refl s

/-- The hand-over of a terminal map in a part without channels: pendant motions end, and nothing but them and the terminals
changes. -/
theorem mapChanged_of_absent (old s : State) (away : ∀ c, s.present c = false) :
    unmapped (mapChanged old s) = unmapped s ∧
      ∀ c, (chanOf s c).state = .idle → chanOf (mapChanged old s) c = chanOf s c := by
  have masks : ∀ u : State, unmapped (maskMap old u) = unmapped u ∧ (maskMap old u).chans = u.chans := fun _ => ⟨rfl, rfl⟩
  have speed : unmapped (speedAssignment s) = unmapped s ∧ (speedAssignment s).chans = s.chans := by
    unfold speedAssignment
    split <;> exact ⟨rfl, rfl⟩
  have first : unmapped (maskMap old (speedAssignment s)) = unmapped s := (masks _).1.trans speed.1
  have chans : (maskMap old (speedAssignment s)).chans = s.chans := (masks _).2.trans speed.2
  have gone : (maskMap old (speedAssignment s)).present = s.present := of_unmapped State.present (fun _ => rfl) first
  have steps : mapChanged old s = pendantRoles.foldl (fun t r => mapRelease old t r)
      (allRoles.foldl (fun t r => mapReading old t r) (maskMap old (speedAssignment s))) := rfl
  rw [steps]
  generalize maskMap old (speedAssignment s) = u at first chans gone
  have readings : ∀ (l : List InRole) (t : State), (∀ c, t.present c = false) →
      outside (l.foldl (fun t r => mapReading old t r) t) = outside t := by
    intro l
    induction l with
    | nil => exact fun _ _ => rfl
    | cons r l ih =>
      intro t ht
      have one := outside_mapReading old t r ht
      have still : ∀ c, (mapReading old t r).present c = false := by
        rw [present_of_outside one]
        exact ht
      exact (ih _ still).trans one
  have second := readings allRoles u (gone ▸ away)
  generalize allRoles.foldl (fun t r => mapReading old t r) u = s1 at second
  have third : Ends (fun _ x => x = .cancelled .released ∨ x = .term .released) s1
      (pendantRoles.foldl (fun t r => mapRelease old t r) s1) :=
    Ends.foldl _ _ (fun t r _ => by
      unfold mapRelease
      split
      · exact ends_pendantDeactivate r t
      · exact .refl t) s1
  generalize pendantRoles.foldl (fun t r => mapRelease old t r) s1 = v at third
  refine ⟨(unmapped_of_kept (third.steady.kept.trans (kept_of_outside second))).trans first, fun c idle => ?_⟩
  have same : chanOf s1 c = chanOf s c := by
    rw [chanOf_of_outside second]
    exact congrArg (fun p : PerCh ChanRec => p.get c) chans
  rw [third.resting c (by simp [same, idle]) (by simp [same, idle]), same]

/-- The table of a part whose settings are the defaults and whose wind block is fresh where the sensor was fitted. -/
def withDefaults (s : State) : State :=
  { s with
    store := { s.store with cfg := Cfg.default, marking := .default }
    wind := if s.store.cfg.windFitted = true then {} else s.wind }

/-- What LOAD_DEFAULTS has done before its report, read through the parts that no motion writes. -/
theorem unmapped_defaults (s : State) : unmapped (mapChanged s (defaultsTaken s)) = unmapped (withDefaults s) := by
  have taken : kept (defaultsTaken s) = kept (withDefaults s) := kept_defaultsTaken s
  exact (mapChanged_of_absent s (defaultsTaken s) (defaultsTaken_present s)).1.trans (unmapped_of_kept taken)

/-- LOAD_DEFAULTS ends with its report and the telemetry timer, in the link port. -/
theorem loadDefaults_frame (s : State) :
    loadDefaults s = { mapChanged s (defaultsTaken s) with link := { (mapChanged s (defaultsTaken s)).link with
      reports := (loadDefaults s).link.reports, telemetryAt := (loadDefaults s).link.telemetryAt } } := by
  rw [loadDefaults_eq]
  generalize mapChanged s (defaultsTaken s) = u
  rw [signal_frame]
  rfl

theorem of_loadDefaults {β : Type} (p : State → β) (hp : ∀ x, p (unmapped x) = p x)
    (hl : ∀ x r a, p { x with link := { x.link with reports := r, telemetryAt := a } } = p x) (s : State) :
    p (loadDefaults s) = p (withDefaults s) := by
  rw [loadDefaults_frame, hl]
  exact of_unmapped p hp (unmapped_defaults s)

theorem chanOf_loadDefaults {s : State} {c : Ch} (h : s.present c = true) : chanOf (loadDefaults s) c = {} := by
  have fresh : chanOf (defaultsTaken s) c = {} := (chanOf_defaultsTaken s c).trans (if_pos h)
  have map := (mapChanged_of_absent s _ (defaultsTaken_present s)).2 c (by rw [fresh])
  rw [loadDefaults_frame]
  exact map.trans fresh

theorem loadDefaults_reports (s : State) : Source.store ∈ (loadDefaults s).link.reports := by
  have cfg : (mapChanged s (defaultsTaken s)).store.cfg = Cfg.default :=
    of_unmapped (fun x => x.store.cfg) (fun _ => rfl) (unmapped_defaults s)
  have enabled : Cfg.default.sourceEnabled .store = true := by decide +kernel
  rw [loadDefaults_eq]
  generalize mapChanged s (defaultsTaken s) = u at cfg
  exact mem_signal_self _ _ ((congrArg (fun c : Cfg => c.sourceEnabled .store) cfg).trans enabled)

theorem defaults_taken {s : State} (L : s.Listening) (tag : Byte) (rest : atRest s = true) :
    ∃ u, exec (.loadDefaults tag) s = .next (finish u) ∧ u.store.cfg = Cfg.default ∧ u.store.marking = .default ∧
      (∀ c, u.present c = false) ∧ (∀ c, s.present c = true → chanOf u c = {}) ∧
      u.store.image = s.store.image ∧ u.store.snap = s.store.snap ∧ u.store.snapMark = s.store.snapMark ∧
      u.wind.lockout = (if s.store.cfg.windFitted = true then none else s.wind.lockout) ∧
      Source.store ∈ u.link.reports ∧
      u.link.replies = s.link.replies ++ [{ kind := 0x8B, tag := tag, payload := plainReply .ok }] := by
  have run := exec_request L (i := .loadDefaults tag) rfl
  rw [serve_loadDefaults, if_pos rest] at run
  have cfg : (loadDefaults s).store.cfg = Cfg.default := of_loadDefaults (fun x => x.store.cfg) (fun _ => rfl) (fun _ _ _ => rfl) s
  have marking : (loadDefaults s).store.marking = .default :=
    of_loadDefaults (fun x => x.store.marking) (fun _ => rfl) (fun _ _ _ => rfl) s
  have wind : (loadDefaults s).wind = if s.store.cfg.windFitted = true then {} else s.wind :=
    of_loadDefaults State.wind (fun _ => rfl) (fun _ _ _ => rfl) s
  have replies : (loadDefaults s).link.replies = s.link.replies :=
    of_loadDefaults (fun x => x.link.replies) (fun _ => rfl) (fun _ _ _ => rfl) s
  have image : (loadDefaults s).store.image = s.store.image :=
    of_loadDefaults (fun x => x.store.image) (fun _ => rfl) (fun _ _ _ => rfl) s
  have snap : (loadDefaults s).store.snap = s.store.snap :=
    of_loadDefaults (fun x => x.store.snap) (fun _ => rfl) (fun _ _ _ => rfl) s
  have snapMark : (loadDefaults s).store.snapMark = s.store.snapMark :=
    of_loadDefaults (fun x => x.store.snapMark) (fun _ => rfl) (fun _ _ _ => rfl) s
  have reports := loadDefaults_reports s
  have chans : ∀ c, s.present c = true → chanOf (loadDefaults s) c = {} := fun c here => chanOf_loadDefaults here
  generalize loadDefaults s = u at run cfg marking wind replies image snap snapMark reports chans
  have reply : replyKind 0x0B = 0x8B := by decide
  refine ⟨_, run, cfg, marking, fun c => default_present _ cfg marking c, chans, image, snap, snapMark, ?_, reports, ?_⟩
  · change u.wind.lockout = _
    rw [wind]
    split <;> rfl
  · change u.link.replies ++ [{ kind := replyKind 0x0B, tag := tag, payload := plainReply .ok }] = _
    rw [replies, reply]

/-- Settles O20: SAVE and LOAD_DEFAULTS, refused and taken. -/
theorem saveAndLoadDefaults : Obligations.SaveAndLoadDefaults := by
  refine ⟨fun s tag L => ⟨fun busy => ?_, save_taken L tag⟩, fun s tag L => ⟨fun moving => ?_, fun idle empty => ?_⟩⟩
  · exact answersOnly L rfl (by rw [serve_save, if_pos busy]) (by decide) (kind := 0x0A)
  · refine answersOnly L rfl ?_ (by decide) (kind := 0x0B)
    rw [serve_loadDefaults, if_neg fun rest => moving ((atRest_iff s).1 rest)]
  · exact defaults_taken L tag ((atRest_iff s).2 ⟨idle, empty⟩)

end Sys2Proof.Machine
end

section
/-! PROOF. What a termination does (O34): drives and phase off, the pump stopped, and the in-switch that was disregarded taken
late. -/

namespace Sys2Proof.Machine

/-! ### What writing a level leaves of the drives -/

/-- A room end's record but for what its home position writes. -/
def EndRec.driven (q : EndRec) : EndRec := { q with count := 0, assumed := 0, consec := 0 }

/-- A room's record but for its level and what its home position writes. -/
def RoomRec.driven (q : RoomRec) : RoomRec :=
  { q with status := .pin, conf := .known, ends := ⟨q.ends.endA.driven, q.ends.endB.driven⟩ }

/-- The awning's record but for its level and what its home position writes. -/
def AwnRec.driven (q : AwnRec) : AwnRec := { q with status := .pin, conf := .known, count := 0, assumed := 0, consec := 0 }

/-- The drives of rooms and awning, the engine's phase and the supply monitor: what no change of a level writes. -/
structure Gear where
  rooms : Room → RoomRec
  awn : AwnRec
  phase : Phase
  mon : Monitor

/-- The gear of a state. -/
def gear (s : State) : Gear := ⟨fun r => (roomOf s r).driven, s.awn.driven, s.lev.phase, s.mon⟩

theorem gear_of {s t : State} (rooms : t.rooms = s.rooms) (awn : t.awn = s.awn) (lev : t.lev = s.lev) (mon : t.mon = s.mon) :
    gear t = gear s := by
  simp only [gear, roomOf, rooms, awn, lev, mon]

theorem gear_signal (x : Source) (s : State) : gear (signal x s) = gear s := by
  rw [signal_frame]
  rfl

theorem gear_snapshotOnRest (s : State) : gear (snapshotOnRest s) = gear s := by
  rw [snapshotOnRest_frame]
  rfl

theorem gear_closeOnRetract (s : State) : gear (closeOnRetract s) = gear s := by
  rw [closeOnRetract_frame]
  rfl

theorem gear_pumpStop (v : Bool) (s : State) : gear (pumpStop v s) = gear s := by
  rw [pumpStop_frame]
  rfl

theorem gear_modRoom (r : Room) (f : RoomRec → RoomRec) (s : State) (h : ∀ q, (f q).driven = q.driven) :
    gear (modRoom r f s) = gear s := by
  have rooms : ∀ x, (roomOf (modRoom r f s) x).driven = (roomOf s x).driven := fun x => by
    by_cases e : x = r
    · subst e
      rw [roomOf_modRoom_self, h]
    · rw [roomOf_modRoom_ne _ _ _ _ e]
  simp only [gear, rooms]
  rfl

theorem gear_modEnd (r : Room) (e : Side) (f : EndRec → EndRec) (s : State) (h : ∀ q, (f q).driven = q.driven) :
    gear (modEnd r e f s) = gear s :=
  gear_modRoom r _ s fun q => by cases e <;> simp [RoomRec.driven, PerSide.set, PerSide.get, h]

theorem gear_setRoomStat (r : Room) (v : Pos) (c : Conf) (s : State) : gear (setRoomStat r v c s) = gear s := by
  have written : gear (snapshotOnRest (signal .posture (modRoom r (fun q => { q with status := v, conf := c }) s))) = gear s := by
    rw [gear_snapshotOnRest, gear_signal, gear_modRoom r (fun q => { q with status := v, conf := c }) s fun _ => rfl]
  unfold setRoomStat
  extract_lets q s1
  split
  · rfl
  · split
    · exact (gear_closeOnRetract s1).trans written
    · exact written

theorem gear_roomHome (r : Room) (s : State) : gear (roomHome r s) = gear s := by
  unfold roomHome
  extract_lets z
  rw [gear_setRoomStat, gear_modEnd r .endB z _ fun _ => rfl, gear_modEnd r .endA z _ fun _ => rfl]

theorem gear_setAwnStat (v : Pos) (c : Conf) (s : State) : gear (setAwnStat v c s) = gear s := by
  have marks : gear (if v = .pin then modSup (fun u => { u with owed := none }) s else s) = gear s := by
    split <;> rfl
  unfold setAwnStat
  extract_lets s0
  split
  · exact marks
  · rw [gear_snapshotOnRest, gear_signal]
    exact (rfl : gear (modAwn _ s0) = gear s0).trans marks

theorem gear_awnHome (s : State) : gear (awnHome s) = gear s := by
  unfold awnHome
  rw [gear_setAwnStat]
  rfl

theorem gear_setLevelStatus (v : LevelStatus) (s : State) : gear (setLevelStatus v s) = gear s := by
  unfold setLevelStatus
  split
  · rfl
  · rw [gear_snapshotOnRest, gear_signal]
    rfl

/-- The job block's writes at a termination leave the drives. -/
theorem gear_endWrite (c : Ch) (t : Term) (s : State) : gear (endWrite c t s) = gear s := by
  cases c with
  | level => exact gear_setLevelStatus _ s
  | room r =>
    simp only [endWrite, electricEnd, apply_ite gear, gear_setRoomStat, gear_roomHome, ite_self]
  | awning => simp only [endWrite, awningEnd, apply_ite gear, gear_setAwnStat, gear_awnHome, ite_self]

/-! ### The level that a write leaves -/

theorem roomOf_signal (x : Source) (s : State) (r : Room) : roomOf (signal x s) r = roomOf s r := by
  rw [signal_frame]
  rfl

theorem setRoomStat_level (r : Room) (v : Pos) (c : Conf) (s : State) :
    (roomOf (setRoomStat r v c s) r).status = v ∧ (roomOf (setRoomStat r v c s) r).conf = c := by
  unfold setRoomStat
  extract_lets q s1
  have written : roomOf s1 r = { roomOf s r with status := v, conf := c } := by
    have e : roomOf s1 r = roomOf (modRoom r (fun q => { q with status := v, conf := c }) s) r := by
      simp only [s1]
      rw [snapshotOnRest_frame]
      exact roomOf_signal _ _ _
    rw [e, roomOf_modRoom_self]
  split
  next same => exact same
  next =>
    have level : (roomOf s1 r).status = v ∧ (roomOf s1 r).conf = c := by
      rw [written]
      exact ⟨rfl, rfl⟩
    split
    · rw [closeOnRetract_frame]
      exact level
    · exact level

theorem roomHome_level (r : Room) (s : State) : (roomOf (roomHome r s) r).status = .pin ∧ (roomOf (roomHome r s) r).conf = .known :=
  setRoomStat_level r .pin .known _

/-! ### The termination, step by step -/

theorem brakeRoom_rooms (r q : Room) (s : State) :
    ((endOf (brakeRoom r s) r .endA).drive = .brake ∧ (endOf (brakeRoom r s) r .endB).drive = .brake) ∧
      (roomOf (brakeRoom r s) q).inSwitch = (roomOf s q).inSwitch ∧ (roomOf (brakeRoom r s) q).leg = (roomOf s q).leg := by
  simp only [endOf, roomOf, brakeRoom, brakeEnd, modEnd, modRoom]
  refine ⟨by simp [PerSide.get, PerSide.set], ?_⟩
  by_cases e : q = r
  · subst e
    simp
  · simp [PerRoom_get_set_ne _ _ _ _ e]

theorem jobOff_gear (c : Ch) (t : Term) (s : State) :
    (∀ r, c = .room r → (endOf (jobOff c t s) r .endA).drive = .brake ∧ (endOf (jobOff c t s) r .endB).drive = .brake) ∧
      (c = .awning → (jobOff c t s).awn.drive = .brake) ∧ (c = .level → (jobOff c t s).lev.phase = .none) ∧
      (jobOff c t s).mon = s.mon ∧
      ∀ r, (roomOf (jobOff c t s) r).inSwitch = (roomOf s r).inSwitch ∧ (roomOf (jobOff c t s) r).leg = (roomOf s r).leg := by
  cases c with
  | level =>
    have off : (jobOff .level t s).lev.phase = .none ∧ (jobOff .level t s).mon = s.mon ∧ (jobOff .level t s).rooms = s.rooms := by
      unfold jobOff
      split
      · split <;> exact ⟨rfl, rfl, rfl⟩
      · contradiction
      · contradiction
    obtain ⟨phase, mon, rooms⟩ := off
    have same : ∀ r, roomOf (jobOff .level t s) r = roomOf s r := fun r => by simp only [roomOf, rooms]
    exact ⟨fun _ h => (nomatch h), fun h => (nomatch h), fun _ => phase, mon, fun r => by simp [same]⟩
  | room q =>
    refine ⟨fun r h => ?_, fun h => (nomatch h), fun h => (nomatch h), rfl, fun r => (brakeRoom_rooms q r s).2⟩
    obtain rfl : q = r := by simpa using h
    exact (brakeRoom_rooms q q s).1
  | awning => exact ⟨fun _ h => (nomatch h), fun _ => rfl, fun h => (nomatch h), rfl, fun r => ⟨rfl, rfl⟩⟩

/-- The state in which a termination's job block has come off and written its status, before a late in-switch. -/
def written (c : Ch) (t : Term) (s : State) : State := endWrite c t (jobOff c t (stop c t s))

/-- What follows the late in-switch: the holder's pump stops, and the channel reports. -/
def pumpOffAndReport (c : Ch) (s : State) : State :=
  (if s.man.pump.holder = some c then pumpStop false s else s) |> signal (.chan c)

theorem terminate_of_running {c : Ch} {s : State} (t : Term) (h : isRunning s c = true) :
    terminate c t s = pumpOffAndReport c (lateSwitch c t (written c t s)) := by
  unfold terminate terminateWith
  rw [if_pos h]
  rfl

theorem scope_written (c : Ch) (t : Term) (s : State) : scope (written c t s) = scope (stop c t s) := by
  rw [written, scope_endWrite, scope_jobOff]

theorem scope_pumpOffAndReport (c : Ch) (s : State) : scope (pumpOffAndReport c s) = scope s := by
  simp only [pumpOffAndReport, scope_signal, apply_ite scope, scope_pumpStop, ite_self]

theorem gear_pumpOffAndReport (c : Ch) (s : State) : gear (pumpOffAndReport c s) = gear s := by
  simp only [pumpOffAndReport, gear_signal, apply_ite gear, gear_pumpStop, ite_self]

theorem pumpOffAndReport_rooms (c : Ch) (s : State) : (pumpOffAndReport c s).rooms = s.rooms := by
  unfold pumpOffAndReport
  rw [signal_frame]
  split
  · rw [pumpStop_frame]
  · rfl

theorem pumpOffAndReport_pump (c : Ch) (s : State) (h : s.man.pump.holder = some c) :
    (pumpOffAndReport c s).man.pump.on = false := by
  unfold pumpOffAndReport
  rw [signal_frame, if_pos h]
  exact (pumpStop_pump false s).1

theorem drive_of_gear {s t : State} (h : gear t = gear s) (r : Room) (e : Side) : (endOf t r e).drive = (endOf s r e).drive := by
  have k : (roomOf t r).driven = (roomOf s r).driven := congrFun (congrArg Gear.rooms h) r
  cases e with
  | endA =>
    have d := congrArg (fun q : RoomRec => q.ends.endA.drive) k
    exact d
  | endB =>
    have d := congrArg (fun q : RoomRec => q.ends.endB.drive) k
    exact d

theorem leg_of_gear {s t : State} (h : gear t = gear s) (r : Room) :
    (roomOf t r).leg = (roomOf s r).leg ∧ (roomOf t r).inSwitch = (roomOf s r).inSwitch := by
  have k : (roomOf t r).driven = (roomOf s r).driven := congrFun (congrArg Gear.rooms h) r
  have leg := congrArg RoomRec.leg k
  have sw := congrArg RoomRec.inSwitch k
  exact ⟨leg, sw⟩

theorem awnDrive_of_gear {s t : State} (h : gear t = gear s) : t.awn.drive = s.awn.drive :=
  congrArg (fun g : Gear => g.awn.drive) h

/-! ### The late in-switch (R104) -/

/-- An outward motion of a room ends with its in-switch active, which was disregarded until then. -/
def takesLate (s : State) (r : Room) : Prop :=
  kindOf s r ≠ .hydraulic ∧ (roomOf s r).inSwitch = true ∧ outwardMotion s r = true

theorem takesLate_written (r : Room) (t : Term) (s : State) : takesLate (written (.room r) t s) r ↔ takesLate s r := by
  have o := outside_of_scope (scope_written (.room r) t s)
  have kind : kindOf (written (.room r) t s) r = kindOf s r := by
    unfold kindOf
    rw [cfg_of_outside o]
    rfl
  have op : (chanOf (written (.room r) t s) (.room r)).op = (chanOf s (.room r)).op := by
    rw [chanOf_of_outside o, chanOf_stop_self]
    rfl
  have g := leg_of_gear (gear_endWrite (.room r) t (jobOff (.room r) t (stop (.room r) t s))) r
  have j := (jobOff_gear (.room r) t (stop (.room r) t s)).2.2.2.2 r
  have leg : (roomOf (written (.room r) t s) r).leg = (roomOf s r).leg := g.1.trans j.2
  have sw : (roomOf (written (.room r) t s) r).inSwitch = (roomOf s r).inSwitch := g.2.trans j.1
  simp only [takesLate, outwardMotion, kind, op, leg, sw]

theorem lateSwitch_room (r : Room) (t : Term) (s : State) (h : takesLate s r) :
    lateSwitch (.room r) t s = roomHome r (if t = .normal then roomsInLost s else s) := by
  obtain ⟨kind, sw, out⟩ := h
  simp only [lateSwitch]
  rw [if_pos ⟨kind, out, sw⟩]

theorem lateSwitch_room_not (r : Room) (t : Term) (s : State) (h : ¬ takesLate s r) : lateSwitch (.room r) t s = s := by
  simp only [lateSwitch]
  rw [if_neg fun ⟨kind, out, sw⟩ => h ⟨kind, sw, out⟩]

/-- Without a NORMAL end at an active in-switch, the late switch writes at most the home position. -/
theorem lateSwitch_plain {c : Ch} {t : Term} {s : State} (h : ¬ (t = .normal ∧ ∃ r, c = .room r ∧ takesLate s r)) :
    scope (lateSwitch c t s) = scope s ∧ (lateSwitch c t s).mon = s.mon := by
  cases c with
  | level => exact ⟨rfl, rfl⟩
  | room r =>
    by_cases k : takesLate s r
    · have n : t ≠ .normal := fun e => h ⟨e, r, rfl, k⟩
      rw [lateSwitch_room r t s k, if_neg n]
      exact ⟨scope_roomHome r s, congrArg Gear.mon (gear_roomHome r s)⟩
    · rw [lateSwitch_room_not r t s k]
      exact ⟨rfl, rfl⟩
  | awning =>
    simp only [lateSwitch]
    split
    · exact ⟨(scope_awnHome _).trans rfl, congrArg Gear.mon (gear_awnHome _)⟩
    · exact ⟨rfl, rfl⟩

theorem roomsInLost_rooms (s : State) : (roomsInLost s).rooms = s.rooms := by
  unfold roomsInLost
  split
  · have lost : (cancel .level .interlock s).rooms = s.rooms := by
      rw [cancel_frame]
    extract_lets s1
    split
    · have off : ∀ u : State, (jobOff .level (.aborted (.item .allRoomsIn)) u).rooms = u.rooms := fun _ => rfl
      have tail : (endRunning .level (.aborted (.item .allRoomsIn)) (endWrite .level (.aborted (.item .allRoomsIn))) s1).rooms =
          (endWrite .level (.aborted (.item .allRoomsIn)) (jobOff .level (.aborted (.item .allRoomsIn))
            (stop .level (.aborted (.item .allRoomsIn)) s1))).rooms := pumpOffAndReport_rooms .level _
      rw [tail, endWrite, setLevelStatus_frame, off]
      exact lost
    · exact lost
  · rfl

/-- The drive of a room after the late in-switch: as it was. -/
theorem lateSwitch_drive (r : Room) (t : Term) (s : State) (e : Side) :
    (endOf (lateSwitch (.room r) t s) r e).drive = (endOf s r e).drive := by
  by_cases k : takesLate s r
  · rw [lateSwitch_room r t s k, drive_of_gear (gear_roomHome r _)]
    split
    · simp only [endOf, roomsInLost_rooms]
    · rfl
  · rw [lateSwitch_room_not r t s k]

theorem lateSwitch_awning (t : Term) (s : State) : (lateSwitch .awning t s).awn.drive = s.awn.drive := by
  simp only [lateSwitch]
  split
  · have home := awnDrive_of_gear (gear_awnHome (modAwn (fun a => { a with switchLate := false }) s))
    exact home
  · rfl

/-! ### What a taken termination leaves (R16) -/

section
variable {c : Ch} {s : State} (w : Term) (h : isRunning s c = true)
include h

theorem chanOf_terminate_self : chanOf (terminate c w s) c = stoppedRec s c w (chanOf s c) := by
  have late : chanOf (lateSwitch c w (written c w s)) c = chanOf (written c w s) c := by
    have run : (chanOf (written c w s) c).state = .stopping := by
      rw [chanOf_of_outside (outside_of_scope (scope_written c w s)), chanOf_stop_self]
      rfl
    exact (ends_lateSwitch c w _).resting c (by simp [run]) (by simp [run])
  rw [terminate_of_running w h, chanOf_of_outside (outside_of_scope (scope_pumpOffAndReport c _)), late,
    chanOf_of_outside (outside_of_scope (scope_written c w s)), chanOf_stop_self]

theorem scope_terminate_plain (plain : ¬ (w = .normal ∧ ∃ r, c = .room r ∧ takesLate s r)) :
    scope (terminate c w s) = scope (stop c w s) := by
  have k : ¬ (w = .normal ∧ ∃ r, c = .room r ∧ takesLate (written c w s) r) := fun ⟨n, r, e, l⟩ => by
    subst e
    exact plain ⟨n, r, rfl, (takesLate_written r w s).1 l⟩
  rw [terminate_of_running w h, scope_pumpOffAndReport, (lateSwitch_plain k).1, scope_written]

theorem terminate_mon_plain (plain : ¬ (w = .normal ∧ ∃ r, c = .room r ∧ takesLate s r)) : (terminate c w s).mon = s.mon := by
  have k : ¬ (w = .normal ∧ ∃ r, c = .room r ∧ takesLate (written c w s) r) := fun ⟨n, r, e, l⟩ => by
    subst e
    exact plain ⟨n, r, rfl, (takesLate_written r w s).1 l⟩
  have before : (written c w s).mon = s.mon :=
    (congrArg Gear.mon (gear_endWrite c w _)).trans (jobOff_gear c w (stop c w s)).2.2.2.1
  rw [terminate_of_running w h]
  exact (congrArg Gear.mon (gear_pumpOffAndReport c _)).trans ((lateSwitch_plain k).2.trans before)

theorem stopped_terminate : s.Stopped (terminate c w s) c w := by
  rw [State.Stopped, chanOf_terminate_self w h]
  exact ⟨rfl, rfl, rfl, rfl⟩

theorem terminate_drives :
    (∀ r, c = .room r → (endOf (terminate c w s) r .endA).drive = .brake ∧ (endOf (terminate c w s) r .endB).drive = .brake) ∧
      (c = .awning → (terminate c w s).awn.drive = .brake) ∧ (c = .level → (terminate c w s).lev.phase = .none) := by
  obtain ⟨ends, awn, phase, -, -⟩ := jobOff_gear c w (stop c w s)
  have job := gear_endWrite c w (jobOff c w (stop c w s))
  have tail := gear_pumpOffAndReport c (lateSwitch c w (written c w s))
  rw [terminate_of_running w h]
  refine ⟨fun r e => ?_, fun e => ?_, fun e => ?_⟩
  · obtain ⟨a, b⟩ := ends r e
    subst e
    rw [drive_of_gear tail, drive_of_gear tail, lateSwitch_drive, lateSwitch_drive, written, drive_of_gear job,
      drive_of_gear job]
    exact ⟨a, b⟩
  · have off := awn e
    subst e
    rw [awnDrive_of_gear tail, lateSwitch_awning, written, awnDrive_of_gear job, off]
  · have off := phase e
    subst e
    exact (congrArg Gear.phase tail).trans ((congrArg Gear.phase job).trans off)

theorem terminate_pump (holds : s.man.pump.holder = some c) :
    (terminate c w s).man.pump.on = false ∧ (terminate c w s).man.pump.holder = some c := by
  have held : (lateSwitch c w (written c w s)).man.pump.holder = some c := by
    rw [(ends_lateSwitch c w _).holder, holder_of_outside (outside_of_scope (scope_written c w s))]
    exact holds
  refine ⟨?_, (ends_terminate c w s).holder.trans holds⟩
  rw [terminate_of_running w h]
  exact pumpOffAndReport_pump c _ held

end

/-- A NORMAL EXTEND that ends with its in-switch active: the room is IN again (R104). -/
theorem terminate_late_level {r : Room} {s : State} (w : Term) (h : isRunning s (.room r) = true) (late : takesLate s r) :
    (roomOf (terminate (.room r) w s) r).status = .pin ∧ (roomOf (terminate (.room r) w s) r).conf = .known := by
  rw [terminate_of_running w h, lateSwitch_room r w _ ((takesLate_written r w s).2 late)]
  simp only [roomOf, pumpOffAndReport_rooms]
  exact roomHome_level r _

/-- Where its retraction waits while some room is not IN, LEVEL is cancelled (R28). -/
theorem roomsInLost_of_pending {s : State} (out : allRoomsIn s = false) (m : chanMotion s .level = some .jackRetract)
    (waits : (chanOf s .level).state = .pending) : roomsInLost s = cancel .level .interlock s := by
  have stops : isRunning (cancel .level .interlock s) .level = false := by
    rw [isRunning, chanOf_cancel_self _ _ _ waits]
    rfl
  unfold roomsInLost
  rw [if_pos ⟨m, by simp [out]⟩]
  extract_lets s1
  rw [if_neg (by simp [s1, stops])]

theorem allRoomsIn_of_out {s : State} {r : Room} (here : s.present (.room r) = true) (out : (roomOf s r).status ≠ .pin) :
    allRoomsIn s = false := by
  have mem : r ∈ presentRooms s := List.mem_filter.2 ⟨by cases r <;> decide, here⟩
  have found : someRoomOut s = true := List.any_eq_true.2 ⟨r, mem, by simpa using out⟩
  simp [allRoomsIn, found]

theorem endWrite_electric {r : Room} {t : Term} {s : State} (kind : kindOf s r ≠ .hydraulic) :
    endWrite (.room r) t s = electricEnd r t s := if_neg kind

theorem electricEnd_extend {r : Room} {s : State} (op : (chanOf s (.room r)).op = some .extend) :
    electricEnd r .normal s = setRoomStat r .pout (roomOf s r).conf s := by
  unfold electricEnd
  extract_lets q
  rw [if_pos rfl, if_pos op]

/-- A NORMAL EXTEND of an electric room writes OUT (R104). -/
theorem written_out {r : Room} {s : State} (kind : kindOf s r ≠ .hydraulic) (op : (chanOf s (.room r)).op = some .extend) :
    (roomOf (written (.room r) .normal s) r).status = .pout := by
  have o := outside_of_scope (scope_jobOff (.room r) .normal (stop (.room r) .normal s))
  have k : kindOf (jobOff (.room r) .normal (stop (.room r) .normal s)) r ≠ .hydraulic := kind
  have p : (chanOf (jobOff (.room r) .normal (stop (.room r) .normal s)) (.room r)).op = some .extend := by
    rw [chanOf_of_outside o, chanOf_stop_self]
    exact op
  rw [written, endWrite_electric k, electricEnd_extend p]
  exact (setRoomStat_level r .pout _ _).1

theorem terminate_late_cancels {r : Room} {s : State} (h : isRunning s (.room r) = true) (late : takesLate s r)
    (here : s.present (.room r) = true) (op : (chanOf s (.room r)).op = some .extend)
    (m : chanMotion s .level = some .jackRetract) (waits : (chanOf s .level).state = .pending) :
    s.Cancelled (terminate (.room r) .normal s) .level .interlock := by
  have o := outside_of_scope (scope_written (.room r) .normal s)
  have same : chanOf (written (.room r) .normal s) .level = chanOf s .level := by
    rw [chanOf_of_outside o]
    exact chanOf_stop_ne _ _ _ _ (by simp)
  have out : allRoomsIn (written (.room r) .normal s) = false := by
    refine allRoomsIn_of_out (r := r) ?_ ?_
    · rw [present_of_outside o]
      exact here
    · rw [written_out late.1 op]
      decide
  have lost := roomsInLost_of_pending out ((chanMotion_level_congr same).trans m) (by rw [same]; exact waits)
  have t : terminate (.room r) .normal s = pumpOffAndReport (.room r) (roomHome r (cancel .level .interlock (written (.room r) .normal s))) := by
    rw [terminate_of_running _ h, lateSwitch_room r _ _ ((takesLate_written r _ s).2 late), if_pos rfl, lost]
  have after : outside (terminate (.room r) .normal s) = outside (cancel .level .interlock (written (.room r) .normal s)) := by
    rw [t]
    exact outside_of_scope ((scope_pumpOffAndReport _ _).trans (scope_roomHome r _))
  have record : chanOf (terminate (.room r) .normal s) .level = cancelledRec .interlock (chanOf s .level) := by
    rw [chanOf_of_outside after, chanOf_cancel_self _ _ _ (by rw [same]; exact waits), same]
  have queue : Ch.level ∉ (terminate (.room r) .normal s).sup.queue.map QEntry.ch := by
    rw [queue_of_outside after, queue_of_outside (outside_cancel .level .interlock _ (by rw [same]; exact waits))]
    simp
  rw [State.Cancelled, record]
  exact ⟨rfl, rfl, rfl, rfl, rfl, rfl, rfl, queue⟩

/-- Settles O34: the termination that is taken, clause by clause, and the one that is disregarded. -/
theorem terminationTaken : Obligations.TerminationTaken := by
  intro s c w t late
  refine ⟨fun idle => terminate_of_not_running c w s (by simpa [isRunning] using idle), fun run => ?_⟩
  have h : isRunning s c = true := by simpa [isRunning] using run
  have late_iff : late ↔ w = .normal ∧ ∃ r, c = .room r ∧ takesLate s r := Iff.rfl
  obtain ⟨ends, awn, phase⟩ := terminate_drives w h
  refine ⟨stopped_terminate w h, fun d other k => ?_, fun l here op m waits => ?_, fun r l e => ?_, ?_, ends, awn, phase,
    terminate_pump w h, fun l => terminate_mon_plain w h l, (ends_terminate c w s).cfg⟩
  · by_cases l : late
    · refine (ends_terminate c w s).other d fun x hx => ?_
      obtain ⟨e, -⟩ | ⟨-, -, e, -⟩ := hx
      · exact absurd e other
      · exact absurd e (k.resolve_right (not_not.2 l))
    · rw [chanOf_of_outside (outside_of_scope (scope_terminate_plain w h l))]
      exact chanOf_stop_ne c d w s other
  · obtain ⟨rfl, r, rfl, l⟩ := l
    exact terminate_late_cancels h l here op m waits
  · obtain ⟨rfl, q, e', l⟩ := l
    subst e
    obtain rfl : r = q := by simpa using e'
    exact terminate_late_level .normal h l
  · have record := congrArg ChanRec.op (chanOf_terminate_self w h)
    exact record

end Sys2Proof.Machine
end

section
/-! PROOF. Motions that stop on their channel's behalf: a cancellation in full, STOP (O17), the expiries of waits and holds (O35),
the interlock sweep and ALL_STOP (O37). -/

namespace Sys2Proof.Machine

/-! ### What stays in the report queue -/

/-- Every report that waits in `s` still waits in `t`. -/
def Grows (s t : State) : Prop := ∀ x ∈ s.link.reports, x ∈ t.link.reports

theorem Grows.of_link {s t : State} (h : t.link = s.link) : Grows s t := fun x hx => by rwa [h]

theorem Grows.trans {s t u : State} (h : Grows s t) (k : Grows t u) : Grows s u := fun x hx => k x (h x hx)

theorem grows_signal (x : Source) (s : State) : Grows s (signal x s) := fun y hy => mem_signal x y s hy

theorem grows_ite {s t u : State} (p : Prop) [Decidable p] (h : p → Grows s t) (k : Grows s u) :
    Grows s (if p then t else u) := by
  split
  next hp => exact h hp
  next => exact k

theorem snapshotOnRest_link (s : State) : (snapshotOnRest s).link = s.link := by
  rw [snapshotOnRest_frame]

theorem grows_setRoomStat (r : Room) (v : Pos) (c : Conf) (s : State) : Grows s (setRoomStat r v c s) := by
  have written : Grows s (snapshotOnRest (signal .posture (modRoom r (fun q => { q with status := v, conf := c }) s))) :=
    (Grows.of_link rfl).trans ((grows_signal .posture (modRoom r _ s)).trans (.of_link (snapshotOnRest_link _)))
  unfold setRoomStat
  extract_lets q s1
  refine grows_ite _ (fun _ => .of_link rfl) (grows_ite _ (fun _ => written.trans (.of_link ?_)) written)
  rw [closeOnRetract_frame]

theorem grows_roomHome (r : Room) (s : State) : Grows s (roomHome r s) :=
  (Grows.of_link (t := modEnd r .endB _ (modEnd r .endA _ s)) rfl).trans (grows_setRoomStat r .pin .known _)

theorem grows_setAwnStat (v : Pos) (c : Conf) (s : State) : Grows s (setAwnStat v c s) := by
  have marks : (if v = .pin then modSup (fun u => { u with owed := none }) s else s).link = s.link := by
    split <;> rfl
  unfold setAwnStat
  extract_lets s0
  have first : Grows s s0 := .of_link marks
  refine grows_ite _ (fun _ => first) (first.trans ?_)
  exact (Grows.of_link (t := modAwn _ s0) rfl).trans ((grows_signal .posture _).trans (.of_link (snapshotOnRest_link _)))

theorem grows_awnHome (s : State) : Grows s (awnHome s) :=
  (Grows.of_link (t := modAwn _ s) rfl).trans (grows_setAwnStat .pin .known _)

theorem grows_setLevelStatus (v : LevelStatus) (s : State) : Grows s (setLevelStatus v s) := by
  unfold setLevelStatus
  refine grows_ite _ (fun _ => .of_link rfl) ?_
  exact (Grows.of_link (t := modLev _ s) rfl).trans ((grows_signal .posture _).trans (.of_link (snapshotOnRest_link _)))

theorem grows_endWrite (c : Ch) (t : Term) (s : State) : Grows s (endWrite c t s) := by
  cases c with
  | level => exact grows_setLevelStatus _ s
  | room r =>
    refine grows_ite _ (fun _ => grows_setRoomStat r _ _ s) ?_
    refine grows_ite _ (fun _ => grows_ite _ (fun _ => grows_setRoomStat r _ _ s) (grows_roomHome r s)) ?_
    exact grows_ite _ (fun _ => grows_setRoomStat r _ _ s) (grows_setRoomStat r _ _ s)
  | awning =>
    refine grows_ite _ (fun _ => grows_awnHome s) ?_
    exact grows_ite _ (fun _ => grows_setAwnStat _ _ s) (grows_setAwnStat _ _ s)

theorem jobOff_link (c : Ch) (t : Term) (s : State) : (jobOff c t s).link = s.link := by
  cases c with
  | level =>
    unfold jobOff
    split
    · split <;> rfl
    · contradiction
    · contradiction
  | room r => rfl
  | awning => rfl

theorem grows_pumpOffAndReport (c : Ch) (s : State) : Grows s (pumpOffAndReport c s) := by
  refine Grows.trans (.of_link ?_) (grows_signal _ _)
  split
  · rw [pumpStop_frame]
  · rfl

/-- A termination that takes no in-switch late loses no report. -/
theorem grows_terminate {c : Ch} {w : Term} (s : State) (n : w ≠ .normal) : Grows s (terminate c w s) := by
  have late : ∀ u : State, Grows u (lateSwitch c w u) := fun u => by
    cases c with
    | level => exact .of_link rfl
    | room r =>
      refine grows_ite _ (fun _ => ?_) (.of_link rfl)
      rw [if_neg n]
      exact grows_roomHome r u
    | awning =>
      exact grows_ite _ (fun _ => (Grows.of_link (t := modAwn _ u) rfl).trans (grows_awnHome _)) (.of_link rfl)
  by_cases h : isRunning s c = true
  · rw [terminate_of_running w h]
    have off : (jobOff c w (stop c w s)).link = s.link := jobOff_link c w (stop c w s)
    exact ((Grows.of_link off).trans (grows_endWrite c w _)).trans ((late _).trans (grows_pumpOffAndReport c _))
  · rw [terminate_of_not_running c w s (by simpa using h)]
    exact .of_link rfl

/-! ### A cancellation in full (R17) -/

theorem entersIdle_frame (c : Ch) (s : State) :
    entersIdle c s = { s with mon := (entersIdle c s).mon, sup := (entersIdle c s).sup } := by
  unfold entersIdle
  extract_lets s1
  have k : s1 = { s with mon := s1.mon, sup := s1.sup } := examineLatchesOf_frame c s
  clear_value s1
  split
  · rw [k]
    rfl
  · exact k

theorem examineLatches_scanDue (l : List Driver) (s : State) (h : s.sup.scanDue = true) :
    (l.foldl (fun t d => examineLatch d t) s).sup.scanDue = true := by
  induction l generalizing s with
  | nil => exact h
  | cons d l ih =>
    have one : (examineLatch d s).sup.scanDue = true := by
      unfold examineLatch
      split
      · rfl
      · exact h
    exact ih _ one

theorem entersIdle_scanDue (c : Ch) (s : State) (h : s.sup.scanDue = true) : (entersIdle c s).sup.scanDue = true := by
  unfold entersIdle
  extract_lets s1
  have k : s1.sup.scanDue = true := examineLatches_scanDue _ s h
  clear_value s1
  split <;> exact k

theorem cancel_of_pending {c : Ch} {s : State} (d : CancelDetail) (h : (chanOf s c).state = .pending) :
    cancel c d s = entersIdle c (signal (.chan c) (modChan c (cancelledRec d) (leaveQueue c s))) := if_pos h

theorem grows_cancel (c : Ch) (d : CancelDetail) (s : State) : Grows s (cancel c d s) := by
  by_cases h : (chanOf s c).state = .pending
  · rw [cancel_of_pending d h]
    have out : Grows s (modChan c (cancelledRec d) (leaveQueue c s)) := .of_link rfl
    refine out.trans ((grows_signal (.chan c) _).trans (.of_link ?_))
    rw [entersIdle_frame]
  · rw [cancel_of_not_pending c d s h]
    exact .of_link rfl

/-- The record of a channel whose waiting motion is cancelled, and its place in the queue. -/
theorem Ends.cancelled {p : Ch → Ending → Prop} {s t : State} (k : Ends p s t) {c : Ch} {d : CancelDetail}
    (h : (chanOf s c).state = .pending) (record : chanOf t c = cancelledRec d (chanOf s c)) : s.Cancelled t c d := by
  have queue : c ∉ t.sup.queue.map QEntry.ch := by
    rw [k.queue]
    simp only [List.mem_map, List.mem_filter, not_exists, not_and, and_imp]
    intro e _ w same
    have waits := (waitsOn_iff s t e.ch).1 w (by rw [same]; exact h)
    rw [same, record] at waits
    cases waits
  rw [State.Cancelled, record]
  exact ⟨rfl, rfl, rfl, rfl, rfl, rfl, rfl, queue⟩

theorem cancel_pending {c : Ch} {s : State} (d : CancelDetail) (h : (chanOf s c).state = .pending) :
    s.Cancelled (cancel c d s) c d ∧ (∀ x, x ≠ c → chanOf (cancel c d s) x = chanOf s x) ∧
      (cancel c d s).sup.queue = s.sup.queue.filter (fun e => e.ch != c) ∧ (cancel c d s).sup.scanDue = true ∧
      cancel c d s = { s with
        chans := (cancel c d s).chans, sup := (cancel c d s).sup, link := (cancel c d s).link, mon := (cancel c d s).mon } := by
  have ends : Ends (fun _ _ => True) s (cancel c d s) := ends_cancel c d s trivial
  refine ⟨ends.cancelled h (chanOf_cancel_self c d s h), fun x n => chanOf_cancel_ne c x d s n,
    queue_of_outside (outside_cancel c d s h), ?_, ?_⟩
  · rw [cancel_of_pending d h]
    refine entersIdle_scanDue c _ ?_
    rw [signal_frame]
    rfl
  · rw [cancel_frame]

theorem endMotion_of_pending {c : Ch} {s : State} (d : CancelDetail) (t : Term) (h : (chanOf s c).state = .pending) :
    endMotion c d t s = cancel c d s := by
  refine terminate_of_not_running c t _ ?_
  rw [isRunning, chanOf_cancel_self c d s h]
  rfl

theorem endMotion_of_running {c : Ch} {s : State} (d : CancelDetail) (t : Term) (h : (chanOf s c).state = .running) :
    endMotion c d t s = terminate c t s := by
  unfold endMotion
  rw [cancel_of_not_pending c d s (by simp [h])]

/-- A termination other than NORMAL: no other channel's record, no place in the queue, nothing of the monitor changes. -/
theorem terminate_plain {c : Ch} {s : State} {w : Term} (h : (chanOf s c).state = .running) (n : w ≠ .normal) :
    s.Stopped (terminate c w s) c w ∧ (∀ x, x ≠ c → chanOf (terminate c w s) x = chanOf s x) ∧
      (terminate c w s).sup.queue = s.sup.queue ∧ (terminate c w s).mon = s.mon := by
  have run : isRunning s c = true := by simpa [isRunning] using h
  have o := outside_of_scope (scope_terminate_plain w run fun k => n k.1)
  refine ⟨stopped_terminate w run, fun x other => ?_, ?_, terminate_mon_plain w run fun k => n k.1⟩
  · rw [chanOf_of_outside o]
    exact chanOf_stop_ne c x w s other
  · rw [queue_of_outside o]
    rfl

/-! ### STOP (R15) -/

theorem serve_stop (tag : Byte) (c : Ch) (s : State) : serve tag (.stop c) s = answer tag 0x03 (stopMotion c .link s) := by
  simp [serve, Req.encoded, serveStop]

theorem stop_answersOnly {s : State} (L : s.Listening) {tag : Byte} {c : Ch} (v : Verdict) (quiet : v.acts = false)
    (e : stopMotion c .link s = (v, s)) : s.AnswersOnly (.stop tag c) 0x83 tag v.payload :=
  answersOnly L rfl (by rw [serve_stop, e, answer_of_quiet quiet]) (by decide) (kind := 0x03)

theorem stop_acts {s t : State} (L : s.Listening) {tag : Byte} {c : Ch} (e : stopMotion c .link s = (.ok, t)) :
    exec (.stop tag c) s = .next (finish (pushReply tag 0x03 (plainReply .ok) t)) := by
  rw [exec_request L (tag := tag) (q := .stop c) rfl, serve_stop, e, answer_of_acts rfl]
  rfl

theorem stopMotion_of_moving {s : State} {c : Ch} (here : s.present c = true)
    (moving : (chanOf s c).state = .pending ∨ (chanOf s c).state = .running) (w : windRetracting s c = false) :
    stopMotion c .link s = (.ok, endMotion c .stop .stopped s) := by
  unfold stopMotion
  rcases moving with e | e <;> simp [here, e, w]

/-- The link port of a state that has changed nothing of it but the report queue. -/
theorem link_of_fixed {s t : State} (h : fixed t = fixed s) : t.link = { s.link with reports := t.link.reports } := by
  have e := of_fixed (fun x => { x.link with reports := [] }) (fun _ => rfl) h
  exact congrArg (fun l : Link => { l with reports := t.link.reports }) e

/-- Settles O17: the table of R15, and what a STOP does to a waiting and to a running motion. -/
theorem stopAnswersAndEnds : Obligations.StopAnswersAndEnds := by
  refine ⟨fun s tag c L => ?_, fun s tag c L here calm => ⟨fun waits => ?_, fun runs => ?_⟩⟩
  · intro q refused
    have refuse : ∀ r, stopMotion c .link s = (.refused r none, s) → refused r := fun r e => by
      have k := stop_answersOnly L _ rfl e (tag := tag)
      rwa [refused_payload] at k
    split
    next absent => exact refuse _ (by simp [stopMotion, absent])
    next here =>
    have here : s.present c = true := Bool.not_eq_false _ ▸ here
    split
    next rest =>
      have rest : (chanOf s c).state = .idle ∨ (chanOf s c).state = .faulted := rest
      exact refuse _ (by rcases rest with e | e <;> simp [stopMotion, here, e])
    next moves =>
    split
    next stopping =>
      have stopping : (chanOf s c).state = .stopping := stopping
      exact ⟨_, stop_acts L (by simp [stopMotion, here, stopping]), rfl, replied_pushReply (by decide) rfl fun _ k => k⟩
    next active =>
    split
    next wind =>
      obtain ⟨rfl, owner, op, cause⟩ := wind
      have retracting : windRetracting s .awning = true := by
        simp [windRetracting, automaticRetract, show (chanOf s .awning).owner = some .automatic from owner,
          show (chanOf s .awning).op = some .autoRetract from op, show (chanOf s .awning).autoCause = some .wind from cause]
      refine refuse _ ?_
      have moves : ¬ ((chanOf s .awning).state = .idle ∨ (chanOf s .awning).state = .faulted) := moves
      have active : (chanOf s .awning).state ≠ .stopping := active
      unfold stopMotion
      rw [if_neg (by simp [here])]
      cases k : (chanOf s .awning).state with
      | idle => exact absurd (.inl k) moves
      | faulted => exact absurd (.inr k) moves
      | stopping => exact absurd k active
      | pending => exact if_pos ⟨rfl, retracting⟩
      | running => exact if_pos ⟨rfl, retracting⟩
    next => trivial
  · have e := stopMotion_of_moving here (.inl waits) calm
    rw [endMotion_of_pending _ _ waits] at e
    obtain ⟨cancelled, others, queue, due, frame⟩ := cancel_pending .stop waits
    have link := link_of_fixed (ends_cancel (p := fun _ _ => True) c .stop s trivial).fixed
    have grows := grows_cancel c .stop s
    generalize cancel c .stop s = u at e cancelled others queue due frame link grows
    refine ⟨_, stop_acts L e, cancelled, due, queue, others, replied_pushReply (by decide) link grows, ?_⟩
    rw [frame]
    rfl
  · have e := stopMotion_of_moving here (.inr runs) calm
    rw [endMotion_of_running _ _ runs] at e
    have run : isRunning s c = true := by simpa [isRunning] using runs
    obtain ⟨stopped, others, queue, mon⟩ := terminate_plain runs (w := .stopped) (by decide)
    obtain ⟨ends, awn, phase⟩ := terminate_drives .stopped run
    have pump := terminate_pump .stopped run
    have ended := ends_terminate c .stopped s
    have link := link_of_fixed ended.fixed
    have grows := grows_terminate (c := c) (w := .stopped) s (by decide)
    have cfg := ended.cfg
    have term := ended.term
    clear ended
    generalize terminate c .stopped s = u at e stopped others queue mon ends awn phase pump link grows cfg term
    exact ⟨_, stop_acts L e, stopped, others, queue, ends, awn, phase, fun k => (pump k).1,
      replied_pushReply (by decide) link grows, cfg, mon, term⟩

/-! ### Expiries of waits and holds (R12, R14) -/

theorem onDue_of_not {s : State} {due : Bool} (f : State → State) (h : due = false) : onDue due f s = s := by
  simp [onDue, h]

theorem onDue_of_due {s : State} {due : Bool} (f : State → State) (h : due = true) (live : s.power.startingUp = false) :
    onDue due f s = finish (f s) := by
  simp [onDue, h, live]

theorem exec_waitExpired (c : Ch) (s : State) :
    exec (.waitExpired c) s = .next (onDue (waitOver s c) (cancel c .waitExpired) s) := rfl

theorem exec_holdExpiry (c : Ch) (s : State) :
    exec (.holdExpiry c) s = .next (onDue (holdOver s c) (endMotion c .released .released) s) := rfl

/-- Settles O35: each expiry, due and not. -/
theorem waitsAndHoldsExpire : Obligations.WaitsAndHoldsExpire := by
  intro s c live cancelled
  have cancels : ∀ (i : Instr) (d : CancelDetail), (chanOf s c).state = .pending →
      exec i s = .next (finish (cancel c d s)) → cancelled i d := fun i d waits e => by
    obtain ⟨done, others, queue, due, frame⟩ := cancel_pending d waits
    exact ⟨_, e, done, others, queue, due, frame⟩
  refine ⟨fun t waits since passed => ?_, fun early => ?_, fun hold passed lapsed => ⟨fun waits => ?_, fun runs => ?_⟩, fun early => ?_⟩
  · have due : waitOver s c = true := by simp [waitOver, waits, since, passed]
    exact cancels _ _ waits (by rw [exec_waitExpired, onDue_of_due _ due live])
  · rw [exec_waitExpired, onDue_of_not _ early]
  · have due : holdOver s c = true := by simp [holdOver, waits, hold, passed, lapsed]
    exact cancels _ _ waits (by rw [exec_holdExpiry, onDue_of_due _ due live, endMotion_of_pending _ _ waits])
  · have due : holdOver s c = true := by simp [holdOver, runs, hold, passed, lapsed]
    obtain ⟨stopped, others, queue, -⟩ := terminate_plain runs (w := .released) (by decide)
    refine ⟨_, ?_, stopped, others, queue⟩
    rw [exec_holdExpiry, onDue_of_due _ due live, endMotion_of_running _ _ runs]
  · rw [exec_holdExpiry, onDue_of_not _ early]

/-! ### The interlock sweep (R28) -/

/-- The channel neither waits nor runs. -/
def AtRest (s : State) (c : Ch) : Prop := (chanOf s c).state ≠ .pending ∧ (chanOf s c).state ≠ .running

theorem Ends.atRest {p : Ch → Ending → Prop} {s t : State} (h : Ends p s t) {c : Ch} (k : AtRest s c) : AtRest t c := by
  rw [AtRest, h.resting c k.1 k.2]
  exact k

theorem atRest_endMotion (c : Ch) (d : CancelDetail) (t : Term) (s : State) : AtRest (endMotion c d t s) c := by
  cases h : (chanOf s c).state with
  | pending =>
    rw [endMotion_of_pending d t h, AtRest, chanOf_cancel_self c d s h]
    exact ⟨nofun, nofun⟩
  | running =>
    rw [endMotion_of_running d t h, AtRest, chanOf_terminate_self t (by simp [isRunning, h])]
    exact ⟨nofun, nofun⟩
  | idle | stopping | faulted =>
    have same : endMotion c d t s = s := by
      unfold endMotion
      rw [cancel_of_not_pending c d s (by simp [h]), terminate_of_not_running c t s (by simp [isRunning, h])]
    rw [same, AtRest, h]
    exact ⟨nofun, nofun⟩

/-- Operations that end motions one after another bring each channel they name to rest. -/
theorem foldl_atRest {α : Type} {p : Ch → Ending → Prop} (f : State → α → State) (g : α → Ch)
    (ends : ∀ t a, Ends p t (f t a)) (rests : ∀ t a, AtRest (f t a) (g a)) (l : List α) (s : State) (a : α) (h : a ∈ l) :
    AtRest (l.foldl f s) (g a) := by
  induction l generalizing s with
  | nil => cases h
  | cons b l ih =>
    rcases List.mem_cons.1 h with rfl | h
    · exact (Ends.foldl f l (fun t x _ => ends t x) _).atRest (rests s a)
    · exact ih _ h

theorem atRest_sweep {s : State} {c : Ch} {i : Item} (h : chanUnsat s c = some i)
    (active : (chanOf s c).state = .pending ∨ (chanOf s c).state = .running) : AtRest (sweep s) c :=
  foldl_atRest (p := fun _ _ => True) _ Prod.fst
    (fun t a => (ends_endMotion a.1 .interlock (.aborted (.item a.2)) t (by simp)).mono fun _ _ _ => trivial)
    (fun t a => atRest_endMotion a.1 _ _ t) _ s (c, i) ((mem_interlockBreaks s c i).2 ⟨active, h⟩)

/-- The record of a channel whose row breaks, after the sweep. -/
theorem chanOf_sweep {s : State} {c : Ch} {i : Item} (h : chanUnsat s c = some i) :
    ((chanOf s c).state = .pending → chanOf (sweep s) c = cancelledRec .interlock (chanOf s c)) ∧
      ((chanOf s c).state = .running → chanOf (sweep s) c = stoppedRec s c (.aborted (.item i)) (chanOf s c)) := by
  have each := (ends_sweep s).each c
  refine ⟨fun waits => ?_, fun runs => ?_⟩
  · obtain e | ⟨x, ⟨j, -, rfl | rfl⟩, st, e⟩ := each
    · exact absurd (e ▸ waits) (atRest_sweep h (.inl waits)).1
    · exact e
    · simp [Ending.state, waits] at st
  · obtain e | ⟨x, ⟨j, hj, rfl | rfl⟩, st, e⟩ := each
    · exact absurd (e ▸ runs) (atRest_sweep h (.inr runs)).2
    · simp [Ending.state, runs] at st
    · obtain rfl : i = j := by simpa [h] using hj
      exact e

theorem chanUnsat_of_motion {s : State} {c : Ch} {m : Motion} (h : chanMotion s c = some m) :
    chanUnsat s c = firstUnsat s c m ((chanOf s c).owner == some .automatic && (chanOf s c).op == some .autoRetract) := by
  simp only [chanUnsat, h]

theorem chanOf_sweep_of_sound {s : State} {c : Ch} (h : chanUnsat s c = none ∨ AtRest s c) : chanOf (sweep s) c = chanOf s c := by
  rcases h with h | h
  · exact (ends_sweep s).other c fun x ⟨i, hi, _⟩ => by simp [h] at hi
  · exact (ends_sweep s).resting c h.1 h.2

/-! ### ALL_STOP (R39) -/

/-- One channel's part in an ALL_STOP. -/
def stopOne (t : State) (c : Ch) : State :=
  if t.present c then
    endMotion c .stop .stopped t
    |> (fun u => if (chanOf t c).state = .stopping then modChan c (fun q => { q with deferred := none }) u else u)
  else t

/-- The record that ALL_STOP leaves of a channel. -/
def allStopRec (s : State) (c : Ch) : ChanRec :=
  let q := chanOf s c
  if s.present c = false then q
  else match q.state with
    | .pending => cancelledRec .stop q
    | .running => stoppedRec s c .stopped q
    | .stopping => { q with deferred := none }
    | _ => q

theorem allStop_eq (s : State) : allStop s = allChs.foldl stopOne s := rfl

theorem fixed_stopOne (t : State) (c : Ch) : fixed (stopOne t c) = fixed t := by
  have ended := (ends_endMotion c .stop .stopped t (by decide)).fixed
  unfold stopOne
  split
  · simp only []
    split
    · exact (rfl : fixed (modChan c (fun q => { q with deferred := none }) (endMotion c .stop .stopped t)) = _).trans ended
    · exact ended
  · rfl

theorem chanOf_stopOne_self (t : State) (c : Ch) : chanOf (stopOne t c) c = allStopRec t c := by
  cases here : t.present c with
  | false => simp [stopOne, allStopRec, here]
  | true =>
    have rest : AtRest t c → chanOf (endMotion c .stop .stopped t) c = chanOf t c := fun k =>
      (ends_endMotion c .stop .stopped t (by decide)).resting c k.1 k.2
    cases h : (chanOf t c).state with
    | pending =>
      have record : allStopRec t c = cancelledRec .stop (chanOf t c) := by simp [allStopRec, here, h]
      simp [stopOne, here, h, record, endMotion_of_pending _ _ h, chanOf_cancel_self _ _ _ h]
    | running =>
      have record : allStopRec t c = stoppedRec t c .stopped (chanOf t c) := by simp [allStopRec, here, h]
      have run : isRunning t c = true := by simp [isRunning, h]
      simp [stopOne, here, h, record, endMotion_of_running _ _ h, chanOf_terminate_self _ run]
    | idle | faulted =>
      have record : allStopRec t c = chanOf t c := by simp [allStopRec, here, h]
      simp [stopOne, here, h, record, rest (by simp [AtRest, h])]
    | stopping =>
      have record : allStopRec t c = { chanOf t c with deferred := none } := by simp [allStopRec, here, h]
      simp [stopOne, here, h, record, rest (by simp [AtRest, h])]

theorem chanOf_stopOne_ne (t : State) (c d : Ch) (n : d ≠ c) : chanOf (stopOne t c) d = chanOf t d := by
  have other : chanOf (endMotion c .stop .stopped t) d = chanOf t d :=
    (ends_endMotion c .stop .stopped t (by decide)).other d fun x h => absurd h.1 n
  unfold stopOne
  split
  · simp only []
    split
    · exact (chanOf_modChan_ne c d (fun q => { q with deferred := none }) _ n).trans other
    · exact other
  · rfl

/-- The queue only shrinks, and a waiting channel that is stopped leaves it. -/
theorem queue_stopOne (t : State) (c : Ch) :
    (∀ e ∈ (stopOne t c).sup.queue, e ∈ t.sup.queue) ∧
      (t.present c = true → (chanOf t c).state = .pending → ∀ e ∈ (stopOne t c).sup.queue, e.ch ≠ c) := by
  have ended := (ends_endMotion c .stop .stopped t (by decide)).queue
  have same : (stopOne t c).sup.queue = if t.present c then (endMotion c .stop .stopped t).sup.queue else t.sup.queue := by
    unfold stopOne
    split
    · simp only []
      split <;> rfl
    · rfl
  refine ⟨fun e he => ?_, fun here waits e he => ?_⟩
  · rw [same] at he
    split at he
    · rw [ended] at he
      exact (List.mem_filter.1 he).1
    · exact he
  · rw [same, if_pos here, endMotion_of_pending _ _ waits, (cancel_pending .stop waits).2.2.1] at he
    simpa using (List.mem_filter.1 he).2

theorem allStopRec_congr {s t : State} {c : Ch} (fix : fixed t = fixed s) (same : chanOf t c = chanOf s c) :
    allStopRec t c = allStopRec s c := by
  have present : t.present c = s.present c := of_fixed (fun x => x.present c) (fun _ => rfl) fix
  have now : t.now = s.now := of_fixed State.now (fun _ => rfl) fix
  have interval : stopInterval t c = stopInterval s c := of_fixed (fun x => stopInterval x c) (fun _ => rfl) fix
  simp only [allStopRec, present, same, stoppedRec, now, interval]

theorem foldl_stopOne (l : List Ch) (nodup : l.Nodup) (s : State) (c : Ch) :
    chanOf (l.foldl stopOne s) c = (if c ∈ l then allStopRec s c else chanOf s c) ∧
      (∀ e ∈ (l.foldl stopOne s).sup.queue, e ∈ s.sup.queue) ∧
      (c ∈ l → s.present c = true → (chanOf s c).state = .pending → ∀ e ∈ (l.foldl stopOne s).sup.queue, e.ch ≠ c) := by
  induction l generalizing s with
  | nil => simp
  | cons b l ih =>
    obtain ⟨out, nodup⟩ := List.nodup_cons.1 nodup
    obtain ⟨record, sub, gone⟩ := ih nodup (stopOne s b)
    obtain ⟨subOne, goneOne⟩ := queue_stopOne s b
    rw [List.foldl_cons]
    refine ⟨?_, fun e he => subOne e (sub e he), fun m here waits e he => ?_⟩
    · rw [record]
      by_cases e : c = b
      · subst e
        simp [out, chanOf_stopOne_self]
      · have same := chanOf_stopOne_ne s b c e
        simp [e, same, allStopRec_congr (fixed_stopOne s b) same]
    · by_cases k : c = b
      · subst k
        exact goneOne here waits e (sub e he)
      · have same := chanOf_stopOne_ne s b c k
        have present : (stopOne s b).present c = true := by
          rw [← here]
          exact of_fixed (fun x => x.present c) (fun _ => rfl) (fixed_stopOne s b)
        exact gone ((List.mem_cons.1 m).resolve_left k) present (by rw [same]; exact waits) e he

theorem chanOf_allStop (s : State) (c : Ch) : chanOf (allStop s) c = allStopRec s c :=
  (foldl_stopOne allChs (by decide) s c).1.trans (if_pos (mem_allChs c))

/-- Settles O37: the sweep and ALL_STOP, channel by channel. -/
theorem interlocksAndAllStop : Obligations.InterlocksAndAllStop := by
  refine ⟨fun s c => ⟨fun m i hm hi => ⟨fun waits => ?_, fun runs => ?_⟩, fun h => chanOf_sweep_of_sound h⟩, fun s c => ?_⟩
  · exact (ends_sweep s).cancelled waits ((chanOf_sweep ((chanUnsat_of_motion hm).trans hi)).1 waits)
  · rw [State.Stopped, (chanOf_sweep ((chanUnsat_of_motion hm).trans hi)).2 runs]
    exact ⟨rfl, rfl, rfl, rfl⟩
  · refine ⟨fun here waits => ?_, fun here runs => ?_, fun here stops => ?_, fun rests => ?_⟩
    · have queue : c ∉ (allStop s).sup.queue.map QEntry.ch := fun m => by
        obtain ⟨e, he, k⟩ := List.mem_map.1 m
        exact (foldl_stopOne allChs (by decide) s c).2.2 (mem_allChs c) here waits e he k
      have record : chanOf (allStop s) c = cancelledRec .stop (chanOf s c) := by
        simp [chanOf_allStop, allStopRec, here, waits]
      rw [State.Cancelled, record]
      exact ⟨rfl, rfl, rfl, rfl, rfl, rfl, rfl, queue⟩
    · have record : chanOf (allStop s) c = stoppedRec s c .stopped (chanOf s c) := by
        simp [chanOf_allStop, allStopRec, here, runs]
      rw [State.Stopped, record]
      exact ⟨rfl, rfl, rfl, rfl⟩
    · simp [chanOf_allStop, allStopRec, here, stops]
    · rw [chanOf_allStop, allStopRec]
      rcases rests with away | idle | faulted
      · simp [away]
      · simp [idle]
      · simp [faulted]

end Sys2Proof.Machine
end

section
/-! PROOF. Starts that no host sends: the pendant (O41) and the protective retract, the drive-away condition and the auto-stow
(O38). -/

namespace Sys2Proof.Machine

/-! ### Which parts of the state an interlock row reads -/

theorem roleActive_congr {s t : State} (cfg : t.store.cfg = s.store.cfg) (term : t.term = s.term) (r : InRole) :
    roleActive t r = roleActive s r := by
  simp only [roleActive, termActive, cfg, term]

theorem allStopActive_congr {s t : State} (cfg : t.store.cfg = s.store.cfg) (term : t.term = s.term) :
    allStopActive t = allStopActive s := roleActive_congr cfg term .allStop

/-- The role items of a row read the configuration and the terminals alone (R24). -/
theorem itemOk_role {s t : State} (cfg : t.store.cfg = s.store.cfg) (term : t.term = s.term) (c : Ch) (m : Motion) (auto : Bool)
    {i : Item} (h : i ∈ [Item.brake, .parkGear, .ignition, .speed]) : itemOk t c m auto i = itemOk s c m auto i := by
  have cell : ∀ q, roleCell t m q = roleCell s m q := fun q => by
    unfold roleCell
    rw [cfg]
  have wired : ∀ v r, wiredRoleOk t v r = wiredRoleOk s v r := fun v r => by
    unfold wiredRoleOk roleAssigned
    rw [cfg, roleActive_congr cfg term]
  have speed : ∀ v, speedOk t v = speedOk s v := fun v => by
    unfold speedOk
    rw [roleActive_congr cfg term]
  simp only [List.mem_cons, List.not_mem_nil, or_false] at h
  rcases h with rfl | rfl | rfl | rfl
  · exact (congrArg (wiredRoleOk t · .brake) (cell 0)).trans (wired _ _)
  · exact (congrArg (wiredRoleOk t · .parkGear) (cell 1)).trans (wired _ _)
  · exact (congrArg (wiredRoleOk t · .ignition) (cell 2)).trans (wired _ _)
  · exact (congrArg (speedOk t) (cell 3)).trans (speed _)

theorem firstUnsat_congr {s t : State} {c : Ch} {m : Motion} {auto : Bool} (cfg : t.store.cfg = s.store.cfg)
    (term : t.term = s.term) (posture : ∀ i ∈ postureItems m, itemOk t c m auto i = itemOk s c m auto i) :
    firstUnsat t c m auto = firstUnsat s c m auto := by
  have each : ∀ i ∈ rowItems m, itemOk t c m auto i = itemOk s c m auto i := fun i hi => by
    rcases List.mem_append.1 hi with hi | hi
    · exact itemOk_role cfg term c m auto hi
    · exact posture i hi
  unfold firstUnsat
  generalize rowItems m = l at each
  induction l with
  | nil => rfl
  | cons i l ih =>
    have rest := ih fun k hk => each k (List.mem_cons_of_mem _ hk)
    simp only [List.find?_cons, each i List.mem_cons_self, rest]

/-- The row of an AUTOMATIC awning retract waives ROOM_MOVING (R25). -/
theorem firstUnsat_autoRetract {s t : State} (cfg : t.store.cfg = s.store.cfg) (term : t.term = s.term) :
    firstUnsat t .awning .awningIn true = firstUnsat s .awning .awningIn true :=
  firstUnsat_congr cfg term fun i hi => by
    obtain rfl : i = .roomMoving := by simpa [postureItems] using hi
    rfl

/-- The row of a STOW reads the rooms' levels besides (R25). -/
theorem firstUnsat_stow {s t : State} (cfg : t.store.cfg = s.store.cfg) (term : t.term = s.term)
    (rooms : allRoomsIn t = allRoomsIn s) : firstUnsat t .level .jackRetract false = firstUnsat s .level .jackRetract false :=
  firstUnsat_congr cfg term fun i hi => by
    obtain rfl : i = .allRoomsIn := by simpa [postureItems] using hi
    exact rooms

/-! ### Starts of owners other than LINK -/

/-- The late checks of an owner that R4 asks no hold of: the job block's, then the row. -/
theorem lateChecks_unheld {s : State} {c : Ch} {o : Op} {h : Bool} {n : Nat} {w : Owner} {m : Motion} {auto : Bool}
    (other : w ≠ .link) (job : jobCheck s c o n = none) (hm : motionOf c o n .none = some m)
    (ha : (w == .automatic && o == .autoRetract) = auto) :
    lateChecks s c o h n w = (firstUnsat s c m auto).map (fun i => (.interlock, some i)) := by
  simp only [lateChecks, job, hm, ha]
  cases firstUnsat s c m auto <;> simp [other]

theorem lateChecks_of_job {s : State} {c : Ch} {o : Op} {h : Bool} {n : Nat} {w : Owner} {r : Reason}
    (job : jobCheck s c o n = some r) : lateChecks s c o h n w = some (r, none) := by
  simp [lateChecks, job]

/-- A START of a channel that is not IDLE changes nothing unless it is AUTOMATIC. -/
theorem startMotion_of_active {s : State} {c : Ch} {o : Op} {h : Bool} {n : Nat} {w : Owner} {q : Option AutoCause}
    (other : w ≠ .automatic) (busy : (chanOf s c).state ≠ .idle) : (startMotion c o h n w q s).2 = s := by
  obtain e | ⟨auto, -⟩ | ⟨-, idle, -⟩ | ⟨idle, -⟩ := startMotion_cases c o h n w q s
  · exact e
  · exact absurd auto other
  · exact absurd idle busy
  · exact absurd idle busy

/-! ### The pendant (R165 to R167) -/

/-- The refusals of a START from the pendant. -/
def pendantRefused (s : State) (c : Ch) (o : Op) (m : Motion) : Prop :=
  s.power.state ≠ .run ∨ s.present c = false ∨ allStopActive s = true ∨ (chanOf s c).state ≠ .idle ∨
    jobCheck s c o 0 ≠ none ∨ firstUnsat s c m false ≠ none

theorem pendantStart_refused {s : State} {c : Ch} {o : Op} {h : Bool} {m : Motion} (nz : o ≠ .captureZero)
    (hm : motionOf c o 0 .none = some m) (no : pendantRefused s c o m) : pendantStart c o h s = s := by
  obtain e | ⟨auto, -⟩ | ⟨z, -⟩ | ⟨idle, here, run, -, e⟩ := startMotion_cases c o h 0 .pendant none s
  · exact e
  · cases auto
  · exact absurd z nz
  by_cases free : allStopActive s = true
  · unfold pendantStart startMotion
    simp [run, here, free]
  have late : ∃ x, lateChecks s c o h 0 .pendant = some x := by
    cases job : jobCheck s c o 0 with
    | some r => exact ⟨_, lateChecks_of_job job⟩
    | none =>
      rw [lateChecks_unheld (auto := false) (by decide) job hm rfl]
      cases sat : firstUnsat s c m false with
      | some i => exact ⟨_, rfl⟩
      | none =>
        have calm : ¬ pendantRefused s c o m := by simp [pendantRefused, run, here, free, idle, job, sat]
        exact absurd no calm
  obtain ⟨⟨r, i⟩, late⟩ := late
  rw [pendantStart, startMotion_of_idle run here (by simpa using free) idle, if_neg nz, late]

/-- A START of the pendant that passes every check waits at the tail of the queue (R5). -/
theorem pendantStart_taken {s : State} {c : Ch} {o : Op} {h : Bool} {m : Motion} (nz : o ≠ .captureZero)
    (hm : motionOf c o 0 .none = some m) (yes : ¬ pendantRefused s c o m) :
    pendantStart c o h s = accept c o h 0 .pendant none s := by
  simp only [pendantRefused, not_or, not_not, Bool.not_eq_false, Bool.not_eq_true] at yes
  obtain ⟨run, here, free, idle, job, sat⟩ := yes
  rw [pendantStart, startMotion_of_idle run here free idle, if_neg nz, lateChecks_unheld (auto := false) (by decide) job hm rfl, sat]
  rfl

theorem accept_started (c : Ch) (o : Op) (h : Bool) (w : Owner) (q : Option AutoCause) (s : State) :
    let u := accept c o h 0 w q s
    (chanOf u c).state = .pending ∧ (chanOf u c).op = some o ∧ (chanOf u c).owner = some w ∧ (chanOf u c).hold = h ∧
      (chanOf u c).deadline = (if h = true then s.now + s.store.cfg.holdWindow else 0) ∧
      (∀ d, d ≠ c → chanOf u d = chanOf s d) ∧ u.sup.queue = s.sup.queue ++ [⟨c, s.now⟩] := by
  intro u
  have self : chanOf u c = acceptedRec s c o h 0 w q (chanOf s c) := chanOf_accept_self c o h 0 w q s
  have queue : u.sup.queue = s.sup.queue ++ [⟨c, s.now⟩] := accept_queue c o h 0 w q s
  refine ⟨?_, ?_, ?_, ?_, ?_, fun d n => chanOf_accept_ne c d o h 0 w q s n, queue⟩ <;> rw [self] <;> rfl

theorem pendantDecode_on {old s : State} {x : InRole} (was : effective old x = false) (is_ : effective s x = true) :
    pendantDecode old s x = if x ∈ s.term.mask then s else pendantActivate x s := by
  simp [pendantDecode, was, is_]

theorem pendantDecode_off {old s : State} {x : InRole} (was : effective old x = true) (is_ : effective s x = false) :
    pendantDecode old s x = pendantDeactivate x s := by
  simp [pendantDecode, was, is_]

/-- The release of a held role (R14, R165). -/
theorem pendantRelease_spec (s : State) (c : Ch) :
    ((chanOf s c).owner = some .pendant → (chanOf s c).hold = true →
      ((chanOf s c).state = .running → s.Stopped (pendantRelease c s) c .released) ∧
      ((chanOf s c).state = .pending → s.Cancelled (pendantRelease c s) c .released)) ∧
    ((chanOf s c).owner ≠ some .pendant ∨ (chanOf s c).hold = false ∨
        ((chanOf s c).state ≠ .running ∧ (chanOf s c).state ≠ .pending) → pendantRelease c s = s) := by
  refine ⟨fun mine held => ?_, fun other => ?_⟩
  · have e : pendantRelease c s = endMotion c .released .released s := if_pos ⟨mine, held⟩
    refine ⟨fun runs => ?_, fun waits => ?_⟩
    · rw [e, endMotion_of_running _ _ runs]
      exact stopped_terminate .released (by simp [isRunning, runs])
    · rw [e, endMotion_of_pending _ _ waits]
      exact (cancel_pending .released waits).1
  · unfold pendantRelease
    split
    next mine =>
      obtain ⟨nr, np⟩ := (other.resolve_left (not_not.2 mine.1)).resolve_left (by simp [mine.2])
      unfold releaseMotion endMotion
      rw [cancel_of_not_pending c _ s np, terminate_of_not_running c _ s (by simpa [isRunning] using nr)]
    · rfl

theorem levelPress_idle {s : State} (o : Op) (h : (chanOf s .level).state = .idle) :
    levelPress o s = pendantStart .level o false s := by
  simp [levelPress, h]

theorem levelPress_rest {s : State} (o : Op)
    (h : (chanOf s .level).state = .faulted ∨ (chanOf s .level).state = .stopping) : levelPress o s = s := by
  rcases h with h | h
  · have e : levelPress o s = pendantStart .level o false s := by simp [levelPress, h]
    rw [e]
    exact startMotion_of_active (by decide) (by simp [h])
  · unfold levelPress stopMotion
    simp only [h]
    split <;> rfl

theorem levelPress_active {s : State} (o : Op) (here : s.present .level = true)
    (h : (chanOf s .level).state = .pending ∨ (chanOf s .level).state = .running) :
    levelPress o s = endMotion .level .stop .stopped s := by
  rcases h with h | h <;> simp [levelPress, stopMotion, h, here]

/-- Settles O41: the held roles and the two that are pressed. -/
theorem pendantDecodes : Obligations.PendantDecodes := by
  intro old s r on off held press refused started
  have start : ∀ {c : Ch} {o : Op} {m : Motion} (h : Bool) (_ : o ≠ .captureZero) (_ : motionOf c o 0 .none = some m),
      (¬ refused c o m → started (pendantStart c o h s) c o h) ∧ (refused c o m → pendantStart c o h s = s) :=
    fun {c o m} h nz hm => ⟨fun yes => by
      have e := pendantStart_taken (h := h) nz hm yes
      rw [e]
      exact accept_started c o h .pendant none s, fun no => pendantStart_refused nz hm no⟩
  refine ⟨fun x c o m mem => ?_, fun x o m mem => ?_⟩
  · have role : pendantActivate x s = pendantStart c o true s ∧ pendantDeactivate x s = pendantRelease c s ∧
        o ≠ .captureZero ∧ motionOf c o 0 .none = some m := by
      simp only [held, List.mem_cons, List.not_mem_nil, or_false, Prod.mk.injEq] at mem
      rcases mem with ⟨rfl, rfl, rfl, rfl⟩ | ⟨rfl, rfl, rfl, rfl⟩ | ⟨rfl, rfl, rfl, rfl⟩ | ⟨rfl, rfl, rfl, rfl⟩ <;>
        exact ⟨rfl, rfl, nofun, rfl⟩
    obtain ⟨activate, deactivate, nz, hm⟩ := role
    refine ⟨fun ⟨was, is_⟩ masked => ?_, fun ⟨was, is_⟩ free => ?_, fun ⟨was, is_⟩ => ?_⟩
    · rw [pendantDecode_on was is_, if_pos masked]
    · rw [pendantDecode_on was is_, if_neg free, activate]
      exact start true nz hm
    · rw [pendantDecode_off was is_, deactivate]
      exact pendantRelease_spec s c
  · have role : pendantActivate x s = levelPress o s ∧ pendantDeactivate x s = s ∧
        o ≠ .captureZero ∧ motionOf .level o 0 .none = some m := by
      simp only [press, List.mem_cons, List.not_mem_nil, or_false, Prod.mk.injEq] at mem
      rcases mem with ⟨rfl, rfl, rfl⟩ | ⟨rfl, rfl, rfl⟩ <;> exact ⟨rfl, rfl, nofun, rfl⟩
    obtain ⟨activate, deactivate, nz, hm⟩ := role
    refine ⟨fun ⟨was, is_⟩ masked => ?_, fun ⟨was, is_⟩ => ?_, fun ⟨was, is_⟩ free => ?_⟩
    · rw [pendantDecode_on was is_, if_pos masked]
    · rw [pendantDecode_off was is_, deactivate]
    · rw [pendantDecode_on was is_, if_neg free, activate]
      refine ⟨fun idle => ?_, levelPress_rest o, fun here runs => ?_, fun here waits => ?_⟩
      · rw [levelPress_idle o idle]
        exact start false nz hm
      · rw [levelPress_active o here (.inr runs), endMotion_of_running _ _ runs]
        exact stopped_terminate .stopped (by simp [isRunning, runs])
      · rw [levelPress_active o here (.inl waits), endMotion_of_pending _ _ waits]
        exact (cancel_pending .stop waits).1

end Sys2Proof.Machine
end

section
/-! PROOF. The protective retract in each state of AWNING, the drive-away condition and the auto-stow (O38). -/

namespace Sys2Proof.Machine

/-! ### The AUTOMATIC awning retract (R4, R6) -/

/-- The START that a protective request makes. -/
def retractStart (cause : AutoCause) (s : State) : Verdict × State :=
  startMotion .awning .autoRetract false 0 .automatic (some cause) s

theorem retractStart_held {s : State} (cause : AutoCause) (here : s.present .awning = true)
    (held : allStopActive s = true ∨ s.power.state ≠ .run) :
    (retractStart cause s).2 = s ∧ owedAfter cause (retractStart cause s).1 = some cause := by
  by_cases run : s.power.state = .run
  · have stop := held.resolve_right (not_not.2 run)
    simp [retractStart, startMotion, run, here, stop, owedAfter]
  · simp [retractStart, startMotion, run, owedAfter]

/-- The record of a channel that keeps a deferred retract (R6). -/
def deferredRec (cause : AutoCause) (q : ChanRec) : ChanRec := { q with deferred := some ⟨.autoRetract, some cause⟩ }

theorem retractStart_stopping {s : State} (cause : AutoCause) (here : s.present .awning = true) (free : allStopActive s = false)
    (run : s.power.state = .run) (stops : (chanOf s .awning).state = .stopping) :
    retractStart cause s = (.deferred, modChan .awning (deferredRec cause) s) := by
  simp [retractStart, startMotion, run, here, free, stops]
  rfl

theorem retractStart_already {s : State} (cause : AutoCause) (here : s.present .awning = true) (free : allStopActive s = false)
    (run : s.power.state = .run) (waits : (chanOf s .awning).state = .pending ∨ (chanOf s .awning).state = .running)
    (op : (chanOf s .awning).op = some .autoRetract) (owner : (chanOf s .awning).owner = some .automatic) :
    retractStart cause s = (.already, s) := by
  rcases waits with w | w <;> simp [retractStart, startMotion, run, here, free, op, owner, w]

theorem retractStart_idle {s : State} (cause : AutoCause) (here : s.present .awning = true) (free : allStopActive s = false)
    (run : s.power.state = .run) (idle : (chanOf s .awning).state = .idle) :
    retractStart cause s = match firstUnsat s .awning .awningIn true with
      | some i => (.refused .interlock (some i), s)
      | none => (.accepted, accept .awning .autoRetract false 0 .automatic (some cause) s) := by
  have late : lateChecks s .awning .autoRetract false 0 .automatic =
      (firstUnsat s .awning .awningIn true).map (fun i => (.interlock, some i)) :=
    lateChecks_unheld (by decide) rfl rfl rfl
  rw [retractStart, startMotion_of_idle run here free idle, if_neg (by decide), late]
  cases firstUnsat s .awning .awningIn true <;> rfl

theorem endMotion_of_rest {c : Ch} {s : State} (d : CancelDetail) (t : Term) (h : AtRest s c) : endMotion c d t s = s := by
  unfold endMotion
  rw [cancel_of_not_pending c d s h.1, terminate_of_not_running c t s (by simpa [isRunning] using h.2)]

/-! ### The protective request (R35) -/

/-- A request's START made, and what its answer leaves owed. -/
def afterRetract (cause : AutoCause) (s : State) : State :=
  modSup (fun u => { u with owed := owedAfter cause (retractStart cause s).1 }) (retractStart cause s).2

section
variable {s : State} (cause : AutoCause) (here : s.present .awning = true) (out : s.awn.status ≠ .pin)
include here out

theorem protective_owes (h : (chanOf s .awning).state = .faulted ∨
    ((chanOf s .awning).state = .pending ∨ (chanOf s .awning).state = .running) ∧ (chanOf s .awning).op = some .retract) :
    protectiveRequest cause s = modSup (fun u => { u with owed := some cause }) s := by
  unfold protectiveRequest
  extract_lets q s1 p
  rw [if_neg (by simp [here, out]), if_pos h]

theorem protective_starts (h : ¬ ((chanOf s .awning).state = .faulted ∨
    ((chanOf s .awning).state = .pending ∨ (chanOf s .awning).state = .running) ∧ (chanOf s .awning).op = some .retract)) :
    protectiveRequest cause s = afterRetract cause (if (chanOf s .awning).op = some .extend then
      endMotion .awning .interlock (.aborted (.item (protectiveItem s cause))) s else s) := by
  unfold protectiveRequest
  extract_lets q s1 p
  rw [if_neg (by simp [here, out]), if_neg h]
  rfl

theorem protective_of_rest (h : (chanOf s .awning).state = .idle ∨ (chanOf s .awning).state = .stopping) :
    protectiveRequest cause s = afterRetract cause s := by
  have rest : AtRest s .awning := by rcases h with h | h <;> simp [AtRest, h]
  rw [protective_starts cause here out (by rcases h with h | h <;> simp [h]), endMotion_of_rest _ _ rest, ite_self]

theorem protective_of_retract (h : (chanOf s .awning).state = .pending ∨ (chanOf s .awning).state = .running)
    (op : (chanOf s .awning).op = some .autoRetract) : protectiveRequest cause s = afterRetract cause s := by
  rw [protective_starts cause here out (by rcases h with h | h <;> simp [h, op]), if_neg (by simp [op])]

theorem protective_of_waiting (h : (chanOf s .awning).state = .pending) (op : (chanOf s .awning).op = some .extend) :
    protectiveRequest cause s = afterRetract cause (cancel .awning .interlock s) := by
  rw [protective_starts cause here out (by simp [h, op]), if_pos op, endMotion_of_pending _ _ h]

theorem protective_of_running (h : (chanOf s .awning).state = .running) (op : (chanOf s .awning).op = some .extend) :
    protectiveRequest cause s = afterRetract cause (terminate .awning (.aborted (.item (protectiveItem s cause))) s) := by
  rw [protective_starts cause here out (by simp [h, op]), if_pos op, endMotion_of_running _ _ h]

end

theorem afterRetract_held {s : State} (cause : AutoCause) (here : s.present .awning = true)
    (held : allStopActive s = true ∨ s.power.state ≠ .run) :
    afterRetract cause s = modSup (fun u => { u with owed := some cause }) s := by
  obtain ⟨same, owed⟩ := retractStart_held cause here held
  rw [afterRetract, same, owed]

theorem afterRetract_of {s t : State} {cause : AutoCause} {v : Verdict} (h : retractStart cause s = (v, t)) :
    afterRetract cause s = modSup (fun u => { u with owed := owedAfter cause v }) t := by
  rw [afterRetract, h]

/-- An accepted retract: its record, its place in the queue, and nothing owed. -/
theorem afterRetract_accepted {s : State} (cause : AutoCause) (here : s.present .awning = true) (free : allStopActive s = false)
    (run : s.power.state = .run) (idle : (chanOf s .awning).state = .idle) (sat : firstUnsat s .awning .awningIn true = none) :
    let u := afterRetract cause s
    (u.sup.owed = none ∧ (chanOf u .awning).state = .pending ∧ (chanOf u .awning).op = some .autoRetract ∧
      (chanOf u .awning).owner = some .automatic ∧ (chanOf u .awning).autoCause = some cause ∧
      (chanOf u .awning).hold = false ∧ (chanOf u .awning).last = (chanOf s .awning).last ∧
      (∀ d, d ≠ .awning → chanOf u d = chanOf s d)) ∧ u.sup.queue = s.sup.queue ++ [⟨.awning, s.now⟩] := by
  intro u
  have e : u = modSup (fun v => { v with owed := none }) (accept .awning .autoRetract false 0 .automatic (some cause) s) :=
    afterRetract_of (by rw [retractStart_idle cause here free run idle, sat])
  have record : chanOf u .awning = acceptedRec s .awning .autoRetract false 0 .automatic (some cause) (chanOf s .awning) := by
    rw [e]
    exact chanOf_accept_self .awning .autoRetract false 0 .automatic (some cause) s
  refine ⟨⟨?_, ?_, ?_, ?_, ?_, ?_, ?_, fun d n => ?_⟩, ?_⟩
  · rw [e]
    rfl
  any_goals rw [record]; rfl
  · rw [e]
    exact chanOf_accept_ne .awning d .autoRetract false 0 .automatic (some cause) s n
  · rw [e]
    exact accept_queue .awning .autoRetract false 0 .automatic (some cause) s

theorem afterRetract_barred {s : State} (cause : AutoCause) {i : Item} (here : s.present .awning = true)
    (free : allStopActive s = false) (run : s.power.state = .run) (idle : (chanOf s .awning).state = .idle)
    (unsat : firstUnsat s .awning .awningIn true = some i) :
    afterRetract cause s = modSup (fun u => { u with owed := none }) s :=
  afterRetract_of (by rw [retractStart_idle cause here free run idle, unsat])

theorem afterRetract_deferred {s : State} (cause : AutoCause) (here : s.present .awning = true) (free : allStopActive s = false)
    (run : s.power.state = .run) (stops : (chanOf s .awning).state = .stopping) :
    afterRetract cause s = modSup (fun u => { u with owed := none }) (modChan .awning (deferredRec cause) s) :=
  afterRetract_of (retractStart_stopping cause here free run stops)

/-- Endings leave what holds a START back as it was. -/
theorem Ends.starts {p : Ch → Ending → Prop} {s t : State} (h : Ends p s t) :
    allStopActive t = allStopActive s ∧ t.power = s.power ∧ t.present .awning = s.present .awning ∧
      firstUnsat t .awning .awningIn true = firstUnsat s .awning .awningIn true :=
  ⟨allStopActive_congr h.cfg h.term, h.power, congrFun h.present _, firstUnsat_autoRetract h.cfg h.term⟩

/-- The states in which a START is held back (R4). -/
def heldBack (s : State) : Prop := allStopActive s = true ∨ s.power.state ≠ .run

theorem not_heldBack {s : State} (h : ¬ heldBack s) : allStopActive s = false ∧ s.power.state = .run := by
  simpa [heldBack] using h

/-- A waiting EXTEND under a protective request: cancelled, and the START made of the IDLE channel. -/
theorem protective_waiting {s : State} (cause : AutoCause) (here : s.present .awning = true) (out : s.awn.status ≠ .pin)
    (waits : (chanOf s .awning).state = .pending) (op : (chanOf s .awning).op = some .extend) :
    let u := protectiveRequest cause s
    (chanOf u .awning).last = some ⟨.cancelled .interlock, (chanOf s .awning).owner⟩ ∧
      (¬ heldBack s → firstUnsat s .awning .awningIn true = none →
        (u.sup.owed = none ∧ (chanOf u .awning).state = .pending ∧ (chanOf u .awning).op = some .autoRetract ∧
          (chanOf u .awning).owner = some .automatic ∧ (chanOf u .awning).autoCause = some cause ∧
          (chanOf u .awning).hold = false ∧ (∀ d, d ≠ .awning → chanOf u d = chanOf s d)) ∧
        u.sup.queue = s.sup.queue.filter (fun e => e.ch != .awning) ++ [⟨.awning, s.now⟩]) ∧
      (∀ i, ¬ heldBack s → firstUnsat s .awning .awningIn true = some i →
        s.Cancelled u .awning .interlock ∧ u.sup.owed = none) ∧
      (heldBack s → s.Cancelled u .awning .interlock ∧ u.sup.owed = some cause) := by
  intro u
  have e : u = afterRetract cause (cancel .awning .interlock s) := protective_of_waiting cause here out waits op
  obtain ⟨cancelled, others, queue, -, -⟩ := cancel_pending .interlock waits
  have ends : Ends (fun _ _ => True) s (cancel .awning .interlock s) := ends_cancel .awning .interlock s trivial
  obtain ⟨stop, power, present, row⟩ := ends.starts
  have now := ends.now
  have record := chanOf_cancel_self .awning .interlock s waits
  clear_value u
  generalize cancel .awning .interlock s = t at e cancelled others queue stop power present row now record
  have idle : (chanOf t .awning).state = .idle := by rw [record]; rfl
  have last : (chanOf t .awning).last = some ⟨.cancelled .interlock, (chanOf s .awning).owner⟩ := by rw [record]; rfl
  have here' : t.present .awning = true := present.trans here
  have held' : heldBack s → allStopActive t = true ∨ t.power.state ≠ .run := fun h => by rwa [stop, power]
  by_cases held : heldBack s
  · have done := afterRetract_held cause here' (held' held)
    rw [done] at e
    subst e
    exact ⟨last, fun n => absurd held n, fun _ n => absurd held n, fun _ => ⟨cancelled, rfl⟩⟩
  · obtain ⟨free, run⟩ := not_heldBack held
    cases sat : firstUnsat s .awning .awningIn true with
    | none =>
      obtain ⟨⟨owed, state, op', owner, auto, hold, kept, same⟩, q⟩ :=
        afterRetract_accepted cause here' (stop.trans free) (power ▸ run) idle (row.trans sat)
      rw [← e] at owed state op' owner auto hold kept same q
      refine ⟨kept.trans last, fun _ _ => ⟨⟨owed, state, op', owner, auto, hold, fun d n => (same d n).trans (others d n)⟩, ?_⟩,
        fun i _ k => (nomatch k), fun h => absurd h held⟩
      rw [q, queue, now]
    | some i =>
      have done := afterRetract_barred cause here' (stop.trans free) (power ▸ run) idle (row.trans sat)
      rw [done] at e
      subst e
      exact ⟨last, fun _ k => (nomatch k), fun _ _ _ => ⟨cancelled, rfl⟩, fun h => absurd h held⟩

/-- A running EXTEND under a protective request: aborted, and the START kept as the deferred one. -/
theorem protective_running {s : State} (cause : AutoCause) (here : s.present .awning = true) (out : s.awn.status ≠ .pin)
    (runs : (chanOf s .awning).state = .running) (op : (chanOf s .awning).op = some .extend) :
    let u := protectiveRequest cause s
    s.Stopped u .awning (.aborted (.item (protectiveItem s cause))) ∧
      (¬ heldBack s → u.sup.owed = none ∧ (chanOf u .awning).deferred = some ⟨.autoRetract, some cause⟩) ∧
      (heldBack s → u.sup.owed = some cause ∧ (chanOf u .awning).deferred = (chanOf s .awning).deferred) := by
  intro u
  have run : isRunning s .awning = true := by simp [isRunning, runs]
  have e : u = afterRetract cause (terminate .awning (.aborted (.item (protectiveItem s cause))) s) :=
    protective_of_running cause here out runs op
  have ends := ends_terminate .awning (.aborted (.item (protectiveItem s cause))) s
  obtain ⟨stop, power, present, -⟩ := ends.starts
  have record := chanOf_terminate_self (.aborted (.item (protectiveItem s cause))) run
  clear ends
  clear_value u
  generalize terminate .awning (.aborted (.item (protectiveItem s cause))) s = t at e stop power present record
  have here' : t.present .awning = true := present.trans here
  by_cases held : heldBack s
  · have done := afterRetract_held cause here' (show allStopActive t = true ∨ t.power.state ≠ .run by rwa [stop, power])
    rw [done] at e
    subst e
    have same : chanOf (modSup (fun v => { v with owed := some cause }) t) .awning = _ := record
    refine ⟨?_, fun n => absurd held n, fun _ => ⟨rfl, ?_⟩⟩
    · rw [State.Stopped, same]
      exact ⟨rfl, rfl, rfl, rfl⟩
    · rw [same]
      rfl
  · obtain ⟨free, live⟩ := not_heldBack held
    have stops : (chanOf t .awning).state = .stopping := by rw [record]; rfl
    have done := afterRetract_deferred cause here' (stop.trans free) (power ▸ live) stops
    rw [done] at e
    subst e
    have same : chanOf (modSup (fun v => { v with owed := none }) (modChan .awning (deferredRec cause) t)) .awning =
        deferredRec cause (stoppedRec s .awning (.aborted (.item (protectiveItem s cause))) (chanOf s .awning)) :=
      (chanOf_modChan_self .awning (deferredRec cause) t).trans (by rw [record])
    refine ⟨?_, fun _ => ⟨rfl, ?_⟩, fun h => absurd h held⟩
    · rw [State.Stopped, same]
      exact ⟨rfl, rfl, rfl, rfl⟩
    · rw [same]
      rfl

/-- The protective request, in each state of AWNING. -/
theorem protectiveRequests (s : State) (cause : AutoCause) :
    let q := chanOf s .awning
    let u := protectiveRequest cause s
    let waits := q.state = .pending ∨ q.state = .running
    let owes := fun (o : Option AutoCause) => u = { s with sup := { s.sup with owed := o } }
    (s.present .awning = false ∨ s.awn.status = .pin → u = s) ∧
    (s.present .awning = true → s.awn.status ≠ .pin →
      (q.state = .faulted ∨ waits ∧ q.op = some .retract → owes (some cause)) ∧
      (heldBack s → q.state = .idle ∨ q.state = .stopping ∨ waits ∧ q.op = some .autoRetract ∧ q.owner = some .automatic →
        owes (some cause)) ∧
      (¬ heldBack s → q.state = .stopping →
        u.sup.owed = none ∧ chanOf u .awning = { q with deferred := some ⟨.autoRetract, some cause⟩ } ∧
          ∀ d, d ≠ .awning → chanOf u d = chanOf s d) ∧
      (¬ heldBack s → waits → q.op = some .autoRetract → q.owner = some .automatic → owes none) ∧
      (¬ heldBack s → q.state = .idle → ∀ i, firstUnsat s .awning .awningIn true = some i → owes none)) := by
  intro q u waits owes
  refine ⟨fun away => ?_, fun here out => ⟨fun h => protective_owes cause here out h, fun held h => ?_, fun calm stops => ?_,
    fun calm moving op owner => ?_, fun calm idle i unsat => ?_⟩⟩
  · have e : (!s.present .awning) = true ∨ s.awn.status = .pin := by simpa using away
    exact if_pos e
  · have e : protectiveRequest cause s = afterRetract cause s := by
      rcases h with h | h | ⟨h, op, -⟩
      · exact protective_of_rest cause here out (.inl h)
      · exact protective_of_rest cause here out (.inr h)
      · exact protective_of_retract cause here out h op
    exact e.trans (afterRetract_held cause here held)
  · obtain ⟨free, run⟩ := not_heldBack calm
    have e := (protective_of_rest cause here out (.inr stops)).trans (afterRetract_deferred cause here free run stops)
    refine ⟨(congrArg (fun x : State => x.sup.owed) e).trans rfl, ?_, fun d n => ?_⟩
    · exact (congrArg (fun x => chanOf x .awning) e).trans (chanOf_modChan_self .awning (deferredRec cause) s)
    · exact (congrArg (fun x => chanOf x d) e).trans (chanOf_modChan_ne .awning d (deferredRec cause) s n)
  · obtain ⟨free, run⟩ := not_heldBack calm
    exact (protective_of_retract cause here out moving op).trans
      (afterRetract_of (retractStart_already cause here free run moving op owner))
  · obtain ⟨free, run⟩ := not_heldBack calm
    exact (protective_of_rest cause here out (.inl idle)).trans (afterRetract_barred cause here free run idle unsat)

/-! ### What a protective request leaves of rooms and levelling -/

/-- What an operation on AWNING leaves: rooms and levelling engine as they were, no report lost. -/
structure AwningWork (s t : State) : Prop where
  rooms : t.rooms = s.rooms
  lev : t.lev = s.lev
  grows : Grows s t

theorem AwningWork.refl (s : State) : AwningWork s s := ⟨rfl, rfl, .of_link rfl⟩

theorem AwningWork.trans {s t u : State} (h : AwningWork s t) (k : AwningWork t u) : AwningWork s u :=
  ⟨k.rooms.trans h.rooms, k.lev.trans h.lev, h.grows.trans k.grows⟩

theorem awningWork_cancel (d : CancelDetail) (s : State) : AwningWork s (cancel .awning d s) := by
  have grows := grows_cancel .awning d s
  rw [cancel_frame] at grows ⊢
  exact ⟨rfl, rfl, grows⟩

theorem awningWork_terminate (w : Term) (n : w ≠ .normal) (s : State) : AwningWork s (terminate .awning w s) := by
  refine ⟨?_, ?_, grows_terminate s n⟩ <;>
  · by_cases run : isRunning s .awning = true
    · rw [terminate_of_running w run]
      have tail : ∀ u : State, (pumpOffAndReport .awning u).rooms = u.rooms ∧ (pumpOffAndReport .awning u).lev = u.lev := fun u => by
        unfold pumpOffAndReport
        rw [signal_frame]
        split
        · rw [pumpStop_frame]
          exact ⟨rfl, rfl⟩
        · exact ⟨rfl, rfl⟩
      have late : ∀ u : State, (lateSwitch .awning w u).rooms = u.rooms ∧ (lateSwitch .awning w u).lev = u.lev := fun u => by
        simp only [lateSwitch]
        split
        · rw [awnHome_frame]
          exact ⟨rfl, rfl⟩
        · exact ⟨rfl, rfl⟩
      have job : ∀ u : State, (endWrite .awning w u).rooms = u.rooms ∧ (endWrite .awning w u).lev = u.lev := fun u => by
        simp only [endWrite, awningEnd]
        repeat' split
        · rw [awnHome_frame]
          exact ⟨rfl, rfl⟩
        · rw [setAwnStat_frame]
          exact ⟨rfl, rfl⟩
        all_goals
          rw [setAwnStat_frame]
          exact ⟨rfl, rfl⟩
      simp only [tail, late, written, job]
      rfl
    · rw [terminate_of_not_running .awning w s (by simpa using run)]

theorem awningWork_retractStart (cause : AutoCause) (s : State) : AwningWork s (retractStart cause s).2 := by
  obtain e | ⟨-, e⟩ | ⟨z, -⟩ | ⟨-, -, -, -, e⟩ := startMotion_cases .awning .autoRetract false 0 .automatic (some cause) s
  · have same : (retractStart cause s).2 = s := e
    rw [same]
    exact .refl s
  · rw [retractStart, e]
    exact ⟨rfl, rfl, .of_link rfl⟩
  · cases z
  · rw [retractStart, e]
    have frame := accept_frame .awning .autoRetract false 0 .automatic (some cause) s
    refine ⟨?_, ?_, (mem_accept .awning .autoRetract false 0 .automatic (some cause) s).1⟩
    · rw [frame]
    · rw [frame]
      rfl

theorem awningWork_protective (cause : AutoCause) (s : State) : AwningWork s (protectiveRequest cause s) := by
  have ended : AwningWork s (endMotion .awning .interlock (.aborted (.item (protectiveItem s cause))) s) :=
    (awningWork_cancel .interlock s).trans (awningWork_terminate _ (by simp) _)
  have owed : ∀ (o : Option AutoCause) (t : State), AwningWork t (modSup (fun u => { u with owed := o }) t) :=
    fun _ _ => ⟨rfl, rfl, .of_link rfl⟩
  unfold protectiveRequest
  extract_lets q s1 p
  split
  · exact .refl s
  · split
    · exact owed _ s
    · have first : AwningWork s s1 := by
        simp only [s1]
        split
        · exact ended
        · exact .refl s
      exact (first.trans (awningWork_retractStart cause s1)).trans (owed _ _)

/-- No channel but AWNING moves in a protective request. -/
theorem chanOf_protective_ne (cause : AutoCause) (s : State) (c : Ch) (n : c ≠ .awning) :
    chanOf (protectiveRequest cause s) c = chanOf s c := by
  have ended : chanOf (endMotion .awning .interlock (.aborted (.item (protectiveItem s cause))) s) c = chanOf s c :=
    (ends_endMotion .awning _ _ s (by simp)).other c fun x h => absurd h.1 n
  have start : ∀ t : State, chanOf (retractStart cause t).2 c = chanOf t c := fun t => by
    obtain e | ⟨-, e⟩ | ⟨z, -⟩ | ⟨-, -, -, -, e⟩ := startMotion_cases .awning .autoRetract false 0 .automatic (some cause) t
    · exact congrArg (fun x => chanOf x c) e
    · rw [retractStart, e]
      exact chanOf_modChan_ne .awning c (deferredRec cause) t n
    · cases z
    · rw [retractStart, e]
      exact chanOf_accept_ne .awning c .autoRetract false 0 .automatic (some cause) t n
  unfold protectiveRequest
  extract_lets q s1 p
  split
  · rfl
  · split
    · rfl
    · have first : chanOf s1 c = chanOf s c := by
        simp only [s1]
        split
        · exact ended
        · rfl
      exact (start s1).trans first

/-! ### The drive-away condition (R33, R34, R37) -/

/-- The condition has begun, and the alert's owner has said so. -/
def drivenAway (i : Item) (s : State) : State :=
  setAlertCond .driveAway true { s with sup := { s.sup with driveAway := true, driveAwayBy := i } }

/-- The protective request at the beginning of the condition, where its entry is on. -/
def drivenRetract (i : Item) (s : State) : State :=
  if s.store.cfg.driveAwayRetract then protectiveRequest .driveAway (drivenAway i s) else drivenAway i s

theorem drivenAway_frame (i : Item) (s : State) :
    drivenAway i s = { s with
      sup := { s.sup with driveAway := true, driveAwayBy := i }
      link := { s.link with alerts := (drivenAway i s).link.alerts, reports := (drivenAway i s).link.reports } } := by
  unfold drivenAway
  rw [setAlertCond_frame]

theorem driveAwayBegin_of_new {i : Item} {s : State} (new : travelReady s = false) (calm : s.sup.driveAway = false) :
    driveAwayBegin i s = autoStow (drivenRetract i s) := by
  unfold driveAwayBegin
  rw [if_neg (by simp [new, calm])]
  rfl

theorem driveAwayBegin_of_old {i : Item} {s : State} (old : travelReady s = true ∨ s.sup.driveAway = true) :
    driveAwayBegin i s = s := by
  unfold driveAwayBegin
  rw [if_pos (by rcases old with h | h <;> simp [h])]

/-- What the beginning of the condition has left before the auto-stow. -/
theorem drivenRetract_keeps (i : Item) (s : State) :
    Steady (drivenAway i s) (drivenRetract i s) ∧ AwningWork (drivenAway i s) (drivenRetract i s) ∧
      chanOf (drivenRetract i s) .level = chanOf s .level := by
  have level : chanOf (drivenAway i s) .level = chanOf s .level := by
    rw [drivenAway_frame]
    rfl
  unfold drivenRetract
  split
  · exact ⟨steady_protectiveRequest _ _, awningWork_protective _ _, (chanOf_protective_ne _ _ _ (by simp)).trans level⟩
  · exact ⟨.refl _, .refl _, level⟩

theorem autoStow_cases (s : State) :
    autoStow s = s ∨
      (s.store.cfg.autoStow = true ∧ allRoomsIn s = true ∧ (chanOf s .level).state = .idle ∧
        (presentJacks s).any (fun j => (jackOf s j).contact != .stowed) = true) ∧
      autoStow s = (startMotion .level .stow false 0 .automatic none s).2 := by
  unfold autoStow
  split
  next h => exact .inr ⟨h, rfl⟩
  · exact .inl rfl

theorem steady_autoStow (s : State) : Steady s (autoStow s) := by
  obtain e | ⟨-, e⟩ := autoStow_cases s
  · rw [e]
    exact .refl s
  · rw [e]
    exact steady_startMotion .level .stow false 0 .automatic none s (by decide)

/-- The STOW that the auto-stow makes of an IDLE LEVEL. -/
theorem stowStart_idle {s : State} (run : s.power.state = .run) (here : s.present .level = true) (free : allStopActive s = false)
    (idle : (chanOf s .level).state = .idle) :
    (startMotion .level .stow false 0 .automatic none s).2 =
      if firstUnsat s .level .jackRetract false = none then accept .level .stow false 0 .automatic none s else s := by
  have late : lateChecks s .level .stow false 0 .automatic =
      (firstUnsat s .level .jackRetract false).map (fun i => (.interlock, some i)) :=
    lateChecks_unheld (by decide) rfl rfl rfl
  rw [startMotion_of_idle run here free idle, if_neg (by decide), late]
  cases firstUnsat s .level .jackRetract false <;> rfl

theorem stowStart_held {s : State}
    (h : s.power.state ≠ .run ∨ s.present .level = false ∨ allStopActive s = true) :
    (startMotion .level .stow false 0 .automatic none s).2 = s := by
  unfold startMotion
  by_cases run : s.power.state = .run
  · cases here : s.present .level with
    | false => simp [run]
    | true =>
      have stop := (h.resolve_left (not_not.2 run)).resolve_left (by simp [here])
      simp [run, stop]
  · simp [run]

theorem grows_autoStow (s : State) : Grows s (autoStow s) := by
  obtain e | ⟨⟨-, -, idle, -⟩, e⟩ := autoStow_cases s
  · rw [e]
    exact .of_link rfl
  · rw [e]
    obtain e | ⟨-, e⟩ | ⟨z, -⟩ | ⟨-, -, -, -, e⟩ := startMotion_cases .level .stow false 0 .automatic none s
    · rw [e]
      exact .of_link rfl
    · rw [e]
      exact .of_link rfl
    · cases z
    · rw [e]
      exact (mem_accept .level .stow false 0 .automatic none s).1

theorem allRoomsIn_iff (s : State) : allRoomsIn s = true ↔ ∀ r, s.present (.room r) = true → (roomOf s r).status = .pin := by
  have all : ∀ r, r ∈ allRooms := fun r => by cases r <;> decide
  simp [allRoomsIn, someRoomOut, presentRooms, all]

theorem anyUnstowed_iff (s : State) :
    (presentJacks s).any (fun j => (jackOf s j).contact != .stowed) = true ↔
      ∃ j, s.jackPresent j = true ∧ (jackOf s j).contact ≠ .stowed := by
  have all : ∀ j, j ∈ allJacks := fun j => by cases j <;> decide
  simp [presentJacks, all]

/-- A STOW of owner AUTOMATIC is made and accepted (R37). -/
def stowsAtOnce (s : State) : Prop :=
  s.store.cfg.autoStow = true ∧ (∀ r, s.present (.room r) = true → (roomOf s r).status = .pin) ∧
    (chanOf s .level).state = .idle ∧ (∃ j, s.jackPresent j = true ∧ (jackOf s j).contact ≠ .stowed) ∧
    s.power.state = .run ∧ allStopActive s = false ∧ firstUnsat s .level .jackRetract false = none

/-- The conditions of the auto-stow read nothing that the beginning of the condition has changed. -/
theorem stowsAtOnce_congr {s t : State} (k : kept t = kept s) (rooms : t.rooms = s.rooms) (lev : t.lev = s.lev)
    (level : chanOf t .level = chanOf s .level) : stowsAtOnce t ↔ stowsAtOnce s := by
  have cfg : t.store.cfg = s.store.cfg := of_kept (fun x => x.store.cfg) (fun _ => rfl) k
  have term : t.term = s.term := of_kept State.term (fun _ => rfl) k
  have present : t.present = s.present := of_kept State.present (fun _ => rfl) k
  have jacks : t.jackPresent = s.jackPresent := of_kept State.jackPresent (fun _ => rfl) k
  have power : t.power = s.power := of_kept State.power (fun _ => rfl) k
  have status : ∀ r, roomOf t r = roomOf s r := fun r => by simp only [roomOf, rooms]
  have contact : ∀ j, jackOf t j = jackOf s j := fun j => by simp only [jackOf, lev]
  have all : allRoomsIn t = allRoomsIn s := by
    rw [Bool.eq_iff_iff, allRoomsIn_iff, allRoomsIn_iff, present]
    simp only [status]
  simp only [stowsAtOnce, cfg, present, jacks, power, status, contact, level, allStopActive_congr cfg term,
    firstUnsat_stow cfg term all]

theorem autoStow_of_stows {s : State} (h : stowsAtOnce s) :
    autoStow s = accept .level .stow false 0 .automatic none s := by
  obtain ⟨entry, rooms, idle, ⟨j, jack, contact⟩, run, free, sat⟩ := h
  have here : s.present .level = true := (Bool.and_eq_true_iff.1 jack).1
  unfold autoStow
  rw [if_pos ⟨entry, (allRoomsIn_iff s).2 rooms, idle, (anyUnstowed_iff s).2 ⟨j, jack, contact⟩⟩,
    stowStart_idle run here free idle, if_pos sat]

theorem autoStow_of_not {s : State} (h : ¬ stowsAtOnce s) : autoStow s = s := by
  obtain e | ⟨⟨entry, rooms, idle, jacks⟩, e⟩ := autoStow_cases s
  · exact e
  rw [e]
  by_cases held : s.power.state ≠ .run ∨ s.present .level = false ∨ allStopActive s = true
  · exact stowStart_held held
  · simp only [not_or, not_not, Bool.not_eq_false, Bool.not_eq_true] at held
    obtain ⟨run, here, free⟩ := held
    rw [stowStart_idle run here free idle, if_neg fun sat =>
      h ⟨entry, (allRoomsIn_iff s).1 rooms, idle, (anyUnstowed_iff s).1 jacks, run, free, sat⟩]

/-- Settles O38: the request by AWNING's state, the condition's beginning and end, and the auto-stow. -/
theorem retractsRequested : Obligations.RetractsRequested := by
  refine ⟨fun s cause => ?_, fun s i => ?_, fun s i new calm => ?_⟩
  · obtain ⟨away, moves⟩ := protectiveRequests s cause
    refine ⟨away, fun here out => ?_⟩
    obtain ⟨owes, held, stopping, already, barred⟩ := moves here out
    refine ⟨owes, held, stopping, already, fun free idle => ⟨fun sat => ?_, barred free idle⟩,
      fun waits op => protective_waiting cause here out waits op, fun runs op => protective_running cause here out runs op⟩
    obtain ⟨stop, run⟩ := not_heldBack free
    have e := protective_of_rest cause here out (.inl idle)
    obtain ⟨⟨owed, state, op, owner, auto, hold, -, same⟩, queue⟩ := afterRetract_accepted cause here stop run idle sat
    rw [← e] at owed state op owner auto hold same queue
    exact ⟨⟨owed, state, op, owner, auto, hold, same⟩, queue⟩
  · refine ⟨driveAwayBegin_of_old, fun new calm => ?_, rfl, fun owed => ?_, fun other => ?_⟩
    · have steady := (drivenRetract_keeps i s).1.trans (steady_autoStow _)
      have began : (drivenAway i s).sup.driveAway = true ∧ (drivenAway i s).sup.driveAwayBy = i := by
        rw [drivenAway_frame]
        exact ⟨rfl, rfl⟩
      rw [driveAwayBegin_of_new new calm]
      exact ⟨(of_kept (fun x => x.sup.driveAway) (fun _ => rfl) steady.kept).trans began.1,
        (of_kept (fun x => x.sup.driveAwayBy) (fun _ => rfl) steady.kept).trans began.2⟩
    · exact if_pos owed
    · exact if_neg other
  · intro u begun stows
    obtain ⟨steady, work, level⟩ := drivenRetract_keeps i s
    have e : u = autoStow (drivenRetract i s) := driveAwayBegin_of_new new calm
    have begins : begun = drivenAway i s := rfl
    have kept_eq : kept (drivenRetract i s) = kept (drivenAway i s) := steady.kept
    have cfg : (drivenRetract i s).store.cfg = s.store.cfg :=
      (of_kept (fun x => x.store.cfg) (fun _ => rfl) kept_eq).trans (by rw [drivenAway_frame])
    have now : (drivenRetract i s).now = s.now := (of_kept State.now (fun _ => rfl) kept_eq).trans (by rw [drivenAway_frame])
    have same : stowsAtOnce (drivenRetract i s) ↔ stows := by
      refine (stowsAtOnce_congr kept_eq work.rooms work.lev ?_).trans ?_
      · rw [level, drivenAway_frame]
        rfl
      · rw [drivenAway_frame]
        exact Iff.rfl
    clear_value u
    refine ⟨fun quiet => ?_, fun off => ?_, fun now_ => ?_, fun no => ?_⟩
    · obtain ⟨latched, queued⟩ := setAlertCond_rise .driveAway
        { s with sup := { s.sup with driveAway := true, driveAwayBy := i } } quiet
      have total := steady.trans (steady_autoStow (drivenRetract i s))
      have alerts : u.link.alerts = (drivenAway i s).link.alerts := by
        rw [e]
        exact of_kept (fun x => x.link.alerts) (fun _ => rfl) total.kept
      refine ⟨alerts ▸ latched, fun a b => ?_⟩
      rw [e]
      exact (work.grows.trans (grows_autoStow _)) _ (queued a b)
    · have none_ : ¬ stowsAtOnce (drivenRetract i s) := fun k => by
        have on := k.1
        rw [cfg, off] at on
        cases on
      rw [e, autoStow_of_not none_]
      rfl
    · rw [e, autoStow_of_stows (same.2 now_)]
      have record := chanOf_accept_self .level .stow false 0 .automatic none (drivenRetract i s)
      have queue := accept_queue .level .stow false 0 .automatic none (drivenRetract i s)
      rw [record, queue, now]
      exact ⟨rfl, rfl, rfl, rfl, List.mem_append_right _ (List.mem_singleton.2 rfl)⟩
    · rw [e, autoStow_of_not (fun k => no (same.1 k)), level]

end Sys2Proof.Machine
end

section
/-! PROOF. The admission scan (O33): its answers, the admission of one entry, and the walk over two. -/

namespace Sys2Proof.Machine

/-! ### What a row reads, over the channels -/

/-- Two states whose rows agree for a channel: what an interlock row and the channel's motion read. -/
structure SameRows (s t : State) : Prop where
  kept : kept t = kept s
  rooms : t.rooms = s.rooms
  lev : t.lev = s.lev
  awn : t.awn = s.awn
  state : ∀ c, (chanOf t c).state = (chanOf s c).state
  op : ∀ c, (chanOf t c).op = (chanOf s c).op
  operand : ∀ c, (chanOf t c).operand = (chanOf s c).operand
  owner : ∀ c, (chanOf t c).owner = (chanOf s c).owner

theorem SameRows.trans {s t u : State} (h : SameRows s t) (k : SameRows t u) : SameRows s u where
  kept := k.kept.trans h.kept
  rooms := k.rooms.trans h.rooms
  lev := k.lev.trans h.lev
  awn := k.awn.trans h.awn
  state c := (k.state c).trans (h.state c)
  op c := (k.op c).trans (h.op c)
  operand c := (k.operand c).trans (h.operand c)
  owner c := (k.owner c).trans (h.owner c)

section
variable {s t : State} (h : SameRows s t)
include h

theorem SameRows.cfg : t.store.cfg = s.store.cfg := of_kept (fun x => x.store.cfg) (fun _ => rfl) h.kept
theorem SameRows.term : t.term = s.term := of_kept State.term (fun _ => rfl) h.kept
theorem SameRows.present : t.present = s.present := of_kept State.present (fun _ => rfl) h.kept
theorem SameRows.jackPresent : t.jackPresent = s.jackPresent := of_kept State.jackPresent (fun _ => rfl) h.kept
theorem SameRows.wind : t.wind = s.wind := of_kept State.wind (fun _ => rfl) h.kept

theorem SameRows.chanMotion (c : Ch) : chanMotion t c = chanMotion s c := by
  unfold Machine.chanMotion
  simp only [h.op c, h.operand c, roomOf, h.rooms]

theorem SameRows.itemOk (c : Ch) (m : Motion) (auto : Bool) (i : Item) : itemOk t c m auto i = itemOk s c m auto i := by
  have status : ∀ r, roomOf t r = roomOf s r := fun r => by simp only [roomOf, h.rooms]
  have contact : ∀ j, jackOf t j = jackOf s j := fun j => by simp only [jackOf, h.lev]
  cases i with
  | brake | parkGear | ignition | speed => exact itemOk_role h.cfg h.term c m auto (by decide)
  | allRoomsIn => simp only [Machine.itemOk, allRoomsIn, someRoomOut, presentRooms, h.present, status]
  | jackContact =>
    have needs : chNeedsJacks t c = chNeedsJacks s c := by cases c <;> simp only [chNeedsJacks, h.cfg]
    simp only [Machine.itemOk, needs, presentJacks, h.jackPresent, contact]
  | awningClear =>
    have under : chUnderAwning t c = chUnderAwning s c := by cases c <;> simp only [chUnderAwning, h.cfg]
    simp only [Machine.itemOk, under, h.present, isRunning, h.state, h.awn]
  | roomMoving => simp only [Machine.itemOk, anyUnderAwning, underAwning, h.present, h.cfg, h.state]
  | wind => simp only [Machine.itemOk, h.cfg, h.wind]

theorem SameRows.chanUnsat (c : Ch) : chanUnsat t c = chanUnsat s c := by
  have row : ∀ m auto, firstUnsat t c m auto = firstUnsat s c m auto := fun m auto => by
    unfold firstUnsat
    simp only [h.itemOk]
  unfold Machine.chanUnsat
  simp only [h.chanMotion, h.owner c, h.op c, row]

end

/-- A write in one channel's record that its row does not read. -/
theorem sameRows_modChan (c : Ch) (f : ChanRec → ChanRec) (s : State)
    (h : ∀ q, (f q).state = q.state ∧ (f q).op = q.op ∧ (f q).operand = q.operand ∧ (f q).owner = q.owner) :
    SameRows s (modChan c f s) := by
  have each : ∀ {β : Type} (p : ChanRec → β), (∀ q, p (f q) = p q) → ∀ d, p (chanOf (modChan c f s) d) = p (chanOf s d) :=
    fun p hp d => by
      by_cases e : d = c
      · subst e
        rw [chanOf_modChan_self, hp]
      · rw [chanOf_modChan_ne _ _ _ _ e]
  exact ⟨rfl, rfl, rfl, rfl, each _ fun q => (h q).1, each _ fun q => (h q).2.1, each _ fun q => (h q).2.2.1,
    each _ fun q => (h q).2.2.2⟩

/-- Rows that agree still agree when a channel enters RUNNING in both states. -/
theorem SameRows.enters {s t : State} (h : SameRows s t) (c : Ch) :
    SameRows (modChan c (fun q => { q with state := .running }) s) (modChan c (fun q => { q with state := .running }) t) := by
  have each : ∀ {β : Type} (p : ChanRec → β), (p { chanOf t c with state := .running } = p { chanOf s c with state := .running }) →
      (∀ d, p (chanOf t d) = p (chanOf s d)) → ∀ d, p (chanOf (modChan c (fun q => { q with state := .running }) t) d) =
        p (chanOf (modChan c (fun q => { q with state := .running }) s) d) := fun p self rest d => by
    by_cases e : d = c
    · subst e
      rw [chanOf_modChan_self, chanOf_modChan_self, self]
    · rw [chanOf_modChan_ne _ _ _ _ e, chanOf_modChan_ne _ _ _ _ e, rest]
  exact ⟨h.kept, h.rooms, h.lev, h.awn, each _ rfl h.state, each _ (h.op c) h.op, each _ (h.operand c) h.operand,
    each _ (h.owner c) h.owner⟩

/-! ### The answers of the scan (R8, R149, R153) -/

/-- What the answers of the scan for the entries read besides the rows. -/
structure SameAnswers (s t : State) : Prop extends SameRows s t where
  holder : t.man.pump = s.man.pump
  mon : t.mon = s.mon

section
variable {s t : State} (h : SameAnswers s t)
include h

theorem SameAnswers.presentRoomCount : presentRoomCount t = presentRoomCount s := by
  simp only [Machine.presentRoomCount, presentRooms, runningOrStopping, h.present, h.state]

theorem SameAnswers.conflicts (c : Ch) : conflicts t c = conflicts s c := by
  have moving : ∀ d, runningOrStopping t d = runningOrStopping s d := fun d => by simp only [runningOrStopping, h.state]
  cases c with
  | level => simp only [Machine.conflicts, presentRooms, h.present, moving]
  | room r =>
    unfold Machine.conflicts
    rw [moving, moving, h.present, h.cfg, h.presentRoomCount]
  | awning => simp only [Machine.conflicts, anyUnderAwning, underAwning, h.present, h.cfg, h.state]

theorem SameAnswers.needsPump (c : Ch) : needsPump t c = needsPump s c := by
  cases c <;> simp only [Machine.needsPump, kindOf, h.cfg]

theorem SameAnswers.pumpFree : pumpFree t = pumpFree s := by
  simp only [Machine.pumpFree, levelPumpLatch, h.holder, h.mon, h.state]

theorem SameAnswers.motorsClear (c : Ch) : motorsClear t c = motorsClear s c := by
  cases c with
  | level => rfl
  | room r =>
    unfold Machine.motorsClear kindOf roomEnds kindOf
    rw [h.cfg, h.mon]
  | awning => simp only [Machine.motorsClear, h.mon]

theorem SameAnswers.currentOk (c : Ch) : currentOk t c = currentOk s c := by
  have demand : demandOf t c = demandOf s c := by cases c <;> simp only [demandOf, kindOf, h.cfg]
  have sum : ordinarySum t = ordinarySum s := by
    unfold ordinarySum reserved
    rw [h.mon]
  unfold Machine.currentOk automaticRetract
  rw [h.motorsClear, demand, sum, h.owner, h.op, h.mon, h.cfg]

end

theorem scanAnswers (s : State) :
    let moves := fun (c : Ch) => (chanOf s c).state = .running ∨ (chanOf s c).state = .stopping
    let present := fun (c : Ch) => s.present c = true
    (conflicts s .level = true ↔ ∃ r, present (.room r) ∧ moves (.room r)) ∧
    (∀ r, conflicts s (.room r) = true ↔
      (present .level ∧ moves .level) ∨
      (s.store.cfg.underAwning r = true ∧ present .awning ∧ moves .awning) ∨
      s.store.cfg.roomLimit ≤
        ([Room.a, .b, .c, .d].filter (fun x => s.present (.room x) && runningOrStopping s (.room x))).length) ∧
    (conflicts s .awning = true ↔
      ∃ r, present (.room r) ∧ s.store.cfg.underAwning r = true ∧ moves (.room r)) ∧
    (pumpFree s = true ↔ s.man.pump.holder = none ∧ s.man.pump.runState = .none ∧
      ¬ (s.mon.latches.pump.isSet = true ∧ s.mon.latches.pump.ch = some .level ∧ (chanOf s .level).state = .faulted)) ∧
    (∀ c, automaticRetract s c = true → c = .awning →
      (currentOk s c = true ↔ s.mon.latches.awning.isSet = false)) ∧
    (∀ c, automaticRetract s c = false → (currentOk s c = true ↔
      s.mon.supply = .normal ∧ motorsClear s c = true ∧
        ordinarySum s + demandOf s c ≤ s.store.cfg.budget - s.store.cfg.awningDemand)) := by
  intro moves present
  have all : ∀ r, r ∈ allRooms := fun r => by cases r <;> decide
  have moving : ∀ c, runningOrStopping s c = true ↔ moves c := fun c => by simp [runningOrStopping, moves]
  have count : presentRoomCount s =
      ([Room.a, .b, .c, .d].filter (fun x => s.present (.room x) && runningOrStopping s (.room x))).length := by
    simp only [presentRoomCount, presentRooms, List.countP_eq_length_filter, List.filter_filter, allRooms]
    simp only [Bool.and_comm]
  refine ⟨?_, fun r => ?_, ?_, ?_, fun c auto e => ?_, fun c manual => ?_⟩
  · simp [conflicts, presentRooms, all, moving, present]
  · simp only [conflicts, Bool.or_eq_true, Bool.and_eq_true, moving, decide_eq_true_eq, count, and_assoc, or_assoc]
    exact Iff.rfl
  · simp [conflicts, anyUnderAwning, underAwning, all, moves, present, and_assoc]
  · simp [pumpFree, levelPumpLatch, and_assoc, imp_iff_not_or, or_assoc]
  · subst e
    simp [currentOk, auto, motorsClear]
  · simp [currentOk, manual, and_assoc]

/-! ### An entry that waits (R7) -/

theorem setWaiting_frame (c : Ch) (w : Waiting) (s : State) :
    setWaiting c w s = { s with chans := (setWaiting c w s).chans, link := (setWaiting c w s).link } := by
  unfold setWaiting
  split
  · rfl
  · rw [signal_frame]
    rfl

theorem chanOf_setWaiting_self (c : Ch) (w : Waiting) (s : State) :
    chanOf (setWaiting c w s) c = { chanOf s c with waiting := some w } := by
  rw [chanOf_of_outside (outside_setWaiting c w s), chanOf_modChan_self]

theorem chanOf_setWaiting_ne (c d : Ch) (w : Waiting) (s : State) (n : d ≠ c) : chanOf (setWaiting c w s) d = chanOf s d := by
  rw [chanOf_of_outside (outside_setWaiting c w s), chanOf_modChan_ne _ _ _ _ n]

theorem sameAnswers_setWaiting (c : Ch) (w : Waiting) (s : State) : SameAnswers s (setWaiting c w s) := by
  have rows := sameRows_modChan c (fun q => { q with waiting := some w }) s fun _ => ⟨rfl, rfl, rfl, rfl⟩
  have same := chanOf_of_outside (outside_setWaiting c w s)
  have keeps : ∀ {β : Type} (p : State → β), (∀ (x : State) a b, p { x with chans := a, link := b } = p x) →
      p (setWaiting c w s) = p s := fun p hp => (congrArg p (setWaiting_frame c w s)).trans (hp s _ _)
  exact {
    kept := (steady_setWaiting c w s).kept
    rooms := keeps State.rooms fun _ _ _ => rfl
    lev := keeps State.lev fun _ _ _ => rfl
    awn := keeps State.awn fun _ _ _ => rfl
    state := fun d => (congrArg ChanRec.state (same d)).trans (rows.state d)
    op := fun d => (congrArg ChanRec.op (same d)).trans (rows.op d)
    operand := fun d => (congrArg ChanRec.operand (same d)).trans (rows.operand d)
    owner := fun d => (congrArg ChanRec.owner (same d)).trans (rows.owner d)
    holder := keeps (fun x => x.man.pump) fun _ _ _ => rfl
    mon := keeps State.mon fun _ _ _ => rfl }

/-! ### The admission of an entry (R11) -/

theorem requestMarkerClear_marker (s : State) : (requestMarkerClear s).store.markerClean = false := by
  unfold requestMarkerClear
  split
  · rfl
  next h => simpa using h

theorem handOver_keeps {β : Type} (p : State → β) (c : Ch) (o : Op) (s : State)
    (hp : ∀ (x : State) a b m n l q, p { x with chans := a, sup := b, man := m, mon := n, link := l, store := q } = p x) :
    p (handOver c o s) = p s := by
  have clear : ∀ u : State, p (requestMarkerClear u) = p u := fun u =>
    (congrArg p (requestMarkerClear_frame u)).trans (hp u u.chans u.sup u.man u.mon u.link _)
  unfold handOver
  extract_lets s1 s2 s3
  have entry : p s3 = p s := by
    simp only [s3]
    split
    · exact hp s _ _ _ _ _ _
    · exact hp s _ _ _ _ _ _
  clear_value s3
  generalize hu : requestMarkerClear s3 = u
  have e : p u = p s3 := by rw [← hu, clear]
  rw [signal_frame]
  exact (hp u _ u.sup u.man u.mon _ u.store).trans (e.trans entry)

theorem handOver_marker (c : Ch) (o : Op) (s : State) : (handOver c o s).store.markerClean = false := by
  unfold handOver
  extract_lets s1 s2 s3
  rw [signal_frame]
  exact requestMarkerClear_marker s3

/-- The rows after the entry of an admission are those of the state with the channel RUNNING. -/
theorem sameRows_handOver (c : Ch) (o : Op) (s : State) (waits : (chanOf s c).state = .pending) :
    SameRows (modChan c (fun q => { q with state := .running }) s) (handOver c o s) := by
  have each : ∀ {β : Type} (p : ChanRec → β),
      p (runningRec s (chanOf s c)) = p { chanOf s c with state := .running } →
      ∀ d, p (chanOf (handOver c o s) d) = p (chanOf (modChan c (fun q => { q with state := .running }) s) d) :=
    fun p hp d => by
      by_cases e : d = c
      · subst e
        rw [chanOf_handOver_self, chanOf_modChan_self, hp]
      · rw [chanOf_handOver_ne _ _ _ _ e, chanOf_modChan_ne _ _ _ _ e]
  exact {
    kept := (steady_handOver c o s waits).kept
    rooms := handOver_keeps State.rooms c o s fun _ _ _ _ _ _ _ => rfl
    lev := handOver_keeps State.lev c o s fun _ _ _ _ _ _ _ => rfl
    awn := handOver_keeps State.awn c o s fun _ _ _ _ _ _ _ => rfl
    state := each ChanRec.state rfl
    op := each ChanRec.op rfl
    operand := each ChanRec.operand rfl
    owner := each ChanRec.owner rfl }

section
variable {c : Ch} {o : Op} {s : State}

/-- What the job block ends, after the evaluation of the entry. -/
theorem ends_admitted (op : (chanOf s c).op = some o) :
    Ends (jobEnds (sweep (handOver c o s)) c) (sweep (handOver c o s)) (admitChan c s) := by
  rw [admitChan_eq c o s op]
  split
  · exact ends_jobBegin c o _ _
  · exact .refl _

/-- An admission after its own writes ends motions only: those of broken rows, its own, and LEVEL's (R28). -/
theorem ends_admit (op : (chanOf s c).op = some o) :
    Ends (fun d x => sweepEnds (handOver c o s) d x ∨ jobEnds (handOver c o s) c d x) (handOver c o s) (admitChan c s) := by
  have swept := ends_sweep (handOver c o s)
  refine (swept.mono fun _ _ => .inl).trans ((ends_admitted op).mono fun d x h => .inr ?_)
  exact h.imp_right fun k => ⟨k.1, swept.roomsInLostEnds k.2⟩

/-- The record of a channel whose row the entry breaks: the job block finds it at rest. -/
theorem chanOf_admit_broken (op : (chanOf s c).op = some o) {d : Ch} {i : Item} (h : chanUnsat (handOver c o s) d = some i)
    (active : (chanOf (handOver c o s) d).state = .pending ∨ (chanOf (handOver c o s) d).state = .running) :
    chanOf (admitChan c s) d = chanOf (sweep (handOver c o s)) d :=
  have rest := atRest_sweep h active
  (ends_admitted op).resting d rest.1 rest.2

/-- The admitted channel's record: that of the entry, or STOPPING where its job ended at once. -/
theorem chanOf_admit_self (op : (chanOf s c).op = some o) :
    chanOf (admitChan c s) c = runningRec s (chanOf s c) ∨
      ∃ w, chanOf (admitChan c s) c = stoppedRec (handOver c o s) c w (runningRec s (chanOf s c)) := by
  obtain e | ⟨x, -, st, e⟩ := (ends_admit op).each c
  · exact .inl (e.trans (chanOf_handOver_self c o s))
  · rw [chanOf_handOver_self] at st e
    cases x with
    | cancelled d => cases st
    | term w => exact .inr ⟨w, e⟩

end

/-- The record of a stop is that of any state with the same clock and configuration. -/
theorem stoppedRec_of_kept {s t : State} (h : kept t = kept s) (c : Ch) (w : Term) : stoppedRec t c w = stoppedRec s c w := by
  have now : t.now = s.now := of_kept State.now (fun _ => rfl) h
  have interval : stopInterval t c = stopInterval s c := of_kept (fun x => stopInterval x c) (fun _ => rfl) h
  funext q
  simp only [stoppedRec, now, interval]

section
variable {c d : Ch} {o : Op} {s : State} (waits : (chanOf s c).state = .pending) (op : (chanOf s c).op = some o) (n : d ≠ c)
include waits op n

/-- A channel whose row the entry into RUNNING breaks. -/
theorem admit_broken {i : Item} (h : chanUnsat (modChan c (fun q => { q with state := .running }) s) d = some i) :
    ((chanOf s d).state = .pending → s.Cancelled (admitChan c s) d .interlock) ∧
      ((chanOf s d).state = .running → s.Stopped (admitChan c s) d (.aborted (.item i))) := by
  have unsat : chanUnsat (handOver c o s) d = some i := ((sameRows_handOver c o s waits).chanUnsat d).trans h
  have before : chanOf (handOver c o s) d = chanOf s d := chanOf_handOver_ne c d o s n
  obtain ⟨ofPending, ofRunning⟩ := chanOf_sweep unsat
  rw [before] at ofPending ofRunning
  have record : (chanOf s d).state = .pending ∨ (chanOf s d).state = .running →
      chanOf (admitChan c s) d = chanOf (sweep (handOver c o s)) d := fun active =>
    chanOf_admit_broken op unsat (by rwa [before])
  refine ⟨fun p => ?_, fun r => ?_⟩
  · have cancelled := (ends_admit op).cancelled (c := d) (d := .interlock) (by rw [before]; exact p)
      (by rw [record (.inl p), ofPending p, before])
    rw [State.Cancelled, before] at cancelled
    exact cancelled
  · rw [State.Stopped, record (.inr r), ofRunning r, stoppedRec_of_kept (steady_handOver c o s waits).kept]
    exact ⟨rfl, rfl, rfl, rfl⟩

/-- A channel whose row the entry leaves satisfied: only LEVEL can end, by a room's job that loses ALL_ROOMS_IN (R28). -/
theorem admit_unbroken (h : chanUnsat (modChan c (fun q => { q with state := .running }) s) d = none ∨
      ((chanOf s d).state ≠ .pending ∧ (chanOf s d).state ≠ .running)) :
    chanOf (admitChan c s) d = chanOf s d ∨
      d = .level ∧ (∃ r, c = .room r) ∧ chanMotion s d = some .jackRetract ∧
        (s.Cancelled (admitChan c s) d .interlock ∨ s.Stopped (admitChan c s) d (.aborted (.item .allRoomsIn))) := by
  have before : chanOf (handOver c o s) d = chanOf s d := chanOf_handOver_ne c d o s n
  have unsat := (sameRows_handOver c o s waits).chanUnsat d
  have k := (ends_admit op).each d
  have cancels := fun w => (ends_admit op).cancelled (c := d) (d := w)
  simp only [State.Cancelled, before] at k cancels
  obtain e | ⟨x, hx, st, e⟩ := k
  · exact .inl e
  · rcases hx with ⟨i, hi, -⟩ | rfl | ⟨room, rfl, motion, ends⟩
    · rcases h with h | ⟨p, r⟩
      · rw [unsat, h] at hi
        cases hi
      · cases x with
        | cancelled w => exact absurd st p
        | term w => exact absurd st r
    · exact absurd rfl n
    · refine .inr ⟨rfl, room, ?_, ends.imp ?_ ?_⟩
      · rwa [chanMotion_level_congr before] at motion
      · rintro rfl
        exact cancels .interlock st e
      · rintro rfl
        rw [State.Stopped, e, Ending.record, stoppedRec_of_kept (steady_handOver c o s waits).kept]
        exact ⟨rfl, rfl, rfl, rfl⟩

end

/-- The admitted channel, and what the admission writes besides. -/
theorem admit_self {c : Ch} {o : Op} {s : State} (op : (chanOf s c).op = some o) (here : s.present c = true) :
    let u := admitChan c s
    ((chanOf u c).state = .running ∨ (chanOf u c).state = .stopping) ∧ (chanOf u c).waiting = none ∧
      (chanOf u c).admitted = s.now ∧ (chanOf u c).op = some o ∧ (chanOf u c).owner = (chanOf s c).owner ∧
      (chanOf u c).hold = (chanOf s c).hold ∧ (chanOf u c).deadline = (chanOf s c).deadline ∧
      u.mon.resv = s.mon.resv.set c (some ⟨demandOf s c, automaticRetract s c⟩) ∧
      (needsPump s c = true → u.man.pump.holder = some c ∧ u.man.pump.dir = some (opDir o (chanOf s c).operand)) ∧
      (needsPump s c = false → u.man.pump.holder = s.man.pump.holder) ∧ u.store.markerClean = false := by
  intro u
  have ends := ends_admit op
  have out := outside_handOver c o s
  have record : let q := chanOf u c
      (q.state = .running ∨ q.state = .stopping) ∧ q.waiting = none ∧ q.admitted = s.now ∧ q.op = some o ∧
        q.owner = (chanOf s c).owner ∧ q.hold = (chanOf s c).hold ∧ q.deadline = (chanOf s c).deadline := by
    obtain e | ⟨w, e⟩ := chanOf_admit_self op
    · rw [show chanOf u c = _ from e]
      exact ⟨.inl rfl, rfl, rfl, op, rfl, rfl, rfl⟩
    · rw [show chanOf u c = _ from e]
      exact ⟨.inr rfl, rfl, rfl, op, rfl, rfl, rfl⟩
  obtain ⟨state, waiting, admitted, op', owner, hold, deadline⟩ := record
  have present : (handOver c o s).present c = true := by rw [present_of_outside out]; exact here
  have marker : u.store.markerClean = false :=
    (ends.clean c present (by simp [runningOrStopping, chanOf_handOver_self, runningRec])).trans (handOver_marker c o s)
  refine ⟨state, waiting, admitted, op', owner, hold, deadline, ends.resv.trans (resv_of_outside out), fun pump => ?_,
    fun dry => ?_, marker⟩
  · have holder := ends.holder.trans (holder_of_outside out)
    have dir := ends.dir.trans (dir_of_outside out)
    simp only [modMan, pump] at holder dir
    exact ⟨holder, dir⟩
  · have holder := ends.holder.trans (holder_of_outside out)
    simp only [modMan, dry] at holder
    exact holder

/-- The queue after an admission: without its entry, and without the entries whose motions end. -/
theorem queue_admit {c : Ch} {o : Op} {s : State} (op : (chanOf s c).op = some o) :
    (admitChan c s).sup.queue = (s.sup.queue.filter (fun e => e.ch != c)).filter
      (fun e => waitsOn (handOver c o s) (admitChan c s) e.ch) := by
  have before : (handOver c o s).sup.queue = s.sup.queue.filter (fun e => e.ch != c) :=
    queue_of_outside (outside_handOver c o s)
  rw [(ends_admit op).queue, before]

/-! ### The scan of a queue of one -/

/-- A scan's first write: none is due any more. -/
def scanTaken (s : State) : State := modSup (fun u => { u with scanDue := false }) s

theorem scan_eq (s : State) : scan s = (s.sup.queue.foldl walkEntry ⟨scanTaken s, false, false⟩).st := rfl

theorem sameAnswers_scanTaken (s : State) : SameAnswers s (scanTaken s) := ⟨⟨rfl, rfl, rfl, rfl, fun _ => rfl, fun _ => rfl,
  fun _ => rfl, fun _ => rfl⟩, rfl, rfl⟩

theorem sameRows_modChan_scanTaken (c : Ch) (f : ChanRec → ChanRec) (s : State) :
    SameRows (modChan c f s) (modChan c f (scanTaken s)) :=
  ⟨rfl, rfl, rfl, rfl, fun _ => rfl, fun _ => rfl, fun _ => rfl, fun _ => rfl⟩

section
variable {w : Walk} {e : QEntry} (waits : (chanOf w.st e.ch).state = .pending)
include waits

theorem walkEntry_stopped (h : w.stopped = true) : walkEntry w e = { w with st := setWaiting e.ch .current w.st } := by
  simp [walkEntry, waits, h]

theorem walkEntry_conflict (h : w.stopped = false) (k : conflicts w.st e.ch = true) :
    walkEntry w e = { w with st := setWaiting e.ch .conflict w.st, older := w.older || needsPump w.st e.ch } := by
  simp [walkEntry, waits, h, k]

theorem walkEntry_pump (h : w.stopped = false) (k : conflicts w.st e.ch = false) (needs : needsPump w.st e.ch = true)
    (taken : w.older = true ∨ pumpFree w.st = false) :
    walkEntry w e = { w with st := setWaiting e.ch .pump w.st, older := true } := by
  simp [walkEntry, waits, h, k, needs, taken]

theorem walkEntry_current (h : w.stopped = false) (k : conflicts w.st e.ch = false)
    (free : needsPump w.st e.ch = true → w.older = false ∧ pumpFree w.st = true) (short : currentOk w.st e.ch = false) :
    walkEntry w e = ⟨setWaiting e.ch .current w.st, w.older || needsPump w.st e.ch, e.since + Config.agingMs ≤ w.st.now⟩ := by
  have pump : (needsPump w.st e.ch && (w.older || !pumpFree w.st)) = false := by
    cases p : needsPump w.st e.ch
    · rfl
    · simp [free p]
  simp [walkEntry, waits, h, k, pump, short]

theorem walkEntry_admit (h : w.stopped = false) (k : conflicts w.st e.ch = false)
    (free : needsPump w.st e.ch = true → w.older = false ∧ pumpFree w.st = true) (fits : currentOk w.st e.ch = true) :
    walkEntry w e = { w with st := admitChan e.ch w.st } := by
  have pump : (needsPump w.st e.ch && (w.older || !pumpFree w.st)) = false := by
    cases p : needsPump w.st e.ch
    · rfl
    · simp [free p]
  simp [walkEntry, waits, h, k, pump, fits]

end

theorem exec_admissionScan {s : State} (live : s.power.startingUp = false) : exec .admissionScan s = .next (finish (scan s)) := by
  show Host.Outcome.next (whenLive (fun t => finish (scan t)) s) = _
  simp [whenLive, live]

/-- One entry that waits: what its waiting-for value leaves. -/
theorem scan_waits (c : Ch) (w : Waiting) (s : State) :
    let u := setWaiting c w (scanTaken s)
    chanOf u c = { chanOf s c with waiting := some w } ∧ (∀ d, d ≠ c → chanOf u d = chanOf s d) ∧
      u = { s with chans := u.chans, sup := { s.sup with scanDue := false }, link := u.link } := by
  refine ⟨chanOf_setWaiting_self c w _, fun d n => chanOf_setWaiting_ne c d w _ n, ?_⟩
  have frame := setWaiting_frame c w (scanTaken s)
  exact frame

/-! ### A room's job with the in-switch inactive ends no other channel's motion -/

theorem inSwitch_cancel (c : Ch) (d : CancelDetail) (s : State) (r : Room) :
    (roomOf (cancel c d s) r).inSwitch = (roomOf s r).inSwitch := by
  rw [cancel_frame]
  rfl

theorem inSwitch_lateSwitch {t : Term} (n : t ≠ .normal) (c : Ch) (s : State) (r : Room) :
    (roomOf (lateSwitch c t s) r).inSwitch = (roomOf s r).inSwitch := by
  cases c with
  | level => rfl
  | room q =>
    by_cases k : takesLate s q
    · rw [lateSwitch_room q t s k, if_neg n]
      exact (leg_of_gear (gear_roomHome q s) r).2
    · rw [lateSwitch_room_not q t s k]
  | awning =>
    simp only [lateSwitch]
    split
    · exact (leg_of_gear (gear_awnHome (modAwn (fun a => { a with switchLate := false }) s)) r).2
    · rfl

theorem inSwitch_terminate {t : Term} (n : t ≠ .normal) (c : Ch) (s : State) (r : Room) :
    (roomOf (terminate c t s) r).inSwitch = (roomOf s r).inSwitch := by
  by_cases h : isRunning s c = true
  · have off : (roomOf (jobOff c t (stop c t s)) r).inSwitch = (roomOf s r).inSwitch :=
      ((jobOff_gear c t (stop c t s)).2.2.2.2 r).1
    rw [terminate_of_running t h, (leg_of_gear (gear_pumpOffAndReport c _) r).2, inSwitch_lateSwitch n, written,
      (leg_of_gear (gear_endWrite c t _) r).2, off]
  · rw [terminate_of_not_running c t s (by simpa using h)]

theorem inSwitch_sweep (s : State) (r : Room) : (roomOf (sweep s) r).inSwitch = (roomOf s r).inSwitch :=
  foldl_keeps _ (fun t => (roomOf t r).inSwitch) _ (fun t a _ => by
    simp only [endMotion]
    rw [inSwitch_terminate (by simp), inSwitch_cancel]) s

/-- A termination of a room whose in-switch is inactive. -/
theorem ends_terminate_unswitched {r : Room} {s : State} (off : (roomOf s r).inSwitch = false) (t : Term) :
    Ends (onlyChan (.room r)) s (terminate (.room r) t s) := by
  by_cases h : isRunning s (.room r) = true
  · have plain : ¬ (t = .normal ∧ ∃ q, Ch.room r = .room q ∧ takesLate s q) := by
      rintro ⟨-, q, e, -, k, -⟩
      cases e
      rw [off] at k
      cases k
    exact (ends_stop _ t s h rfl).trans (.of_scope (scope_terminate_plain t h plain))
  · rw [terminate_of_not_running _ t s (by simpa using h)]
    exact .refl s

/-- A write in a room's end leaves its in-switch. -/
theorem inSwitch_modEnd (r : Room) (e : Side) (f : EndRec → EndRec) (s : State) :
    (roomOf (modEnd r e f s) r).inSwitch = (roomOf s r).inSwitch := by
  simp only [modEnd, roomOf_modRoom_self]

theorem ends_beginAutoExtend_unswitched {r : Room} {s : State} (off : (roomOf s r).inSwitch = false) (n : Int) :
    Ends (onlyChan (.room r)) s (beginAutoExtend r n s) := by
  unfold beginAutoExtend
  extract_lets s1
  have part : scope s1 = scope s := scope_foldl _ (fun _ _ => by rfl) _ s
  have off1 : (roomOf s1 r).inSwitch = false :=
    (foldl_keeps _ (fun t => (roomOf t r).inSwitch) _ (fun t e _ => inSwitch_modEnd r e _ t) s).trans off
  clear_value s1
  split
  · unfold arriveOnTarget
    have on : (roomOf (modRoom r (fun q => { q with onTarget := true }) s1) r).inSwitch = false := by
      rw [roomOf_modRoom_self]
      exact off1
    exact .after ((scope_modRoom r _ s1).trans part) (ends_terminate_unswitched on .normal)
  · exact .of_scope ((scope_driveEnds _ _ _ _).trans part)

theorem ends_roomBegin_unswitched {r : Room} {s : State} (off : (roomOf s r).inSwitch = false) (o : Op) :
    Ends (onlyChan (.room r)) s (roomBegin r o s) := by
  unfold roomBegin
  extract_lets z s1 w s2
  have part : scope s1 = scope s := by simp [s1]
  have off1 : (roomOf s1 r).inSwitch = false := by
    simp only [s1, roomOf_modRoom_self, inSwitch_modEnd, off]
  have search : scope s2 = scope s1 := by simp [s2, apply_ite scope]
  have fault : ∃ f, w = .abnormal f := ⟨_, rfl⟩
  clear_value s1 s2 w
  obtain ⟨f, rfl⟩ := fault
  split
  · split
    · exact .after part ((ends_terminateWith _ _ _ s1 (scope_setRoomStat r _ _)).mono fun _ _ h => by
        obtain ⟨e, -⟩ | ⟨k, -⟩ := h
        · exact e
        · cases k)
    · exact .after part (ends_terminate_unswitched off1 _)
  · split
    · split
      · exact .after part (ends_beginAutoExtend_unswitched off1 _)
      · exact .of_scope ((scope_driveEnds _ _ _ s1).trans part)
    · exact .of_scope ((scope_driveEnds _ _ _ s1).trans part)
    · rw [off1, if_neg nofun]
      exact .of_scope ((scope_driveEnds _ _ _ s2).trans (search.trans part))

/-- An older entry still waits after an admission that leaves its row satisfied, unless a room's NORMAL end takes a late
in-switch. -/
theorem admit_keeps {a b : Ch} {o : Op} {s : State} (waits : (chanOf s b).state = .pending) (op : (chanOf s b).op = some o)
    (n : a ≠ b) (dry : needsPump s b = false)
    (row : chanUnsat (modChan b (fun q => { q with state := .running }) s) a = none)
    (off : a = .level → ∀ r, b = .room r → (roomOf s r).inSwitch = false) :
    chanOf (admitChan b s) a = chanOf s a := by
  have entry : chanOf (sweep (handOver b o s)) a = chanOf s a :=
    (chanOf_sweep_of_sound (.inl (((sameRows_handOver b o s waits).chanUnsat a).trans row))).trans
      (chanOf_handOver_ne b a o s n)
  refine Eq.trans ?_ entry
  have job := ends_admitted op
  by_cases level : a = .level
  · subst level
    cases b with
    | level => exact absurd rfl n
    | awning => exact job.other .level fun x h => by simp [jobEnds] at h
    | room r =>
      have kind : ∀ u : State, u.store.cfg = s.store.cfg → kindOf u r ≠ .hydraulic := fun u e => by
        simpa [needsPump, kindOf, e] using dry
      have cfg := (ends_sweep (handOver (.room r) o s)).cfg.trans (cfg_of_outside (outside_handOver (.room r) o s))
      have rooms := handOver_keeps State.rooms (.room r) o s fun _ _ _ _ _ _ _ => rfl
      have switch : (roomOf (sweep (handOver (.room r) o s)) r).inSwitch = false := by
        rw [inSwitch_sweep, roomOf, rooms]
        exact off rfl r rfl
      rw [admitChan_eq _ o s op]
      split
      · rw [jobBegin, if_neg (kind _ cfg)]
        exact (ends_roomBegin_unswitched switch o).other .level fun x h => by cases h
      · rfl
  · refine job.other a fun x h => ?_
    obtain e | ⟨-, e, -⟩ := h
    · exact absurd e n
    · exact absurd e level

/-- The scan of a queue of two. -/
theorem scan_two {s : State} {a b : QEntry} (queue : s.sup.queue = [a, b]) :
    scan s = (walkEntry (walkEntry ⟨scanTaken s, false, false⟩ a) b).st := by
  rw [scan_eq, queue]
  rfl

section
variable {s : State} {a b : Ch} {m n : Nat} (queue : s.sup.queue = [⟨a, m⟩, ⟨b, n⟩]) (waitsA : (chanOf s a).state = .pending)
  (freeA : conflicts s a = false) (pumpA : needsPump s a = true → pumpFree s = true) (shortA : currentOk s a = false)
include queue waitsA freeA pumpA shortA

/-- An older entry that waits for current: what the walk goes on with (R10). -/
theorem walk_short : scan s = (walkEntry ⟨setWaiting a .current (scanTaken s), needsPump s a, m + 5000 ≤ s.now⟩ ⟨b, n⟩).st := by
  have same := sameAnswers_scanTaken s
  have free : needsPump (scanTaken s) a = true → false = false ∧ pumpFree (scanTaken s) = true := fun k => by
    rw [same.needsPump] at k
    exact ⟨rfl, same.pumpFree.trans (pumpA k)⟩
  rw [scan_two queue, walkEntry_current (w := ⟨scanTaken s, false, false⟩) (e := ⟨a, m⟩) waitsA rfl ((same.conflicts a).trans freeA) free
    ((same.currentOk a).trans shortA)]
  rw [show (false || needsPump (scanTaken s) a) = needsPump s a from (Bool.false_or _).trans (same.needsPump a)]
  rfl

end

section
variable {s : State} {a b : Ch} {m n : Nat} (other : a ≠ b) (queue : s.sup.queue = [⟨a, m⟩, ⟨b, n⟩])
  (waitsA : (chanOf s a).state = .pending) (waitsB : (chanOf s b).state = .pending)
include other

/-- Both entries wait: the queue is as it was, and each has its waiting-for value. -/
theorem both_wait (v w : Waiting) (s : State) :
    let u := setWaiting b w (setWaiting a v (scanTaken s))
    u.sup.queue = s.sup.queue ∧ chanOf u b = { chanOf s b with waiting := some w } ∧ (chanOf u a).waiting = some v := by
  intro u
  have queue : ∀ (c : Ch) (x : Waiting) (t : State), (setWaiting c x t).sup.queue = t.sup.queue := fun c x t =>
    (queue_of_outside (outside_setWaiting c x t)).trans rfl
  refine ⟨(queue b w _).trans (queue a v _), ?_, ?_⟩
  · rw [chanOf_setWaiting_self, chanOf_setWaiting_ne _ _ _ _ other.symm]
    rfl
  · rw [chanOf_setWaiting_ne _ _ _ _ other, chanOf_setWaiting_self]

include queue waitsA waitsB

/-- An older entry that needs the pump keeps a younger one from it (R9). -/
theorem scan_older (conflictA : conflicts s a = true) (pumpA : needsPump s a = true) (pumpB : needsPump s b = true)
    (freeB : conflicts s b = false) :
    (scan s).sup.queue = s.sup.queue ∧ chanOf (scan s) b = { chanOf s b with waiting := some .pump } := by
  have same := (sameAnswers_scanTaken s)
  have after := sameAnswers_setWaiting a .conflict (scanTaken s)
  have stays : (chanOf (setWaiting a .conflict (scanTaken s)) b).state = .pending := by
    rw [chanOf_setWaiting_ne _ _ _ _ other.symm]
    exact waitsB
  have walked := scan_two queue
  rw [walkEntry_conflict (w := ⟨scanTaken s, false, false⟩) (e := ⟨a, m⟩) waitsA rfl ((same.conflicts a).trans conflictA)] at walked
  rw [walkEntry_pump stays rfl (((after.conflicts b).trans (same.conflicts b)).trans freeB)
    (((after.needsPump b).trans (same.needsPump b)).trans pumpB)
    (.inl (((Bool.false_or _).trans (same.needsPump a)).trans pumpA))] at walked
  obtain ⟨rest, record, -⟩ := both_wait other .conflict .pump s
  rw [walked]
  exact ⟨rest, record⟩

variable (freeA : conflicts s a = false) (pumpA : needsPump s a = true → pumpFree s = true) (shortA : currentOk s a = false)
include freeA pumpA shortA

/-- An aged wait for current stops the walk. -/
theorem scan_aged (aged : m + 5000 ≤ s.now) :
    ((scan s).sup.queue = s.sup.queue ∧ chanOf (scan s) b = { chanOf s b with waiting := some .current }) ∧
      (chanOf (scan s) a).waiting = some .current := by
  have stays : (chanOf (setWaiting a .current (scanTaken s)) b).state = .pending := by
    rw [chanOf_setWaiting_ne _ _ _ _ other.symm]
    exact waitsB
  obtain ⟨rest, record, value⟩ := both_wait other .current .current s
  rw [walk_short queue waitsA freeA pumpA shortA, walkEntry_stopped stays (by simpa using aged)]
  exact ⟨⟨rest, record⟩, value⟩

/-- A younger wait for current lets the later entry past. -/
theorem scan_past (young : s.now < m + 5000) (op : (chanOf s b).op ≠ none) (dry : needsPump s b = false)
    (freeB : conflicts s b = false) (fits : currentOk s b = true)
    (row : chanUnsat (modChan b (fun q => { q with state := .running }) s) a = none)
    (off : a = .level → ∀ r, b = .room r → (roomOf s r).inSwitch = false) :
    (scan s).sup.queue = [⟨a, m⟩] ∧ ((chanOf (scan s) b).state = .running ∨ (chanOf (scan s) b).state = .stopping) := by
  have walked := walk_short queue waitsA freeA pumpA shortA
  have same := sameAnswers_scanTaken s
  have after := sameAnswers_setWaiting a .current (scanTaken s)
  have recordB : chanOf (setWaiting a .current (scanTaken s)) b = chanOf s b := chanOf_setWaiting_ne _ _ _ _ other.symm
  have recordA : (chanOf (setWaiting a .current (scanTaken s)) a).state = .pending := by
    rw [chanOf_setWaiting_self]
    exact waitsA
  have queue1 : (setWaiting a .current (scanTaken s)).sup.queue = [⟨a, m⟩, ⟨b, n⟩] :=
    (queue_of_outside (outside_setWaiting a .current (scanTaken s))).trans queue
  have switch : a = .level → ∀ r, b = .room r → (roomOf (setWaiting a .current (scanTaken s)) r).inSwitch = false :=
    fun e r k => by
      rw [roomOf, after.rooms]
      exact off e r k
  have rows : SameRows (modChan b (fun q => { q with state := .running }) s)
      (modChan b (fun q => { q with state := .running }) (setWaiting a .current (scanTaken s))) :=
    (sameRows_modChan_scanTaken b _ s).trans (after.toSameRows.enters b)
  have dry1 := ((after.needsPump b).trans (same.needsPump b)).trans dry
  have quiet1 := ((after.conflicts b).trans (same.conflicts b)).trans freeB
  have fits1 := ((after.currentOk b).trans (same.currentOk b)).trans fits
  generalize setWaiting a .current (scanTaken s) = u at *
  obtain ⟨o, op⟩ := Option.ne_none_iff_exists'.1 op
  rw [← recordB] at op
  have waits1 : (chanOf u b).state = .pending := by rw [recordB]; exact waitsB
  have admitted : scan s = admitChan b u := by
    rw [walked, walkEntry_admit waits1 (by simpa using young) quiet1 (fun k => by rw [dry1] at k; cases k) fits1]
  have kept := admit_keeps waits1 op other dry1 ((rows.chanUnsat a).trans row) switch
  rw [admitted]
  refine ⟨?_, ?_⟩
  · have stays : waitsOn (handOver b o u) (admitChan b u) a = true := (waitsOn_iff _ _ _).2 fun _ => by rw [kept, recordA]
    rw [queue_admit op, queue1]
    simp [other, stays]
  · obtain e | ⟨w, e⟩ := chanOf_admit_self op
    · exact .inl (congrArg ChanRec.state e)
    · exact .inr (congrArg ChanRec.state e)

end

/-- Settles O33: the answers, the scan of one entry by its first unfavourable answer, and the walk over two. -/
theorem admissionScans : Obligations.AdmissionScans := by
  refine ⟨scanAnswers, fun s c o since live queue here waits op => ?_, fun s a b m n other queue waitsA waitsB => ?_⟩
  · have same := sameAnswers_scanTaken s
    have taken : (chanOf (scanTaken s) c).state = .pending := waits
    have walked : scan s = (walkEntry ⟨scanTaken s, false, false⟩ ⟨c, since⟩).st := by
      rw [scan_eq, queue]
      rfl
    refine ⟨scan s, exec_admissionScan live, ?_⟩
    intro staying
    split_ifs with conflict pump short
    · rw [walkEntry_conflict taken rfl ((same.conflicts c).trans conflict)] at walked
      simp only [staying, walked]
      exact scan_waits c .conflict s
    · have quiet : conflicts (scanTaken s) c = false := (same.conflicts c).trans (by simpa using conflict)
      rw [walkEntry_pump taken rfl quiet ((same.needsPump c).trans pump.1) (.inr (same.pumpFree.trans pump.2))] at walked
      simp only [staying, walked]
      exact scan_waits c .pump s
    all_goals
      have quiet : conflicts (scanTaken s) c = false := (same.conflicts c).trans (by simpa using conflict)
      have free : needsPump (scanTaken s) c = true → false = false ∧ pumpFree (scanTaken s) = true := fun k => by
        rw [same.needsPump] at k
        rw [same.pumpFree]
        simpa [k] using pump
    · rw [walkEntry_current taken rfl quiet free ((same.currentOk c).trans short)] at walked
      simp only [staying, walked]
      exact scan_waits c .current s
    · rw [walkEntry_admit taken rfl quiet free ((same.currentOk c).trans (by simpa using short))] at walked
      have admitted : scan s = admitChan c (scanTaken s) := walked
      have op' : (chanOf (scanTaken s) c).op = some o := op
      rw [admitted]
      have self := admit_self op' here
      have left := queue_admit op'
      have emptied : (scanTaken s).sup.queue.filter (fun e => e.ch != c) = [] := by
        have q : (scanTaken s).sup.queue = [⟨c, since⟩] := queue
        rw [q]
        simp
      rw [emptied] at left
      refine ⟨fun d n => ⟨fun i h => ?_, fun h => ?_⟩, left, self⟩
      · have rows := (sameRows_modChan_scanTaken c (fun q => { q with state := .running }) s).chanUnsat d
        exact admit_broken taken op' n (rows.trans h)
      · have rows := (sameRows_modChan_scanTaken c (fun q => { q with state := .running }) s).chanUnsat d
        exact admit_unbroken taken op' n (h.imp_left rows.trans)
  · exact ⟨scan_older other queue waitsA waitsB, fun freeA pumpA shortA =>
      ⟨scan_aged other queue waitsA waitsB freeA pumpA shortA, scan_past other queue waitsA waitsB freeA pumpA shortA⟩⟩

end Sys2Proof.Machine
end

section
/-! PROOF. What the work on one channel leaves of another: its record, its valves, its room or its awning, and what is owed.
The relation holds along every operation of a step's settling, whatever the other channels do. -/

namespace Sys2Proof.Machine

/-! ### The relation -/

/-- From `s` to `t` nothing of channel `c` has changed but that LEVEL's valves may have closed: its record, its room with its
valve, or the awning with what is owed to it. -/
structure Leaves (c : Ch) (s t : State) : Prop where
  chan : chanOf t c = chanOf s c
  jacks : c = .level → s.man.jackValves = PerJack.all false → t.man.jackValves = PerJack.all false
  room : ∀ r, c = .room r → roomOf t r = roomOf s r ∧ t.man.roomValves.get r = s.man.roomValves.get r
  awn : c = .awning → t.awn = s.awn ∧ t.sup.owed = s.sup.owed
  due : c = .awning → s.sup.owed ≠ none → (chanOf s c).state ≠ .faulted → s.sup.owedDue = true → t.sup.owedDue = true

theorem Leaves.refl (c : Ch) (s : State) : Leaves c s s :=
  ⟨rfl, fun _ => id, fun _ _ => ⟨rfl, rfl⟩, fun _ => ⟨rfl, rfl⟩, fun _ _ _ => id⟩

theorem Leaves.trans {c : Ch} {s t u : State} (h : Leaves c s t) (k : Leaves c t u) : Leaves c s u where
  chan := k.chan.trans h.chan
  jacks l x := k.jacks l (h.jacks l x)
  room r e := ⟨(k.room r e).1.trans (h.room r e).1, (k.room r e).2.trans (h.room r e).2⟩
  awn e := ⟨(k.awn e).1.trans (h.awn e).1, (k.awn e).2.trans (h.awn e).2⟩
  due e o f d := k.due e (by rw [(h.awn e).2]; exact o) (by rw [h.chan]; exact f) (h.due e o f d)

theorem Leaves.atRest {c : Ch} {s t : State} (h : Leaves c s t) (k : AtRest s c) : AtRest t c := by
  rw [AtRest, h.chan]
  exact k

theorem Leaves.foldl {α : Type} {c : Ch} (f : State → α → State) (l : List α) (h : ∀ t, ∀ a ∈ l, Leaves c t (f t a)) (s : State) :
    Leaves c s (l.foldl f s) := by
  induction l generalizing s with
  | nil => exact .refl c s
  | cons a l ih =>
    exact (h s a List.mem_cons_self).trans (ih (fun t b hb => h t b (List.mem_cons_of_mem a hb)) (f s a))

/-- What some channel owns, over all channels. -/
structure Owned where
  chans : PerCh ChanRec
  jackValves : PerJack Bool
  roomValves : PerRoom Bool
  rooms : PerRoom RoomRec
  awn : AwnRec
  owed : Option AutoCause
  owedDue : Bool

/-- What the channels own in a state. -/
def owned (s : State) : Owned :=
  ⟨s.chans, s.man.jackValves, s.man.roomValves, s.rooms, s.awn, s.sup.owed, s.sup.owedDue⟩

theorem Leaves.of_chan {c : Ch} {s t : State} (chan : chanOf t c = chanOf s c)
    (h : { owned t with chans := s.chans } = owned s) : Leaves c s t := by
  have jacks : t.man.jackValves = s.man.jackValves := congrArg Owned.jackValves h
  have valves : t.man.roomValves = s.man.roomValves := congrArg Owned.roomValves h
  have rooms : t.rooms = s.rooms := congrArg Owned.rooms h
  have awn : t.awn = s.awn := congrArg Owned.awn h
  have owed : t.sup.owed = s.sup.owed := congrArg Owned.owed h
  have due : t.sup.owedDue = s.sup.owedDue := congrArg Owned.owedDue h
  exact ⟨chan, fun _ x => jacks.trans x, fun r _ => ⟨by simp only [roomOf, rooms], by rw [valves]⟩, fun _ => ⟨awn, owed⟩,
    fun _ _ _ x => due.trans x⟩

/-- Work that no channel owns. -/
theorem Leaves.of_owned {c : Ch} {s t : State} (h : owned t = owned s) : Leaves c s t := by
  have chans : t.chans = s.chans := congrArg Owned.chans h
  refine .of_chan (by simp only [chanOf, chans]) ?_
  rw [h]
  rfl

/-- Work of LEVEL: on valves of the jacks, besides what no channel owns. -/
theorem Leaves.of_level {c : Ch} {s t : State} (n : c ≠ .level) (chan : chanOf t c = chanOf s c)
    (h : { owned t with chans := s.chans, jackValves := s.man.jackValves } = owned s) : Leaves c s t := by
  have valves : t.man.roomValves = s.man.roomValves := congrArg Owned.roomValves h
  have rooms : t.rooms = s.rooms := congrArg Owned.rooms h
  have awn : t.awn = s.awn := congrArg Owned.awn h
  have owed : t.sup.owed = s.sup.owed := congrArg Owned.owed h
  have due : t.sup.owedDue = s.sup.owedDue := congrArg Owned.owedDue h
  exact ⟨chan, fun e => absurd e n, fun r _ => ⟨by simp only [roomOf, rooms], by rw [valves]⟩, fun _ => ⟨awn, owed⟩,
    fun _ _ _ x => due.trans x⟩

/-- Work of the awning: on its record and what is owed to it, besides what no channel owns. -/
theorem Leaves.of_awning {c : Ch} {s t : State} (n : c ≠ .awning) (chan : chanOf t c = chanOf s c)
    (h : { owned t with chans := s.chans, awn := s.awn, owed := s.sup.owed, owedDue := s.sup.owedDue } = owned s) :
    Leaves c s t := by
  have jacks : t.man.jackValves = s.man.jackValves := congrArg Owned.jackValves h
  have valves : t.man.roomValves = s.man.roomValves := congrArg Owned.roomValves h
  have rooms : t.rooms = s.rooms := congrArg Owned.rooms h
  exact ⟨chan, fun _ x => jacks.trans x, fun r _ => ⟨by simp only [roomOf, rooms], by rw [valves]⟩, fun e => absurd e n,
    fun e => absurd e n⟩

/-! ### Work that no channel owns -/

theorem owned_signal (x : Source) (s : State) : owned (signal x s) = owned s := by
  rw [signal_frame]
  rfl

theorem owned_snapshotOnRest (s : State) : owned (snapshotOnRest s) = owned s := by
  rw [snapshotOnRest_frame]
  rfl

theorem owned_requestMarkerClear (s : State) : owned (requestMarkerClear s) = owned s := by
  rw [requestMarkerClear_frame]
  rfl

theorem owned_pumpStop (v : Bool) (s : State) : owned (pumpStop v s) = owned s := by
  rw [pumpStop_frame]
  rfl

theorem owned_pumpOnCmd (c : Ch) (s : State) : owned (pumpOnCmd c s) = owned s := by
  rw [pumpOnCmd_frame]
  rfl

theorem owned_pumpOffAndReport (c : Ch) (s : State) : owned (pumpOffAndReport c s) = owned s := by
  simp only [pumpOffAndReport, owned_signal, apply_ite owned, owned_pumpStop, ite_self]

theorem owned_setLevelStatus (v : LevelStatus) (s : State) : owned (setLevelStatus v s) = owned s := by
  unfold setLevelStatus
  split
  · rfl
  · rw [owned_snapshotOnRest, owned_signal]
    rfl

theorem owned_examineLatchesOf (c : Ch) (s : State) : owned (examineLatchesOf c s) = owned s :=
  foldl_keeps _ owned _ (fun t d _ => by
    unfold examineLatch
    split <;> rfl) s

theorem leaves_modChan {c d : Ch} (n : c ≠ d) (f : ChanRec → ChanRec) (s : State) : Leaves c s (modChan d f s) :=
  .of_chan (chanOf_modChan_ne _ _ _ _ n) rfl

/-! ### A cancellation -/

theorem leaves_cancel {c d : Ch} (n : c ≠ d) (w : CancelDetail) (s : State) : Leaves c s (cancel d w s) := by
  by_cases h : (chanOf s d).state = .pending
  · have out : Leaves c s (signal (.chan d) (modChan d (cancelledRec w) (leaveQueue d s))) :=
      ((Leaves.of_owned (s := s) (t := leaveQueue d s) rfl).trans (leaves_modChan n _ _)).trans (.of_owned (owned_signal _ _))
    rw [cancel_of_pending w h]
    generalize signal (.chan d) (modChan d (cancelledRec w) (leaveQueue d s)) = u at out ⊢
    have examined : Leaves c u (examineLatchesOf d u) := .of_owned (owned_examineLatchesOf d u)
    refine out.trans ?_
    unfold entersIdle
    extract_lets s1
    split
    next k => exact examined.trans (.of_awning (fun e => n (e.trans k.1.symm)) rfl rfl)
    next => exact examined
  · rw [cancel_of_not_pending d w s h]
    exact .refl c s

/-! ### Levels of rooms and awning -/

theorem leaves_modRoom {c : Ch} {r : Room} (n : c ≠ .room r) (f : RoomRec → RoomRec) (s : State) : Leaves c s (modRoom r f s) where
  chan := rfl
  jacks _ x := x
  room q e := ⟨roomOf_modRoom_ne _ _ _ _ fun k => n (by rw [e, k]), rfl⟩
  awn _ := ⟨rfl, rfl⟩
  due _ _ _ x := x

theorem leaves_modEnd {c : Ch} {r : Room} (n : c ≠ .room r) (e : Side) (f : EndRec → EndRec) (s : State) :
    Leaves c s (modEnd r e f s) := leaves_modRoom n _ s

theorem leaves_closeOnRetract (c : Ch) (s : State) : Leaves c s (closeOnRetract s) := by
  unfold closeOnRetract
  split
  · exact ⟨rfl, fun _ _ => rfl, fun _ _ => ⟨rfl, rfl⟩, fun _ => ⟨rfl, rfl⟩, fun _ _ _ x => x⟩
  · exact .refl c s

theorem leaves_setRoomStat {c : Ch} {r : Room} (n : c ≠ .room r) (v : Pos) (k : Conf) (s : State) :
    Leaves c s (setRoomStat r v k s) := by
  have written : Leaves c s (snapshotOnRest (signal .posture (modRoom r (fun q => { q with status := v, conf := k }) s))) :=
    (leaves_modRoom n _ s).trans (.of_owned (by rw [owned_snapshotOnRest, owned_signal]))
  unfold setRoomStat
  extract_lets q s1
  split
  · exact .refl c s
  · split
    · exact written.trans (leaves_closeOnRetract c s1)
    · exact written

theorem leaves_roomHome {c : Ch} {r : Room} (n : c ≠ .room r) (s : State) : Leaves c s (roomHome r s) :=
  ((leaves_modEnd n .endA _ s).trans (leaves_modEnd n .endB _ _)).trans (leaves_setRoomStat n .pin .known _)

theorem leaves_setAwnStat {c : Ch} (n : c ≠ .awning) (v : Pos) (k : Conf) (s : State) : Leaves c s (setAwnStat v k s) := by
  rw [setAwnStat_frame]
  exact .of_awning n rfl rfl

theorem leaves_awnHome {c : Ch} (n : c ≠ .awning) (s : State) : Leaves c s (awnHome s) := by
  rw [awnHome_frame]
  exact .of_awning n rfl rfl

/-! ### A termination -/

theorem leaves_jobOff {c d : Ch} (n : c ≠ d) (t : Term) (s : State) : Leaves c s (jobOff d t s) := by
  cases d with
  | level =>
    simp only [jobOff]
    split <;> exact .of_level n rfl rfl
  | room r =>
    have brake : ∀ (e : Side) (u : State), Leaves c u (brakeEnd r e u) := fun e u => leaves_modEnd n e _ u
    exact (brake .endA s).trans (brake .endB _)
  | awning => exact .of_awning n rfl rfl

theorem leaves_endWrite {c d : Ch} (n : c ≠ d) (t : Term) (s : State) : Leaves c s (endWrite d t s) := by
  cases d with
  | level => exact .of_owned (owned_setLevelStatus _ s)
  | room r =>
    simp only [endWrite, electricEnd]
    split
    · exact leaves_setRoomStat n _ _ s
    · split
      · split
        · exact leaves_setRoomStat n _ _ s
        · exact leaves_roomHome n s
      · split <;> exact leaves_setRoomStat n _ _ s
  | awning =>
    simp only [endWrite, awningEnd]
    split
    · exact leaves_awnHome n s
    · split <;> exact leaves_setAwnStat n _ _ s

theorem leaves_endRunning_level {c : Ch} (n : c ≠ .level) (t : Term) (s : State) :
    Leaves c s (endRunning .level t (endWrite .level t) s) := by
  have off : Leaves c s (endWrite .level t (jobOff .level t (stop .level t s))) :=
    ((leaves_modChan n _ s).trans (leaves_jobOff n t _)).trans (leaves_endWrite n t _)
  exact off.trans (.of_owned (owned_pumpOffAndReport .level _))

/-- The loss of ALL_ROOMS_IN ends LEVEL's motion alone, and none where LEVEL is at rest. -/
theorem leaves_roomsInLost {c : Ch} {s : State} (rest : c = .level → AtRest s .level) : Leaves c s (roomsInLost s) := by
  unfold roomsInLost
  split
  · extract_lets s1
    by_cases l : c = .level
    · have same : s1 = s := cancel_of_not_pending .level .interlock s (rest l).1
      rw [same, if_neg (by simpa [isRunning] using (rest l).2)]
      exact .refl c s
    · have lost : Leaves c s s1 := leaves_cancel l .interlock s
      split
      · exact lost.trans (leaves_endRunning_level l _ s1)
      · exact lost
  · exact .refl c s

theorem leaves_lateSwitch {c d : Ch} (n : c ≠ d) {s : State} (rest : c = .level → AtRest s .level) (t : Term) :
    Leaves c s (lateSwitch d t s) := by
  cases d with
  | level => exact .refl c s
  | room r =>
    simp only [lateSwitch]
    split
    · refine Leaves.trans ?_ (leaves_roomHome n _)
      split
      · exact leaves_roomsInLost rest
      · exact .refl c s
    · exact .refl c s
  | awning =>
    simp only [lateSwitch]
    split
    · exact (Leaves.of_awning (s := s) (t := modAwn (fun a => { a with switchLate := false }) s) n rfl rfl).trans (leaves_awnHome n _)
    · exact .refl c s

theorem leaves_terminateWith {c d : Ch} (n : c ≠ d) {s : State} (rest : c = .level → AtRest s .level) (t : Term)
    (w : State → State) (hw : ∀ u, Leaves c u (w u)) : Leaves c s (terminateWith d t w s) := by
  unfold terminateWith
  split
  · have off : Leaves c s (w (jobOff d t (stop d t s))) := ((leaves_modChan n _ s).trans (leaves_jobOff n t _)).trans (hw _)
    have late : Leaves c s (lateSwitch d t (w (jobOff d t (stop d t s)))) :=
      off.trans (leaves_lateSwitch n (fun l => by subst l; exact off.atRest (rest rfl)) t)
    exact late.trans (.of_owned (owned_pumpOffAndReport d _))
  · exact .refl c s

theorem leaves_terminate {c d : Ch} (n : c ≠ d) {s : State} (rest : c = .level → AtRest s .level) (t : Term) :
    Leaves c s (terminate d t s) := leaves_terminateWith n rest t _ (leaves_endWrite n t)

theorem leaves_endMotion {c d : Ch} (n : c ≠ d) {s : State} (rest : c = .level → AtRest s .level) (w : CancelDetail) (t : Term) :
    Leaves c s (endMotion d w t s) := by
  have cancelled := leaves_cancel n w s
  exact cancelled.trans (leaves_terminate n (fun l => by subst l; exact cancelled.atRest (rest rfl)) t)

/-! ### The levelling engine takes a motion -/

/-- Levelling work writes nothing that rooms, awning or a channel's record are. -/
def besideLevel (s : State) : Owned := { owned s with jackValves := PerJack.all false }

theorem Leaves.of_beside {c : Ch} {s t : State} (n : c ≠ .level) (h : besideLevel t = besideLevel s) : Leaves c s t := by
  have chans : t.chans = s.chans := congrArg Owned.chans h
  refine .of_level n (by simp only [chanOf, chans]) ?_
  have k := congrArg (fun q : Owned => { q with chans := s.chans, jackValves := s.man.jackValves }) h
  exact k

theorem besideLevel_of_owned {s t : State} (h : owned t = owned s) : besideLevel t = besideLevel s := by
  simp only [besideLevel, h]

theorem besideLevel_closeJack (j : Jack) (s : State) : besideLevel (closeJack j s) = besideLevel s := by
  rw [closeJack_frame]
  rfl

theorem besideLevel_openJack (j : Jack) (s : State) : besideLevel (openJack j s) = besideLevel s := by
  rw [openJack_frame]
  rfl

theorem besideLevel_closeJacksCmd (l : List Jack) (s : State) : besideLevel (closeJacksCmd l s) = besideLevel s :=
  foldl_keeps _ besideLevel l (fun t j _ => besideLevel_closeJack j t) s

theorem besideLevel_openJacksCmd (l : List Jack) (s : State) : besideLevel (openJacksCmd l s) = besideLevel s :=
  foldl_keeps _ besideLevel l (fun t j _ => besideLevel_openJack j t) s

theorem besideLevel_pumpOnCmd (c : Ch) (s : State) : besideLevel (pumpOnCmd c s) = besideLevel s :=
  besideLevel_of_owned (owned_pumpOnCmd c s)

theorem besideLevel_marks (f : Jack → JackRec → JackRec) (l : List Jack) (s : State) :
    besideLevel (l.foldl (fun t j => modJack j (f j) t) s) = besideLevel s :=
  foldl_keeps (fun t j => modJack j (f j) t) besideLevel l (fun _ _ _ => rfl) s

section
variable {c : Ch} (n : c ≠ .level)
include n

theorem leaves_terminate_level (t : Term) (s : State) : Leaves c s (terminate .level t s) :=
  leaves_terminate n (fun l => absurd l n) t

theorem leaves_levelSensorLoss (w : Subject) (s : State) : Leaves c s (levelSensorLoss w s) := by
  unfold levelSensorLoss
  split
  · exact (Leaves.of_beside n (besideLevel_closeJacksCmd _ s)).trans (leaves_terminate_level n _ _)
  · exact .refl c s

theorem leaves_startSettle (s : State) : Leaves c s (startSettle s) := by
  unfold startSettle
  extract_lets s1
  have part : Leaves c s s1 := .of_owned rfl
  split
  · exact part
  · exact part.trans (leaves_levelSensorLoss n _ s1)

theorem leaves_enterSettle (s : State) : Leaves c s (enterSettle s) :=
  (Leaves.of_owned (s := s) (t := modLev (fun l => { l with phase := .settle, phaseSince := s.now }) s) rfl).trans
    (leaves_startSettle n _)

theorem leaves_enterGround (s : State) : Leaves c s (enterGround s) := by
  unfold enterGround
  extract_lets s1 s2 m
  have part : Leaves c s s1 := .of_owned rfl
  have marked : Leaves c s1 s2 := .of_beside n (besideLevel_marks _ _ s1)
  clear_value s1 s2
  split
  · exact part.trans (leaves_levelSensorLoss n _ s1)
  · split
    · exact (part.trans marked).trans (leaves_enterSettle n s2)
    · exact (part.trans marked).trans (.of_beside n (by rw [besideLevel_pumpOnCmd, besideLevel_openJacksCmd]))

theorem leaves_enterStow (s : State) : Leaves c s (enterStow s) := by
  unfold enterStow
  extract_lets s1
  have part : Leaves c s s1 := .of_owned rfl
  clear_value s1
  split
  · exact part.trans (leaves_terminate_level n _ s1)
  · exact part.trans (.of_beside n (by rw [besideLevel_pumpOnCmd, besideLevel_openJacksCmd]))

theorem leaves_enterJog (v : Nat) (s : State) : Leaves c s (enterJog v s) := by
  unfold enterJog
  extract_lets s1 m s2 s3
  have part : Leaves c s s1 := .of_owned rfl
  have opened : Leaves c s1 s3 := .of_beside n ((besideLevel_marks _ _ s2).trans (besideLevel_openJacksCmd m s1))
  clear_value s3
  split
  · exact part.trans (leaves_terminate_level n _ s1)
  · split
    · exact part.trans opened
    · exact (part.trans opened).trans (.of_owned (owned_pumpOnCmd _ s3))

theorem leaves_levelBegin (o : Op) (v : Nat) (s : State) : Leaves c s (levelBegin o v s) := by
  unfold levelBegin
  extract_lets s1 s2 s3
  have status : Leaves c s s1 := .of_owned (owned_setLevelStatus _ s)
  have plan : Leaves c s1 s2 := by
    simp only [s2]
    split
    · exact .of_owned rfl
    · exact .of_owned rfl
    · exact .of_beside n ((besideLevel_marks _ _ _).trans rfl)
    · exact .refl c s1
  have start : Leaves c s s3 := (status.trans plan).trans (.of_owned rfl)
  clear_value s3
  split
  · exact start.trans (leaves_enterStow n s3)
  · exact start.trans (leaves_enterJog n v s3)
  · exact start.trans (leaves_enterGround n s3)

end

/-! ### A room's drive takes a motion -/

section
variable {c : Ch} {r : Room} (n : c ≠ .room r)
include n

theorem leaves_driveEnds (l : List Side) (o : Bool) (s : State) : Leaves c s (driveEnds r l o s) :=
  .foldl _ l (fun t e _ => by
    unfold driveEnd
    split
    · exact .refl c t
    · exact leaves_modEnd n e _ t) s

theorem leaves_openRoomValve (s : State) : Leaves c s (openRoomValve r s) := by
  unfold openRoomValve
  split
  · exact ⟨rfl, fun _ x => x, fun q e => ⟨rfl, PerRoom_get_set_ne _ _ _ _ fun k => n (by rw [e, k])⟩, fun _ => ⟨rfl, rfl⟩,
      fun _ _ _ x => x⟩
  · exact .refl c s

theorem leaves_hydraulicBegin {s : State} (rest : c = .level → AtRest s .level) (o : Op) : Leaves c s (hydraulicBegin r o s) := by
  unfold hydraulicBegin
  extract_lets s1
  have part : Leaves c s s1 := by
    simp only [s1]
    split
    · exact .refl c s
    · exact leaves_setRoomStat n _ _ s
  clear_value s1
  split
  · have lost : Leaves c s1 (roomsInLost s1) := leaves_roomsInLost fun l => by subst l; exact part.atRest (rest rfl)
    have done := part.trans lost
    exact done.trans (leaves_terminate n (fun l => by subst l; exact done.atRest (rest rfl)) _)
  · exact (part.trans (leaves_openRoomValve n s1)).trans (.of_owned (owned_pumpOnCmd _ _))

theorem leaves_beginAutoExtend {s : State} (rest : c = .level → AtRest s .level) (v : Int) :
    Leaves c s (beginAutoExtend r v s) := by
  unfold beginAutoExtend
  extract_lets s1
  have targets : Leaves c s s1 := .foldl _ _ (fun t e _ => leaves_modEnd n e _ t) s
  clear_value s1
  split
  · have marked : Leaves c s (modRoom r (fun q => { q with onTarget := true }) s1) := targets.trans (leaves_modRoom n _ s1)
    exact marked.trans (leaves_terminate n (fun l => by subst l; exact marked.atRest (rest rfl)) _)
  · exact targets.trans (leaves_driveEnds n _ _ s1)

theorem leaves_roomBegin {s : State} (rest : c = .level → AtRest s .level) (o : Op) : Leaves c s (roomBegin r o s) := by
  unfold roomBegin
  extract_lets z s1 w s2
  have start : Leaves c s s1 := ((leaves_modEnd n .endA z s).trans (leaves_modEnd n .endB z _)).trans (leaves_modRoom n _ _)
  have search : Leaves c s1 s2 := by
    simp only [s2]
    split
    · exact ((leaves_modEnd n .endA _ s1).trans (leaves_modEnd n .endB _ _)).trans (leaves_modRoom n _ _)
    · exact .refl c s1
  have rest1 : c = .level → AtRest s1 .level := fun l => by subst l; exact start.atRest (rest rfl)
  clear_value s1 s2 w
  split
  · split
    · exact start.trans (leaves_terminateWith n rest1 w _ (leaves_setRoomStat n _ _))
    · exact start.trans (leaves_terminate n rest1 w)
  · split
    · split
      · exact start.trans (leaves_beginAutoExtend n rest1 _)
      · exact start.trans (leaves_driveEnds n _ _ s1)
    · exact start.trans (leaves_driveEnds n _ _ s1)
    · split
      · exact start.trans (leaves_terminate n rest1 _)
      · exact (start.trans search).trans (leaves_driveEnds n _ _ s2)

end

/-! ### The awning takes a motion -/

theorem leaves_driveAwning {c : Ch} (n : c ≠ .awning) (o : Bool) (s : State) : Leaves c s (driveAwning o s) := by
  unfold driveAwning
  split
  · exact .refl c s
  · exact .of_awning n rfl rfl

theorem leaves_awningBegin {c : Ch} (n : c ≠ .awning) {s : State} (rest : c = .level → AtRest s .level) (o : Op) (v : Nat) :
    Leaves c s (awningBegin o v s) := by
  unfold awningBegin
  extract_lets s1 s2
  have work : ∀ (f : AwnRec → AwnRec) (u : State), Leaves c u (modAwn f u) := fun _ _ => .of_awning n rfl rfl
  have start : Leaves c s s1 := work _ s
  have aimed : Leaves c s s2 := start.trans (work _ s1)
  have restOf : ∀ {u : State}, Leaves c s u → c = .level → AtRest u .level := fun h l => by subst l; exact h.atRest (rest rfl)
  clear_value s1 s2
  split
  · split
    · exact start.trans (leaves_driveAwning n _ s1)
    · split
      · exact aimed.trans (leaves_terminateWith n (restOf aimed) _ _ (.refl c))
      · exact aimed.trans (leaves_driveAwning n _ s2)
  · split
    · exact start.trans (leaves_terminate n (restOf start) _)
    · refine (start.trans ?_).trans (leaves_driveAwning n _ _)
      split
      · exact work _ s1
      · exact .refl c s1

/-! ### The sweep and an admission -/

theorem leaves_jobBegin {c d : Ch} (n : c ≠ d) {s : State} (rest : c = .level → AtRest s .level) (o : Op) (v : Nat) :
    Leaves c s (jobBegin d o v s) := by
  cases d with
  | level => exact leaves_levelBegin n o v s
  | room r =>
    simp only [jobBegin]
    split
    · exact leaves_hydraulicBegin n rest o
    · exact leaves_roomBegin n rest o
  | awning => exact leaves_awningBegin n rest o v

/-- The sweep leaves a channel whose row it does not break. -/
theorem leaves_sweep {c : Ch} {s : State} (sat : AtRest s c ∨ chanUnsat s c = none) (rest : c = .level → AtRest s .level) :
    Leaves c s (sweep s) := by
  have spared : ∀ p ∈ interlockBreaks s, c ≠ p.1 := fun p hp e => by
    obtain ⟨active, unsat⟩ := (mem_interlockBreaks s p.1 p.2).1 hp
    rw [← e] at active unsat
    rcases sat with ⟨notPending, notRunning⟩ | sat
    · rcases active with a | a
      · exact notPending a
      · exact notRunning a
    · rw [sat] at unsat
      cases unsat
  have folded : ∀ (l : List (Ch × Item)) (u : State), (∀ p ∈ l, c ≠ p.1) → (c = .level → AtRest u .level) →
      Leaves c u (l.foldl (fun t p => endMotion p.1 .interlock (.aborted (.item p.2)) t) u) := fun l => by
    induction l with
    | nil => exact fun u _ _ => .refl c u
    | cons p l ih =>
      intro u others rested
      have one := leaves_endMotion (others p List.mem_cons_self) rested .interlock (.aborted (.item p.2))
      exact one.trans (ih _ (fun q hq => others q (List.mem_cons_of_mem p hq)) fun l => by
        subst l
        exact one.atRest (rested rfl))
  exact folded _ s spared rest

theorem leaves_handOver {c d : Ch} (n : c ≠ d) (o : Op) (s : State) : Leaves c s (handOver d o s) := by
  unfold handOver
  extract_lets s1 s2 s3
  have left : Leaves c s s1 :=
    (Leaves.of_owned (s := s) (t := modSup (fun u => { u with queue := u.queue.filter (fun e => e.ch != d) }) s) rfl).trans
      (leaves_modChan n _ _)
  have reserved : Leaves c s s2 := left.trans (.of_owned rfl)
  have taken : Leaves c s s3 := by
    simp only [s3]
    split
    · exact reserved.trans (.of_owned rfl)
    · exact reserved
  clear_value s3
  exact ((taken.trans (.of_owned (owned_requestMarkerClear s3))).trans (leaves_modChan n _ _)).trans
    (.of_owned (owned_signal _ _))

/-- The row of the channel after the entry of another's admission is satisfied, or the channel is at rest. -/
def spared (s : State) (c d : Ch) : Prop :=
  AtRest s c ∨ chanUnsat (modChan d (fun q => { q with state := .running }) s) c = none

theorem leaves_admitChan {c d : Ch} (n : c ≠ d) {s : State} (waits : (chanOf s d).state = .pending) (sat : spared s c d)
    (rest : c = .level → AtRest s .level) : Leaves c s (admitChan d s) := by
  cases op : (chanOf s d).op with
  | none =>
    rw [admitChan_none d s op]
    exact .refl c s
  | some o =>
    have entry := leaves_handOver n o s
    have restOf : ∀ {u : State}, Leaves c s u → c = .level → AtRest u .level := fun h l => by subst l; exact h.atRest (rest rfl)
    have sat' : AtRest (handOver d o s) c ∨ chanUnsat (handOver d o s) c = none :=
      sat.imp entry.atRest ((sameRows_handOver d o s waits).chanUnsat c).trans
    have swept := entry.trans (leaves_sweep sat' (restOf entry))
    rw [admitChan_eq d o s op]
    split
    · exact swept.trans (leaves_jobBegin n (restOf swept) o _)
    · exact swept

theorem leaves_setWaiting {c d : Ch} (n : c ≠ d) (w : Waiting) (s : State) : Leaves c s (setWaiting d w s) := by
  unfold setWaiting
  split
  · exact .refl c s
  · exact (leaves_modChan n _ s).trans (.of_owned (owned_signal _ _))

theorem leaves_scanTaken (c : Ch) (s : State) : Leaves c s (scanTaken s) := .of_owned rfl

/-! ### The protective request -/

theorem leaves_retractStart {c : Ch} (n : c ≠ .awning) (cause : AutoCause) (s : State) : Leaves c s (retractStart cause s).2 := by
  obtain e | ⟨-, e⟩ | ⟨z, -⟩ | ⟨-, -, -, -, e⟩ := startMotion_cases .awning .autoRetract false 0 .automatic (some cause) s
  · have same : (retractStart cause s).2 = s := e
    rw [same]
    exact .refl c s
  · rw [retractStart, e]
    exact leaves_modChan n (deferredRec cause) s
  · cases z
  · rw [retractStart, e]
    have chan := chanOf_accept_ne .awning c .autoRetract false 0 .automatic (some cause) s n
    refine .of_chan chan ?_
    rw [accept_frame]
    rfl

theorem leaves_protective {c : Ch} (n : c ≠ .awning) {s : State} (rest : c = .level → AtRest s .level) (cause : AutoCause) :
    Leaves c s (protectiveRequest cause s) := by
  have owed : ∀ (o : Option AutoCause) (t : State), Leaves c t (modSup (fun u => { u with owed := o }) t) :=
    fun _ _ => .of_awning n rfl rfl
  unfold protectiveRequest
  extract_lets q s1 p
  split
  · exact .refl c s
  · split
    · exact owed _ s
    · have first : Leaves c s s1 := by
        simp only [s1]
        split
        · exact leaves_endMotion n rest _ _
        · exact .refl c s
      exact (first.trans (leaves_retractStart n cause s1)).trans (owed _ _)

end Sys2Proof.Machine
end

section
/-! PROOF. What a step's settling keeps: one induction over its rounds, and the three properties that hold along it: a channel
at rest stays as it is, a manifold without a holder stays at REST, and an accepted awning retract goes on. -/

namespace Sys2Proof.Machine

/-! ### The induction -/

/-- A property that every operation of a round of settling keeps; `Q` bounds the channels that wait in the queue. -/
structure Settles (P : State → Prop) (Q : Ch → Prop) : Prop where
  queue : ∀ s, P s → ∀ e ∈ s.sup.queue, Q e.ch
  swept : ∀ s, P s → P (sweep s)
  owed : ∀ s, P s → P (requestOwed s)
  taken : ∀ s, P s → P (scanTaken s)
  waits : ∀ s c w, P s → (chanOf s c).state = .pending → P (setWaiting c w s)
  admits : ∀ s c, P s → Q c → (chanOf s c).state = .pending → P (admitChan c s)

section
variable {P : State → Prop} {Q : Ch → Prop} (h : Settles P Q)
include h

theorem Settles.walkEntry {w : Walk} {e : QEntry} (p : P w.st) (q : Q e.ch) : P (walkEntry w e).st := by
  unfold Machine.walkEntry
  extract_lets s
  split
  · exact p
  next k =>
  have waits := fun x => h.waits w.st e.ch x p (not_not.1 k)
  split
  · exact waits _
  split
  · exact waits _
  split
  · exact waits _
  split
  · exact waits _
  · exact h.admits w.st e.ch p q (not_not.1 k)

theorem Settles.scan {s : State} (p : P s) : P (scan s) := by
  have walk : ∀ (l : List QEntry) (w : Walk), P w.st → (∀ e ∈ l, Q e.ch) → P (l.foldl Machine.walkEntry w).st := fun l => by
    induction l with
    | nil => exact fun w p _ => p
    | cons e l ih =>
      exact fun w p q => ih _ (h.walkEntry p (q e List.mem_cons_self)) fun d hd => q d (List.mem_cons_of_mem e hd)
  exact walk _ _ (h.taken s p) (h.queue s p)

theorem Settles.round {s : State} (p : P s) : P (settleRound s) := by
  unfold settleRound
  extract_lets s1 s2
  have second : P s2 := by
    simp only [s2]
    split
    · exact h.owed s1 (h.swept s p)
    · exact h.swept s p
  split
  · exact h.scan second
  · exact second

theorem Settles.rounds (n : Nat) {s : State} (p : P s) : P (settleRounds n s) := by
  induction n generalizing s with
  | zero => exact p
  | succ n ih =>
    unfold settleRounds
    split
    · exact p
    · exact ih (h.round p)

theorem Settles.settle {s : State} (p : P s) : P (settle s) := h.rounds 40 p

end

/-! ### The supply side of the operations -/

/-- What admissions write besides the channels: reservations, the pump's holder and the direction valve. -/
structure Taken where
  resv : PerCh (Option Resv)
  holder : Option Ch
  dirValve : DirValve

/-- What admissions have taken in a state. -/
def taken (s : State) : Taken := ⟨s.mon.resv, s.man.pump.holder, s.man.dirValve⟩

theorem taken_of_outside {s t : State} (h : outside t = outside s) : taken t = taken s := by
  simp only [taken, resv_of_outside h, holder_of_outside h, dirValve_of_outside h]

theorem Ends.taken {p : Ch → Ending → Prop} {s t : State} (h : Ends p s t) : taken t = taken s := by
  simp only [Machine.taken, h.resv, h.holder, h.dirValve]

theorem taken_setWaiting (c : Ch) (w : Waiting) (s : State) : taken (setWaiting c w s) = taken s :=
  (taken_of_outside (outside_setWaiting c w s)).trans rfl

/-- A protective request takes nothing, and at most AWNING joins the queue. -/
theorem protective_takes (cause : AutoCause) (s : State) :
    taken (protectiveRequest cause s) = taken s ∧
      ∀ e ∈ (protectiveRequest cause s).sup.queue, e ∈ s.sup.queue ∨ e.ch = .awning := by
  have ended := ends_endMotion .awning .interlock (.aborted (.item (protectiveItem s cause))) s (by simp)
  have start : ∀ t : State, taken (retractStart cause t).2 = taken t ∧
      ∀ e ∈ (retractStart cause t).2.sup.queue, e ∈ t.sup.queue ∨ e.ch = .awning := fun t => by
    obtain e | ⟨-, e⟩ | ⟨z, -⟩ | ⟨-, -, -, -, e⟩ := startMotion_cases .awning .autoRetract false 0 .automatic (some cause) t
    · have same : (retractStart cause t).2 = t := e
      rw [same]
      exact ⟨rfl, fun _ => .inl⟩
    · rw [retractStart, e]
      exact ⟨rfl, fun _ => .inl⟩
    · cases z
    · rw [retractStart, e, accept_frame]
      refine ⟨rfl, fun e he => ?_⟩
      rcases List.mem_append.1 he with m | m
      · exact .inl m
      · exact .inr (by simp at m; rw [m])
  unfold protectiveRequest
  extract_lets q s1 p
  split
  · exact ⟨rfl, fun _ => .inl⟩
  · split
    · exact ⟨rfl, fun _ => .inl⟩
    · have first : taken s1 = taken s ∧ ∀ e ∈ s1.sup.queue, e ∈ s.sup.queue := by
        simp only [s1]
        split
        · refine ⟨ended.taken, fun e he => ?_⟩
          rw [ended.queue] at he
          exact List.mem_of_mem_filter he
        · exact ⟨rfl, fun _ => id⟩
      obtain ⟨took, joined⟩ := start s1
      exact ⟨took.trans first.1, fun e he => (joined e he).imp_left (first.2 e)⟩

/-- What an admission takes, and how the queue shrinks. -/
theorem admit_takes (d : Ch) (s : State) :
    (∀ c, c ≠ d → (admitChan d s).mon.resv.get c = s.mon.resv.get c) ∧
      (∀ c, c ≠ d → s.man.pump.holder ≠ some c → (admitChan d s).man.pump.holder ≠ some c) ∧
      (needsPump s d = false → (admitChan d s).man.pump.holder = s.man.pump.holder ∧
        (admitChan d s).man.dirValve = s.man.dirValve) ∧
      ∀ e ∈ (admitChan d s).sup.queue, e ∈ s.sup.queue := by
  cases op : (chanOf s d).op with
  | none =>
    rw [admitChan_none d s op]
    exact ⟨fun _ _ => rfl, fun _ _ => id, fun _ => ⟨rfl, rfl⟩, fun _ => id⟩
  | some o =>
    have ends := ends_admit op
    have out := outside_handOver d o s
    have resv := ends.resv.trans (resv_of_outside out)
    have holder := ends.holder.trans (holder_of_outside out)
    have valve := ends.dirValve.trans (dirValve_of_outside out)
    refine ⟨fun c n => ?_, fun c n free => ?_, fun dry => ?_, fun e he => ?_⟩
    · rw [resv]
      exact PerCh_get_set_ne _ _ _ _ n
    · rw [holder]
      simp only [modMan]
      split
      · simpa using n.symm
      · exact free
    · simp only [modMan, dry] at holder valve
      exact ⟨holder, valve⟩
    · rw [queue_admit op] at he
      exact List.mem_of_mem_filter (List.mem_of_mem_filter he)

/-! ### A channel at rest stays as it is -/

/-- Settling from `s` has left the resting channel `c` as it was, without reservation and pump. -/
structure Rested (c : Ch) (s t : State) : Prop where
  leaves : Leaves c s t
  resv : t.mon.resv.get c = none
  holder : t.man.pump.holder ≠ some c

theorem Rested.of_taken {c : Ch} {s t u : State} (h : Rested c s t) (k : Leaves c t u) (same : taken u = taken t) :
    Rested c s u where
  leaves := h.leaves.trans k
  resv := by
    have e : u.mon.resv = t.mon.resv := congrArg Taken.resv same
    rw [e]
    exact h.resv
  holder := by
    have e : u.man.pump.holder = t.man.pump.holder := congrArg Taken.holder same
    rw [e]
    exact h.holder

/-- AWNING has no request that it could take: none is owed, or it is FAULTED. -/
def noRequest (s : State) (c : Ch) : Prop := c = .awning → s.sup.owed = none ∨ (chanOf s c).state = .faulted

/-- The taking of an owed request: it is due no more. -/
def dueTaken (s : State) : State := modSup (fun u => { u with owedDue := false }) s

theorem requestOwed_none {s : State} (h : s.sup.owed = none) : requestOwed s = dueTaken s := by
  unfold requestOwed
  extract_lets s1
  have owed : s1.sup.owed = none := h
  rw [owed]
  rfl

theorem requestOwed_some {s : State} {cause : AutoCause} (h : s.sup.owed = some cause) :
    requestOwed s = protectiveRequest cause (dueTaken s) := by
  unfold requestOwed
  extract_lets s1
  have owed : s1.sup.owed = some cause := h
  rw [owed]
  rfl

/-- A request that finds AWNING FAULTED stays owed. -/
theorem protective_of_faulted {s : State} {cause : AutoCause} (faulted : (chanOf s .awning).state = .faulted)
    (owed : s.sup.owed = some cause) : Leaves .awning s (protectiveRequest cause s) := by
  by_cases k : s.present .awning = true ∧ s.awn.status ≠ .pin
  · rw [protective_owes cause k.1 k.2 (.inl faulted)]
    exact ⟨rfl, fun _ x => x, fun _ _ => ⟨rfl, rfl⟩, fun _ => ⟨rfl, owed.symm⟩, fun _ _ f _ => absurd faulted f⟩
  · have same : protectiveRequest cause s = s := by
      unfold protectiveRequest
      extract_lets q s1 p
      exact if_pos (by simpa [imp_iff_not_or] using k)
    rw [same]
    exact .refl .awning s

theorem leaves_requestOwed {c : Ch} {s : State} (rest : AtRest s c) (quiet : noRequest s c) :
    Leaves c s (requestOwed s) ∧ taken (requestOwed s) = taken s := by
  cases o : s.sup.owed with
  | none =>
    rw [requestOwed_none o]
    exact ⟨⟨rfl, fun _ x => x, fun _ _ => ⟨rfl, rfl⟩, fun _ => ⟨rfl, rfl⟩, fun _ k _ _ => absurd o k⟩, rfl⟩
  | some cause =>
    rw [requestOwed_some o]
    refine ⟨?_, (protective_takes cause (dueTaken s)).1⟩
    by_cases l : c = .awning
    · subst l
      have faulted : (chanOf s .awning).state = .faulted := (quiet rfl).resolve_left (by simp [o])
      have first : Leaves .awning s (dueTaken s) :=
        ⟨rfl, fun _ x => x, fun _ _ => ⟨rfl, rfl⟩, fun _ => ⟨rfl, rfl⟩, fun _ _ k _ => absurd faulted k⟩
      exact first.trans (protective_of_faulted faulted o)
    · have first : Leaves c s (dueTaken s) := .of_awning l rfl rfl
      exact first.trans (leaves_protective l (fun e => by subst e; exact rest) cause)

theorem settles_rested {c : Ch} {s : State} (rest : AtRest s c) (quiet : noRequest s c) :
    Settles (Rested c s) (fun _ => True) := by
  have restOf : ∀ {t : State}, Rested c s t → AtRest t c := fun h => h.leaves.atRest rest
  have level : ∀ {t : State}, Rested c s t → c = .level → AtRest t .level := fun h l => by
    subst l
    exact h.leaves.atRest rest
  have other : ∀ {t : State} {d : Ch}, Rested c s t → (chanOf t d).state = .pending → c ≠ d := fun h waits e => by
    subst e
    exact (restOf h).1 waits
  refine ⟨fun _ _ _ _ => trivial, fun t h => ?_, fun t h => ?_, fun t h => ?_, fun t d w h waits => ?_, fun t d h _ waits => ?_⟩
  · exact h.of_taken (leaves_sweep (.inl (restOf h)) (level h)) (ends_sweep t).taken
  · have quiet' : noRequest t c := fun l => by
      rw [(h.leaves.awn l).2, h.leaves.chan]
      exact quiet l
    obtain ⟨left, same⟩ := leaves_requestOwed (restOf h) quiet'
    exact h.of_taken left same
  · exact h.of_taken (leaves_scanTaken c t) rfl
  · exact h.of_taken (leaves_setWaiting (other h waits) w t) (taken_setWaiting d w t)
  · have n := other h waits
    obtain ⟨resv, holder, -⟩ := admit_takes d t
    exact ⟨h.leaves.trans (leaves_admitChan n waits (.inl (restOf h)) (level h)), (resv c n).trans h.resv, holder c n h.holder⟩

/-! ### A manifold without a holder -/

/-- No channel holds the pump, the direction valve is at REST, and at most AWNING waits, which needs neither. -/
structure Dry (s : State) : Prop where
  queue : ∀ e ∈ s.sup.queue, e.ch = .awning
  holder : s.man.pump.holder = none
  valve : s.man.dirValve = .rest

theorem Dry.of_taken {s t : State} (h : Dry s) (queue : ∀ e ∈ t.sup.queue, e ∈ s.sup.queue ∨ e.ch = .awning)
    (same : taken t = taken s) : Dry t where
  queue e he := (queue e he).elim (h.queue e) id
  holder := (congrArg Taken.holder same).trans h.holder
  valve := (congrArg Taken.dirValve same).trans h.valve

theorem settles_dry : Settles Dry (· = .awning) := by
  refine ⟨fun s h => h.queue, fun s h => ?_, fun s h => ?_, fun s h => ?_, fun s c w h _ => ?_, fun s c h e _ => ?_⟩
  · refine h.of_taken (fun e he => .inl ?_) (ends_sweep s).taken
    rw [(ends_sweep s).queue] at he
    exact List.mem_of_mem_filter he
  · have first : Dry (dueTaken s) := h.of_taken (fun _ => .inl) rfl
    cases o : s.sup.owed with
    | none =>
      rw [requestOwed_none o]
      exact first
    | some cause =>
      rw [requestOwed_some o]
      exact first.of_taken (protective_takes cause _).2 (protective_takes cause _).1
  · exact h.of_taken (fun _ => .inl) rfl
  · have queue : (setWaiting c w s).sup.queue = s.sup.queue := (queue_of_outside (outside_setWaiting c w s)).trans rfl
    exact h.of_taken (fun e he => .inl (by rwa [queue] at he)) (taken_setWaiting c w s)
  · subst e
    obtain ⟨-, -, dry, queue⟩ := admit_takes .awning s
    obtain ⟨holder, valve⟩ := dry rfl
    exact ⟨fun e he => h.queue e (queue e he), holder.trans h.holder, valve.trans h.valve⟩

/-! ### An accepted retract goes on -/

/-- AWNING waits, runs or stops with an AUTOMATIC retract that its row allows, and nothing is owed. -/
structure Retracting (cause : AutoCause) (s : State) : Prop where
  op : (chanOf s .awning).op = some .autoRetract
  owner : (chanOf s .awning).owner = some .automatic
  auto : (chanOf s .awning).autoCause = some cause
  deferred : (chanOf s .awning).deferred = none
  active : (chanOf s .awning).state = .pending ∨ runningOrStopping s .awning = true
  owed : s.sup.owed = none
  row : firstUnsat s .awning .awningIn true = none

theorem chanUnsat_retract {s : State} (op : (chanOf s .awning).op = some .autoRetract)
    (owner : (chanOf s .awning).owner = some .automatic) (row : firstUnsat s .awning .awningIn true = none) :
    chanUnsat s .awning = none := by
  have motion : chanMotion s .awning = some .awningIn := by simp [chanMotion, op, motionOf]
  rw [chanUnsat_of_motion motion, owner, op]
  exact row

theorem row_of_kept {s t : State} (h : kept t = kept s) (row : firstUnsat s .awning .awningIn true = none) :
    firstUnsat t .awning .awningIn true = none :=
  (firstUnsat_autoRetract (of_kept (fun x => x.store.cfg) (fun _ => rfl) h) (of_kept State.term (fun _ => rfl) h)).trans row

/-- A record of AWNING with the same motion, and nothing owed. -/
theorem Retracting.of_record {cause : AutoCause} {s t : State} (h : Retracting cause s) (k : kept t = kept s)
    (op : (chanOf t .awning).op = (chanOf s .awning).op) (owner : (chanOf t .awning).owner = (chanOf s .awning).owner)
    (auto : (chanOf t .awning).autoCause = (chanOf s .awning).autoCause)
    (deferred : (chanOf t .awning).deferred = (chanOf s .awning).deferred)
    (active : (chanOf t .awning).state = .pending ∨ runningOrStopping t .awning = true) (owed : t.sup.owed = none) :
    Retracting cause t :=
  ⟨op.trans h.op, owner.trans h.owner, auto.trans h.auto, deferred.trans h.deferred, active, owed, row_of_kept k h.row⟩

theorem Retracting.of_leaves {cause : AutoCause} {s t : State} (h : Retracting cause s) (k : kept t = kept s)
    (l : Leaves .awning s t) : Retracting cause t := by
  refine h.of_record k ?_ ?_ ?_ ?_ ?_ ((l.awn rfl).2.trans h.owed)
  any_goals rw [l.chan]
  have moves : runningOrStopping t .awning = runningOrStopping s .awning := by simp only [runningOrStopping, l.chan]
  rw [moves]
  exact h.active

section
variable {s : State} (none : s.sup.owed = none)
include none

theorem owed_setAwnStat (v : Pos) (c : Conf) : (setAwnStat v c s).sup.owed = Option.none := by
  unfold setAwnStat
  extract_lets s0
  have marked : s0.sup.owed = Option.none := by
    simp only [s0]
    split
    · rfl
    · exact none
  split
  · exact marked
  · rw [snapshotOnRest_frame, signal_frame]
    exact marked

theorem owed_awnHome : (awnHome s).sup.owed = Option.none :=
  owed_setAwnStat (s := modAwn (fun a => { a with count := 0, assumed := 0, consec := 0 }) s) none .pin .known

theorem owed_endWrite_awning (t : Term) : (endWrite .awning t s).sup.owed = Option.none := by
  simp only [endWrite, awningEnd]
  split
  · exact owed_awnHome none
  · split <;> exact owed_setAwnStat none _ _

theorem owed_terminate_awning (t : Term) : (terminateWith .awning t (endWrite .awning t) s).sup.owed = Option.none ∧
    (terminateWith .awning t (fun u => u) s).sup.owed = Option.none := by
  have late : ∀ u : State, u.sup.owed = Option.none → (lateSwitch .awning t u).sup.owed = Option.none := fun u h => by
    simp only [lateSwitch]
    split
    · exact owed_awnHome (s := modAwn (fun a => { a with switchLate := false }) u) h
    · exact h
  have tail : ∀ u : State, u.sup.owed = Option.none → (pumpOffAndReport .awning u).sup.owed = Option.none := fun u h =>
    (congrArg Owned.owed (owned_pumpOffAndReport .awning u)).trans h
  have off : (jobOff .awning t (stop .awning t s)).sup.owed = Option.none := none
  unfold terminateWith
  split
  · exact ⟨tail _ (late _ (owed_endWrite_awning off t)), tail _ (late _ off)⟩
  · exact ⟨none, none⟩

theorem owed_driveAwning (o : Bool) : (driveAwning o s).sup.owed = Option.none := by
  unfold driveAwning
  split <;> exact none

end

theorem owed_awningBegin {s : State} (h : s.sup.owed = none) (o : Op) (v : Nat) : (awningBegin o v s).sup.owed = none := by
  unfold awningBegin
  extract_lets s1 s2
  have start : s1.sup.owed = none := h
  have aimed : s2.sup.owed = none := h
  clear_value s1 s2
  split
  · split
    · exact owed_driveAwning start _
    · split
      · exact (owed_terminate_awning aimed _).2
      · exact owed_driveAwning aimed _
  · split
    · exact (owed_terminate_awning start _).1
    · refine owed_driveAwning ?_ _
      split <;> exact start

theorem owed_handOver (c : Ch) (o : Op) (s : State) : (handOver c o s).sup.owed = s.sup.owed := by
  unfold handOver
  extract_lets s1 s2 s3
  rw [signal_frame]
  have marker : (requestMarkerClear s3).sup.owed = s3.sup.owed := congrArg Owned.owed (owned_requestMarkerClear s3)
  have third : s3.sup.owed = s.sup.owed := by
    simp only [s3]
    split <;> rfl
  exact marker.trans third

/-- The admission of the retract itself. -/
theorem Retracting.admitted {cause : AutoCause} {s : State} (h : Retracting cause s)
    (waits : (chanOf s .awning).state = .pending) : Retracting cause (admitChan .awning s) := by
  have entry := chanOf_handOver_self .awning .autoRetract s
  have row : chanUnsat (handOver .awning .autoRetract s) .awning = none :=
    chanUnsat_retract (by rw [entry]; exact h.op) (by rw [entry]; exact h.owner)
      (row_of_kept (steady_handOver .awning .autoRetract s waits).kept h.row)
  have swept : (sweep (handOver .awning .autoRetract s)).sup.owed = none :=
    ((leaves_sweep (.inr row) nofun).awn rfl).2.trans ((owed_handOver .awning .autoRetract s).trans h.owed)
  have owed : (admitChan .awning s).sup.owed = none := by
    rw [admitChan_eq .awning .autoRetract s h.op]
    split
    · exact owed_awningBegin swept _ _
    · exact swept
  have k := (steady_admitChan .awning s waits).kept
  obtain e | ⟨w, e⟩ := chanOf_admit_self h.op
  · refine h.of_record k ?_ ?_ ?_ ?_ (.inr ?_) owed
    any_goals rw [e]; rfl
    rw [runningOrStopping, e]
    rfl
  · refine h.of_record k ?_ ?_ ?_ ?_ (.inr ?_) owed
    any_goals rw [e]; rfl
    rw [runningOrStopping, e]
    rfl

theorem settles_retracting (cause : AutoCause) : Settles (Retracting cause) (fun _ => True) := by
  refine ⟨fun _ _ _ _ => trivial, fun s h => ?_, fun s h => ?_, fun s h => ?_, fun s c w h _ => ?_, fun s c h _ waits => ?_⟩
  · exact h.of_leaves (ends_sweep s).steady.kept (leaves_sweep (.inr (chanUnsat_retract h.op h.owner h.row)) nofun)
  · rw [requestOwed_none h.owed]
    exact h.of_record rfl rfl rfl rfl rfl h.active h.owed
  · exact h.of_leaves rfl (leaves_scanTaken .awning s)
  · by_cases l : c = .awning
    · subst l
      have e := chanOf_setWaiting_self .awning w s
      have owed : (setWaiting .awning w s).sup.owed = s.sup.owed := by rw [setWaiting_frame]
      have active := h.active
      refine h.of_record (steady_setWaiting .awning w s).kept ?_ ?_ ?_ ?_ ?_ (owed.trans h.owed)
      any_goals rw [e]
      rw [runningOrStopping, e]
      exact active
    · exact h.of_leaves (steady_setWaiting c w s).kept (leaves_setWaiting (Ne.symm l) w s)
  · by_cases l : c = .awning
    · subst l
      exact h.admitted waits
    · have n : Ch.awning ≠ c := Ne.symm l
      have entered : chanOf (modChan c (fun q => { q with state := .running }) s) .awning = chanOf s .awning :=
        chanOf_modChan_ne _ _ _ _ n
      have row : chanUnsat (modChan c (fun q => { q with state := .running }) s) .awning = none :=
        chanUnsat_retract (by rw [entered]; exact h.op) (by rw [entered]; exact h.owner) (row_of_kept rfl h.row)
      exact h.of_leaves (steady_admitChan c s waits).kept (leaves_admitChan n waits (.inr row) nofun)

end Sys2Proof.Machine
end

section
/-! PROOF. The end of STOPPING (O36): what the job block and the pump leave, the resting record, and what the settling keeps
of it. -/

namespace Sys2Proof.Machine

/-! ### The parts of the ending -/

/-- The job's ending, the reservation gone and the pump released (R18, R45). -/
def released (c : Ch) (s : State) : State :=
  jobStopped c s |> modMon (fun m => { m with resv := m.resv.set c none }) |> releasePump c

/-- The record of a channel at the end of STOPPING (R18). -/
def restRec (q : ChanRec) : ChanRec := { clearedRec (restingState q).1 q with fault := (restingState q).2 }

/-- The channel has its resting record; what follows an entry into IDLE has been done. -/
def entered (c : Ch) (s : State) : State :=
  let t := signal (.chan c) (modChan c restRec (released c s))
  if (restingState (chanOf s c)).1 = .idle then entersIdle c t else t

theorem jobStopped_frame (c : Ch) (s : State) :
    jobStopped c s = { s with store := (jobStopped c s).store, rooms := (jobStopped c s).rooms, awn := (jobStopped c s).awn } := by
  have coast : ∀ (r : Room) (e : Side) (t : State), learnEndCoast r e t = { t with store := (learnEndCoast r e t).store } :=
    fun r e t => by
      unfold learnEndCoast
      simp only []
      split <;> rfl
  cases c with
  | level => rfl
  | room r =>
    have folded : ∀ (l : List Side) (t : State), l.foldl (fun t e => learnEndCoast r e t) t =
        { t with store := (l.foldl (fun t e => learnEndCoast r e t) t).store } := fun l => by
      induction l with
      | nil => exact fun _ => rfl
      | cons e l ih =>
        intro t
        rw [List.foldl_cons, ih, coast]
    simp only [jobStopped]
    split
    · rfl
    · unfold roomStopped
      split
      · rw [folded]
        rfl
      · rfl
  | awning =>
    simp only [jobStopped, awningStopped]
    split
    · split <;> rfl
    · rfl

theorem chanOf_jobStopped (c d : Ch) (s : State) : chanOf (jobStopped c s) d = chanOf s d := by
  rw [jobStopped_frame]
  rfl

theorem releasePump_frame (c : Ch) (s : State) : releasePump c s = { s with man := (releasePump c s).man } := by
  unfold releasePump
  split <;> rfl

theorem chanOf_released (c d : Ch) (s : State) : chanOf (released c s) d = chanOf s d := by
  unfold released
  rw [releasePump_frame]
  exact chanOf_jobStopped c d s

theorem stoppingEnd_eq (c : Ch) (s : State) :
    stoppingEnd c s =
      let t := settle (modSup (fun u => { u with scanDue := true }) (takeDeferred c (entered c s)))
      if allAtRest t then requestSnapshot t else t := by
  have same : chanOf (released c s) c = chanOf s c := chanOf_released c c s
  have record : modChan c (fun q => { clearedRec (restingState (chanOf s c)).1 q with fault := (restingState (chanOf s c)).2 })
      (released c s) = modChan c restRec (released c s) := by
    unfold modChan
    congr 2
    show _ = restRec (chanOf (released c s) c)
    rw [same]
    exact congrArg (fun q => ({ clearedRec (restingState (chanOf s c)).1 q with fault := (restingState (chanOf s c)).2 } : ChanRec)) same
  unfold stoppingEnd
  extract_lets s1 z s2 s3 s4
  have hz : z = restingState (chanOf s c) := by
    show restingState (chanOf (released c s) c) = _
    rw [same]
  have h3 : s3 = entered c s := by
    simp only [s3, s2, hz]
    unfold entered
    rw [← record]
    rfl
  have h4 : s4 = settle (modSup (fun u => { u with scanDue := true }) (takeDeferred c (entered c s))) := by rw [← h3]
  rw [h4]

/-! ### What the pump's release leaves -/

theorem released_resv (c : Ch) (s : State) : (released c s).mon.resv.get c = none := by
  unfold released
  rw [releasePump_frame]
  exact PerCh_get_set_self _ _ _

theorem released_holder (c : Ch) (s : State) : (released c s).man.pump.holder ≠ some c := by
  unfold released releasePump
  split
  · exact nofun
  next h => exact h

/-- The holder of the pump leaves its valves closed and the direction valve at REST (R45). -/
theorem released_valves {c : Ch} {s : State} (h : s.man.pump.holder = some c) :
    (released c s).man.pump.holder = none ∧ (released c s).man.dirValve = .rest ∧
      (c = .level → (released c s).man.jackValves = PerJack.all false) ∧
      ∀ r, c = .room r → (released c s).man.roomValves.get r = false := by
  have held : (modMon (fun m => { m with resv := m.resv.set c none }) (jobStopped c s)).man.pump.holder = some c := by
    rw [jobStopped_frame]
    exact h
  unfold released releasePump
  rw [if_pos held]
  refine ⟨rfl, rfl, fun l => ?_, fun r e => ?_⟩
  · simp [modMan, l]
  · subst e
    exact PerRoom_get_set_self _ _ _

/-! ### The entry into the resting state -/

theorem entered_frame (c : Ch) (s : State) :
    entered c s = { released c s with
      chans := (modChan c restRec (released c s)).chans, link := (entered c s).link
      mon := (entered c s).mon, sup := (entered c s).sup } := by
  unfold entered
  extract_lets t
  have k : t = { released c s with
      chans := (modChan c restRec (released c s)).chans, link := t.link, mon := t.mon, sup := t.sup } := by
    simp only [t]
    rw [signal_frame]
    rfl
  clear_value t
  split
  · rw [entersIdle_frame, k]
  · exact k

theorem outside_entered (c : Ch) (s : State) : outside (entered c s) = outside (modChan c restRec (released c s)) := by
  unfold entered
  split
  · rw [outside_of_scope (scope_entersIdle c _), outside_of_scope (scope_signal _ _)]
  · rw [outside_of_scope (scope_signal _ _)]

theorem chanOf_entered (c : Ch) (s : State) : chanOf (entered c s) c = restRec (chanOf s c) := by
  rw [chanOf_of_outside (outside_entered c s), chanOf_modChan_self, chanOf_released]

theorem queue_entered (c : Ch) (s : State) : (entered c s).sup.queue = s.sup.queue := by
  rw [queue_of_outside (outside_entered c s)]
  have q : (released c s).sup.queue = s.sup.queue := by
    unfold released
    rw [releasePump_frame, jobStopped_frame]
    rfl
  exact q

theorem taken_entered (c : Ch) (s : State) : taken (entered c s) = taken (released c s) :=
  (taken_of_outside (outside_entered c s)).trans rfl

theorem owed_entersIdle (c : Ch) (s : State) : (entersIdle c s).sup.owed = s.sup.owed := by
  have examined : (examineLatchesOf c s).sup.owed = s.sup.owed := congrArg Owned.owed (owned_examineLatchesOf c s)
  unfold entersIdle
  extract_lets s1
  split <;> exact examined

theorem owed_entered (c : Ch) (s : State) : (entered c s).sup.owed = s.sup.owed := by
  have before : (signal (.chan c) (modChan c restRec (released c s))).sup.owed = s.sup.owed := by
    rw [signal_frame]
    unfold released
    rw [releasePump_frame, jobStopped_frame]
    rfl
  unfold entered
  extract_lets t
  split
  · exact (owed_entersIdle c t).trans before
  · exact before

theorem restRec_cases (q : ChanRec) :
    (∀ f w, q.last = some ⟨.abnormal f, w⟩ → (restRec q).state = .faulted ∧ (restRec q).fault = some f) ∧
      ((¬ ∃ f w, q.last = some ⟨.abnormal f, w⟩) → (restRec q).state = .idle ∧ (restRec q).fault = none) := by
  obtain ⟨f, w, h, e⟩ | ⟨n, e⟩ := restingState_cases q
  · refine ⟨fun f' w' h' => ?_, fun n => absurd ⟨f, w, h⟩ n⟩
    obtain ⟨rfl, -⟩ : f = f' ∧ w = w' := by simpa [h] using h'
    exact ⟨congrArg Prod.fst e, congrArg Prod.snd e⟩
  · exact ⟨fun f w h => absurd ⟨f, w, h⟩ n, fun _ => ⟨congrArg Prod.fst e, congrArg Prod.snd e⟩⟩

theorem atRest_entered (c : Ch) (s : State) : AtRest (entered c s) c := by
  rw [AtRest, chanOf_entered]
  by_cases h : ∃ f w, (chanOf s c).last = some ⟨.abnormal f, w⟩
  · obtain ⟨f, w, h⟩ := h
    simp [((restRec_cases (chanOf s c)).1 f w h).1]
  · simp [((restRec_cases (chanOf s c)).2 h).1]

/-! ### What settling leaves of it -/

/-- The state in which the end of STOPPING settles: a scan is due. -/
def settling (t : State) : State := settle (modSup (fun u => { u with scanDue := true }) t)

/-- The end of STOPPING after its settling: a snapshot is asked for at rest. -/
theorem stoppingEnd_keeps {β : Type} (p : State → β) (hp : ∀ t, p (requestSnapshot t) = p t) (c : Ch) (s : State) :
    p (stoppingEnd c s) = p (settling (takeDeferred c (entered c s))) := by
  rw [stoppingEnd_eq]
  extract_lets t
  split
  · exact hp t
  · rfl

theorem takeDeferred_none {c : Ch} {s : State} (h : (chanOf s c).deferred = none) : takeDeferred c s = s := by
  unfold takeDeferred
  rw [h]

/-- A channel at rest with nothing to take stays as it is through the settling. -/
theorem rested_settling {c : Ch} {t : State} (rest : AtRest t c) (quiet : noRequest t c) (resv : t.mon.resv.get c = none)
    (holder : t.man.pump.holder ≠ some c) : Rested c t (settling t) := by
  have first : Rested c t (modSup (fun u => { u with scanDue := true }) t) := ⟨.of_owned rfl, resv, holder⟩
  exact (settles_rested rest quiet).settle first

theorem dry_settling {t : State} (h : Dry t) : Dry (settling t) := by
  have first : Dry (modSup (fun u => { u with scanDue := true }) t) := h.of_taken (fun _ => .inl) rfl
  exact settles_dry.settle first

theorem cfg_settling (t : State) : (settling t).store.cfg = t.store.cfg :=
  (of_kept (fun x => x.store.cfg) (fun _ => rfl) (steady_settle _).kept).trans rfl

/-! ### Coast learning (R120, R134) -/

theorem learnEndCoast_entry {r : Room} {e : Side} {s : State} {d : Int} (h : (endOf s r e).driveOff = some d)
    (room : endCoastIdx r e < (s.store.cfg.group .learned).length) :
    (learnEndCoast r e s).store.cfg.endCoast r e =
      Machine.learnCoast 20 (s.store.cfg.endCoast r e) ((endOf s r e).count - d) := by
  simp only [learnEndCoast, h]
  simp [putCfg, modStore, Cfg.endCoast, Cfg.nat, Cfg.entry_put_self _ _ _ _ room]

/-- Learning at one end leaves the other's coast and the ends. -/
theorem learnEndCoast_other {r : Room} {e f : Side} (n : f ≠ e) (s : State) :
    (learnEndCoast r e s).store.cfg.endCoast r f = s.store.cfg.endCoast r f ∧ (learnEndCoast r e s).rooms = s.rooms ∧
      ((learnEndCoast r e s).store.cfg.group .learned).length = (s.store.cfg.group .learned).length := by
  have idx : endCoastIdx r f ≠ endCoastIdx r e := by
    cases e <;> cases f <;> simp_all [endCoastIdx, Side.idx]
  unfold learnEndCoast
  simp only []
  split
  · refine ⟨?_, rfl, ?_⟩
    · simp [putCfg, modStore, Cfg.endCoast, Cfg.nat, Cfg.entry_put_ne _ _ _ _ _ _ (.inr idx)]
    · simp [putCfg, modStore, Cfg.put]
  · exact ⟨rfl, rfl, rfl⟩

/-- The ends' coasts after all of them have learned. -/
theorem learned_coast {r : Room} {e : Side} {s : State} {d : Int} (he : e ∈ roomEnds s r) (h : (endOf s r e).driveOff = some d)
    (room : endCoastIdx r e < (s.store.cfg.group .learned).length) :
    ((roomEnds s r).foldl (fun t e => learnEndCoast r e t) s).store.cfg.endCoast r e =
      Machine.learnCoast 20 (s.store.cfg.endCoast r e) ((endOf s r e).count - d) := by
  have own := learnEndCoast_entry h room
  unfold roomEnds at he ⊢
  split at he
  next twin =>
    rw [if_pos twin]
    simp only [List.foldl_cons, List.foldl_nil]
    cases e with
    | endA => exact (learnEndCoast_other (by decide) _).1.trans own
    | endB =>
      obtain ⟨coast, rooms, length⟩ := learnEndCoast_other (r := r) (e := .endA) (f := .endB) (by decide) s
      have same : endOf (learnEndCoast r .endA s) r .endB = endOf s r .endB := by simp only [endOf, rooms]
      rw [learnEndCoast_entry (by rw [same]; exact h) (by rw [length]; exact room), coast, same]
  next single =>
    rw [if_neg single]
    obtain rfl : e = .endA := by simpa using he
    exact own

theorem learn_rooms (r : Room) (l : List Side) (s : State) : (l.foldl (fun t e => learnEndCoast r e t) s).rooms = s.rooms :=
  foldl_keeps _ State.rooms l (fun t e _ => by
    unfold learnEndCoast
    simp only []
    split <;> rfl) s

theorem endsLearn_iff (s : State) (r : Room) :
    endsLearn s r = true ↔ (roomOf s r).onTarget = true ∧ ∀ e, e ∈ roomEnds s r → (endOf s r e).drove = true := by
  simp [endsLearn]

/-- An electric room at the end of STOPPING: its ends without targets, and the coasts that it has learned. -/
theorem roomStopped_room (r : Room) (s : State) :
    (∀ e, (endOf (roomStopped r s) r e).driveOff = none ∧ (endOf (roomStopped r s) r e).target = none ∧
      (endOf (roomStopped r s) r e).paused = false) ∧ (roomOf (roomStopped r s) r).homeSearch = false := by
  have ends : ∀ (t : State) (e : Side), endOf t r e = (roomOf t r).ends.get e := fun _ _ => rfl
  unfold roomStopped
  simp only [ends, modEnd, roomOf_modRoom_self]
  exact ⟨fun e => by cases e <;> exact ⟨rfl, rfl, rfl⟩, trivial⟩

theorem roomStopped_cfg (r : Room) (s : State) :
    (roomStopped r s).store.cfg =
      (if endsLearn s r then (roomEnds s r).foldl (fun t e => learnEndCoast r e t) s else s).store.cfg := rfl

theorem awningStopped_awn (s : State) :
    (awningStopped s).awn = { s.awn with
      homeSearch := false, target := none, stopPoint := none, driveOff := none, onTarget := false, drove := false,
      switchLate := false } := by
  have same : ∀ t : State, t.awn = s.awn → (modAwn (fun a => { a with
      homeSearch := false, target := none, stopPoint := none, driveOff := none, onTarget := false, drove := false,
      switchLate := false }) t).awn = { s.awn with
        homeSearch := false, target := none, stopPoint := none, driveOff := none, onTarget := false, drove := false,
        switchLate := false } := fun t h => by rw [← h]; rfl
  unfold awningStopped
  refine same _ ?_
  split
  · split <;> rfl
  · rfl

theorem awningStopped_cfg (s : State) :
    (∀ d, s.awn.onTarget = true → s.awn.drove = true → s.awn.driveOff = some d → 21 < (s.store.cfg.group .learned).length →
      (awningStopped s).store.cfg.awningCoast = Machine.learnCoast 30 s.store.cfg.awningCoast (s.awn.count - d)) ∧
    (¬ (s.awn.onTarget = true ∧ s.awn.drove = true) ∨ s.awn.driveOff = none → (awningStopped s).store.cfg = s.store.cfg) := by
  refine ⟨fun d target drove off room => ?_, fun h => ?_⟩
  · simp [awningStopped, off, target, drove, modAwn, putCfg, modStore, Cfg.awningCoast, Cfg.nat, Cfg.entry_put_self _ _ _ _ room]
  · unfold awningStopped
    split
    next d off =>
      rw [if_neg (h.resolve_right (by simp [off]))]
      rfl
    next => rfl

/-! ### The end of STOPPING with nothing to take -/

/-- Everything that the ending leaves of the channel, through the settling. -/
theorem rested_entered {s : State} {c : Ch} (quiet : c = .awning → s.sup.owed = none ∨ (restRec (chanOf s c)).state = .faulted) :
    Rested c (entered c s) (settling (entered c s)) := by
  have resv : (entered c s).mon.resv = (released c s).mon.resv := congrArg Taken.resv (taken_entered c s)
  have holder : (entered c s).man.pump.holder = (released c s).man.pump.holder := congrArg Taken.holder (taken_entered c s)
  refine rested_settling (atRest_entered c s) ?_ (by rw [resv]; exact released_resv c s) (by rw [holder]; exact released_holder c s)
  rw [noRequest, owed_entered, chanOf_entered]
  exact quiet

theorem stoppingEnd_plain {s : State} {c : Ch} (deferred : (chanOf s c).deferred = none) {β : Type} (p : State → β)
    (hp : ∀ t, p (requestSnapshot t) = p t) : p (stoppingEnd c s) = p (settling (entered c s)) := by
  have noStart : (chanOf (entered c s) c).deferred = none := by
    rw [chanOf_entered]
    exact deferred
  rw [stoppingEnd_keeps p hp, takeDeferred_none noStart]

theorem exec_stoppingEnd (c : Ch) (s : State) :
    exec (.stoppingEnd c) s = .next (onDue (stoppingDue s c) (stoppingEnd c) s) := rfl

end Sys2Proof.Machine
end

section
/-! PROOF. The end of STOPPING (O36), continued: the deferred start and the owed retract of AWNING, and the obligation. -/

namespace Sys2Proof.Machine

/-! ### What lets the retract start -/

/-- An AUTOMATIC retract of AWNING passes the checks of R4 that do not read its channel. -/
structure Ready (s : State) : Prop where
  here : s.present .awning = true
  free : allStopActive s = false
  run : s.power.state = .run
  row : firstUnsat s .awning .awningIn true = none

theorem Ready.of_kept {s t : State} (h : Ready s) (k : kept t = kept s) : Ready t where
  here := (Machine.of_kept (fun x => x.present .awning) (fun _ => rfl) k).trans h.here
  free := (allStopActive_congr (Machine.of_kept (fun x => x.store.cfg) (fun _ => rfl) k)
    (Machine.of_kept State.term (fun _ => rfl) k)).trans h.free
  run := (Machine.of_kept (fun x => x.power.state) (fun _ => rfl) k).trans h.run
  row := row_of_kept k h.row

theorem kept_entered (c : Ch) (s : State) : kept (entered c s) = kept (jobStopped c s) := by
  have release : ∀ t : State, kept (releasePump c t) = kept t := fun t => by
    unfold releasePump
    split <;> rfl
  have out := (Steady.of_outside (outside_entered c s)).kept
  have unreserved : kept (modMon (fun m => { m with resv := m.resv.set c none }) (jobStopped c s)) = kept (jobStopped c s) := rfl
  exact out.trans ((release _).trans unreserved)

/-- What the awning unit learns is read by none of the checks. -/
theorem Ready.entered {s : State} (h : Ready s) : Ready (entered .awning s) := by
  have learned : ∀ (v : Int), Ready (putCfg .learned 21 v s) := fun v => ⟨h.here, h.free, h.run, h.row⟩
  have stopped : Ready (jobStopped .awning s) := by
    have cleared : ∀ {f : AwnRec → AwnRec} {t : State}, Ready t → Ready (modAwn f t) := fun k => k.of_kept rfl
    simp only [jobStopped, awningStopped]
    refine cleared ?_
    split
    · split
      · exact learned _
      · exact h
    · exact h
  exact stopped.of_kept (kept_entered .awning s)

/-- An accepted retract waits, with nothing owed. -/
theorem retracting_accepted {s : State} (h : Ready s) (cause : AutoCause) (deferred : (chanOf s .awning).deferred = none) :
    Retracting cause (modSup (fun u => { u with owed := none }) (accept .awning .autoRetract false 0 .automatic (some cause) s)) := by
  have record := chanOf_accept_self .awning .autoRetract false 0 .automatic (some cause) s
  have row : firstUnsat (accept .awning .autoRetract false 0 .automatic (some cause) s) .awning .awningIn true = none := by
    rw [firstUnsat_autoRetract (s := s) (by rw [accept_frame]) (by rw [accept_frame])]
    exact h.row
  generalize accept .awning .autoRetract false 0 .automatic (some cause) s = t at record row ⊢
  have same : chanOf (modSup (fun u => { u with owed := none }) t) .awning = chanOf t .awning := rfl
  refine ⟨?_, ?_, ?_, ?_, .inl ?_, rfl, row⟩
  · rw [same, record]
    rfl
  · rw [same, record]
    rfl
  · rw [same, record]
    rfl
  · rw [same, record]
    exact deferred
  · rw [same, record]
    rfl

theorem retracting_settling {cause : AutoCause} {t : State} (h : Retracting cause t) : Retracting cause (settling t) := by
  have first : Retracting cause (modSup (fun u => { u with scanDue := true }) t) :=
    h.of_record rfl rfl rfl rfl rfl h.active h.owed
  exact (settles_retracting cause).settle first

/-! ### The deferred start -/

/-- The deferred start leaves the record of AWNING. -/
def startTaken (s : State) : State := modChan .awning (fun q => { q with deferred := none }) s

theorem takeDeferred_retract {s : State} {cause : AutoCause} (n : cause ≠ .wind)
    (h : (chanOf s .awning).deferred = some ⟨.autoRetract, some cause⟩) :
    takeDeferred .awning s = afterRetract cause (startTaken s) := by
  unfold takeDeferred
  rw [h]
  cases cause with
  | wind => exact absurd rfl n
  | driveAway | ignition => rfl

theorem takeDeferred_wind {s t : State} (h : (chanOf s .awning).deferred = some ⟨.autoRetract, some .wind⟩)
    (start : retractStart .wind (startTaken s) = (.accepted, t)) :
    takeDeferred .awning s = modSup (fun u => { u with owed := none }) t := by
  unfold takeDeferred
  rw [h]
  have p : startMotion .awning .autoRetract false 0 .automatic (some .wind)
      (modChan .awning (fun q => { q with deferred := none }) s) = (.accepted, t) := start
  simp only [p, if_true]

theorem chanOf_startTaken (s : State) : chanOf (startTaken s) .awning = { chanOf s .awning with deferred := none } :=
  chanOf_modChan_self .awning _ s

theorem deferred_accepted {s : State} {cause : AutoCause} (ready : Ready s) (idle : (chanOf s .awning).state = .idle)
    (h : (chanOf s .awning).deferred = some ⟨.autoRetract, some cause⟩) : Retracting cause (takeDeferred .awning s) := by
  have ready1 : Ready (startTaken s) := ready.of_kept rfl
  have self := chanOf_startTaken s
  have start : retractStart cause (startTaken s) =
      (.accepted, accept .awning .autoRetract false 0 .automatic (some cause) (startTaken s)) := by
    rw [retractStart_idle cause ready1.here ready1.free ready1.run (by rw [self]; exact idle), ready1.row]
  have taken : takeDeferred .awning s =
      modSup (fun u => { u with owed := none }) (accept .awning .autoRetract false 0 .automatic (some cause) (startTaken s)) := by
    by_cases w : cause = .wind
    · subst w
      exact takeDeferred_wind h start
    · rw [takeDeferred_retract w h, afterRetract_of start]
      rfl
  rw [taken]
  exact retracting_accepted ready1 cause (by rw [self])

/-- A retract that finds AWNING FAULTED is owed again. -/
theorem retractStart_faulted {s : State} (cause : AutoCause) (here : s.present .awning = true)
    (faulted : (chanOf s .awning).state = .faulted) :
    afterRetract cause s = modSup (fun u => { u with owed := some cause }) s := by
  by_cases held : allStopActive s = true ∨ s.power.state ≠ .run
  · exact afterRetract_held cause here held
  · obtain ⟨free, run⟩ := not_heldBack held
    exact afterRetract_of (v := .refused .faulted none) (by simp [retractStart, startMotion, run, here, free, faulted])

/-! ### The owed retract -/

theorem owedDue_entersIdle {t : State} (here : t.present .awning = true) (out : t.awn.status ≠ .pin)
    (owed : t.sup.owed ≠ none) : (entersIdle .awning t).sup.owedDue = true := by
  have part := outside_of_scope (scope_examineLatchesOf .awning t)
  have same := owned_examineLatchesOf .awning t
  have awn : (examineLatchesOf .awning t).awn = t.awn := congrArg Owned.awn same
  have owed1 : (examineLatchesOf .awning t).sup.owed = t.sup.owed := congrArg Owned.owed same
  unfold entersIdle
  extract_lets s1
  have k : s1.present .awning = true ∧ s1.awn.status ≠ .pin ∧ s1.sup.owed ≠ none := by
    simp only [s1, present_of_outside part, awn, owed1]
    exact ⟨here, out, owed⟩
  rw [if_pos ⟨rfl, k⟩]
  rfl

theorem owedDue_entered {s : State} (here : s.present .awning = true) (out : s.awn.status ≠ .pin)
    (owed : s.sup.owed ≠ none) (idle : (restRec (chanOf s .awning)).state = .idle) : (entered .awning s).sup.owedDue = true := by
  have rest : (restingState (chanOf s .awning)).1 = .idle := idle
  have present : (jobStopped .awning s).present = s.present := congrArg View.present (view_jobStopped .awning s)
  have status : (jobStopped .awning s).awn.status = s.awn.status := by
    simp only [jobStopped, awningStopped_awn]
  have sup : (jobStopped .awning s).sup = s.sup := by rw [jobStopped_frame]
  unfold entered
  rw [if_pos rest, signal_frame]
  unfold released
  rw [releasePump_frame]
  generalize jobStopped .awning s = t at present status sup ⊢
  refine owedDue_entersIdle ((congrFun present .awning).trans here) ?_ ?_
  · exact fun e => out (status.symm.trans e)
  · have same : t.sup.owed = s.sup.owed := by rw [sup]
    exact fun e => owed (same.symm.trans e)

theorem settleRounds_succ {n : Nat} {s : State} (h : settled s = false) :
    settleRounds (n + 1) s = settleRounds n (settleRound s) := by
  rw [settleRounds, h]
  rfl

/-- The owed request of an IDLE awning, made and accepted. -/
theorem requestOwed_accepted {s : State} {cause : AutoCause} (ready : Ready s) (idle : (chanOf s .awning).state = .idle)
    (deferred : (chanOf s .awning).deferred = none) (out : s.awn.status ≠ .pin) (owed : s.sup.owed = some cause) :
    Retracting cause (requestOwed s) := by
  have ready1 : Ready (dueTaken s) := ready.of_kept rfl
  have idle1 : (chanOf (dueTaken s) .awning).state = .idle := idle
  have out1 : (dueTaken s).awn.status ≠ .pin := out
  have start : retractStart cause (dueTaken s) =
      (.accepted, accept .awning .autoRetract false 0 .automatic (some cause) (dueTaken s)) := by
    rw [retractStart_idle cause ready1.here ready1.free ready1.run idle1, ready1.row]
  rw [requestOwed_some owed, protective_of_rest cause ready1.here out1 (.inl idle1), afterRetract_of start]
  exact retracting_accepted ready1 cause deferred

theorem settleRound_owed {s : State} {cause : AutoCause} (due : (sweep s).sup.owedDue = true)
    (request : Retracting cause (requestOwed (sweep s))) : Retracting cause (settleRound s) := by
  unfold settleRound
  extract_lets s1 s2
  have made : s2 = requestOwed (sweep s) := if_pos due
  rw [made]
  split
  · exact (settles_retracting cause).scan request
  · exact request

/-- The first round of the settling makes the owed request, and it is accepted. -/
theorem owed_accepted {t : State} {cause : AutoCause} (ready : Ready t) (idle : (chanOf t .awning).state = .idle)
    (deferred : (chanOf t .awning).deferred = none) (out : t.awn.status ≠ .pin) (owed : t.sup.owed = some cause)
    (due : t.sup.owedDue = true) : Retracting cause (settling t) := by
  obtain ⟨u, hu⟩ : ∃ u, u = modSup (fun u => { u with scanDue := true }) t := ⟨_, rfl⟩
  have entry : Leaves .awning t u := by
    rw [hu]
    exact .of_owned rfl
  have kept_u : kept u = kept t := by rw [hu]; rfl
  have due_u : u.sup.owedDue = true := by rw [hu]; exact due
  have rest : AtRest u .awning := entry.atRest (by simp [AtRest, idle])
  have left : Leaves .awning t (sweep u) := entry.trans (leaves_sweep (.inl rest) nofun)
  have ready1 : Ready (sweep u) := ready.of_kept ((ends_sweep u).steady.kept.trans kept_u)
  obtain ⟨awn, owed1⟩ := left.awn rfl
  have request : Retracting cause (requestOwed (sweep u)) :=
    requestOwed_accepted ready1 (by rw [left.chan]; exact idle) (by rw [left.chan]; exact deferred) (by rw [awn]; exact out)
      (owed1.trans owed)
  have round : Retracting cause (settleRound u) :=
    settleRound_owed (left.due rfl (by simp [owed]) (by simp [idle]) due) request
  have unsettled : settled u = false := by simp [settled, due_u]
  rw [settling, ← hu, settle, settleRounds_succ unsettled]
  exact (settles_retracting cause).rounds 39 round

/-! ### The obligation -/

/-- What the job block has left is there after the entry into the resting state. -/
theorem entered_job (c : Ch) (s : State) :
    (entered c s).rooms = (jobStopped c s).rooms ∧ (entered c s).awn = (jobStopped c s).awn ∧
      (entered c s).store.cfg = (jobStopped c s).store.cfg ∧ (entered c s).man = (released c s).man := by
  have job : (released c s).rooms = (jobStopped c s).rooms ∧ (released c s).awn = (jobStopped c s).awn ∧
      (released c s).store = (jobStopped c s).store := by
    unfold released
    rw [releasePump_frame]
    exact ⟨rfl, rfl, rfl⟩
  rw [entered_frame]
  exact ⟨job.1, job.2.1, congrArg Store.cfg job.2.2, rfl⟩

section
variable {s : State} {c : Ch} (deferred : (chanOf s c).deferred = none) (owed : c = .awning → s.sup.owed = none)
include deferred owed

theorem chanOf_stoppingEnd : chanOf (stoppingEnd c s) c = restRec (chanOf s c) := by
  rw [stoppingEnd_plain deferred (fun t => chanOf t c) fun _ => rfl, (rested_entered fun l => .inl (owed l)).leaves.chan,
    chanOf_entered]

theorem stoppingEnd_supply :
    (stoppingEnd c s).mon.resv.get c = none ∧ (stoppingEnd c s).man.pump.holder ≠ some c ∧
      (s.sup.queue = [] → s.man.pump.holder = some c →
        (stoppingEnd c s).man.pump.holder = none ∧ (stoppingEnd c s).man.dirValve = .rest ∧
          (c = .level → ∀ j, valveOpen (stoppingEnd c s) j = false) ∧
            ∀ r, c = .room r → (stoppingEnd c s).man.roomValves.get r = false) := by
  have rested := rested_entered (c := c) fun l => .inl (owed l)
  have mon := stoppingEnd_plain deferred State.mon fun _ => rfl
  have man := stoppingEnd_plain deferred State.man fun _ => rfl
  simp only [valveOpen]
  rw [mon, man]
  refine ⟨rested.resv, rested.holder, fun empty holds => ?_⟩
  obtain ⟨holder, valve, jacks, rooms⟩ := released_valves holds
  have before := (entered_job c s).2.2.2
  have dry : Dry (entered c s) :=
    ⟨fun e he => by simp [queue_entered, empty] at he, by rw [before]; exact holder, by rw [before]; exact valve⟩
  have after := dry_settling dry
  refine ⟨after.holder, after.valve, fun l j => ?_, fun r e => ?_⟩
  · have closed := rested.leaves.jacks l (by rw [before]; exact jacks l)
    rw [closed]
    cases j <;> rfl
  · rw [(rested.leaves.room r e).2, before]
    exact rooms r e

/-- An electric room: what it has learned, and its ends without targets. -/
theorem stoppingEnd_room {r : Room} (e : c = .room r) (kind : kindOf s r ≠ .hydraulic) :
    let u := stoppingEnd c s
    let learns := (roomOf s r).onTarget = true ∧ ∀ e, e ∈ roomEnds s r → (endOf s r e).drove = true
    (∀ e d, learns → e ∈ roomEnds s r → (endOf s r e).driveOff = some d →
      endCoastIdx r e < (s.store.cfg.group .learned).length →
      u.store.cfg.endCoast r e = Machine.learnCoast 20 (s.store.cfg.endCoast r e) ((endOf s r e).count - d)) ∧
    (¬ learns → u.store.cfg = s.store.cfg) ∧
    (∀ e, (endOf u r e).driveOff = none ∧ (endOf u r e).target = none ∧ (endOf u r e).paused = false) ∧
    (roomOf u r).homeSearch = false := by
  subst e
  intro u learns
  have rested := rested_entered (s := s) (c := .room r) fun l => .inl (owed l)
  obtain ⟨rooms, -, cfg, -⟩ := entered_job (.room r) s
  have job : jobStopped (.room r) s = roomStopped r s := if_neg kind
  rw [job] at rooms cfg
  have cfg_u : u.store.cfg = (roomStopped r s).store.cfg :=
    (stoppingEnd_plain deferred (fun t => t.store.cfg) fun _ => rfl).trans ((cfg_settling _).trans cfg)
  have room_u : roomOf u r = roomOf (roomStopped r s) r := by
    rw [stoppingEnd_plain deferred (fun t => roomOf t r) fun _ => rfl, (rested.leaves.room r rfl).1, roomOf, rooms]
    rfl
  have end_u : ∀ e, endOf u r e = endOf (roomStopped r s) r e := fun e => congrArg (fun q : RoomRec => q.ends.get e) room_u
  obtain ⟨ends, search⟩ := roomStopped_room r s
  rw [roomStopped_cfg] at cfg_u
  refine ⟨fun e d l he off room => ?_, fun n => ?_, fun e => ?_, ?_⟩
  · rw [cfg_u, if_pos ((endsLearn_iff s r).2 l)]
    exact learned_coast he off room
  · rw [cfg_u, if_neg fun k => n ((endsLearn_iff s r).1 k)]
  · rw [end_u]
    exact ends e
  · rw [room_u]
    exact search

/-- The awning: what it has learned, and its motion's targets gone. -/
theorem stoppingEnd_awning (e : c = .awning) :
    let u := stoppingEnd c s
    (∀ d, s.awn.onTarget = true → s.awn.drove = true → s.awn.driveOff = some d → 21 < (s.store.cfg.group .learned).length →
      u.store.cfg.awningCoast = Machine.learnCoast 30 s.store.cfg.awningCoast (s.awn.count - d)) ∧
    (¬ (s.awn.onTarget = true ∧ s.awn.drove = true) ∨ s.awn.driveOff = none → u.store.cfg = s.store.cfg) ∧
    u.awn.target = none ∧ u.awn.stopPoint = none ∧ u.awn.driveOff = none ∧ u.awn.homeSearch = false := by
  subst e
  intro u
  have rested := rested_entered (s := s) (c := .awning) fun l => .inl (owed l)
  obtain ⟨-, awn, cfg, -⟩ := entered_job .awning s
  have cfg_u : u.store.cfg = (awningStopped s).store.cfg :=
    (stoppingEnd_plain deferred (fun t => t.store.cfg) fun _ => rfl).trans ((cfg_settling _).trans cfg)
  have awn_u : u.awn = (awningStopped s).awn :=
    (stoppingEnd_plain deferred State.awn fun _ => rfl).trans ((rested.leaves.awn rfl).1.trans awn)
  obtain ⟨learns, keeps⟩ := awningStopped_cfg s
  rw [cfg_u, awn_u, awningStopped_awn]
  exact ⟨learns, keeps, rfl, rfl, rfl, rfl⟩

end

/-- A retract that goes on after the settling is the one that the ending leaves. -/
theorem retracts_of_settled {s : State} {cause : AutoCause}
    (h : Retracting cause (settling (takeDeferred .awning (entered .awning s)))) :
    let u := stoppingEnd .awning s
    (chanOf u .awning).op = some .autoRetract ∧ (chanOf u .awning).owner = some .automatic ∧
      (chanOf u .awning).autoCause = some cause ∧ (chanOf u .awning).deferred = none ∧
      ((chanOf u .awning).state = .pending ∨ runningOrStopping u .awning = true) ∧ u.sup.owed = none := by
  intro u
  have record := stoppingEnd_keeps (fun t => chanOf t .awning) (fun _ => rfl) .awning s
  have sup := stoppingEnd_keeps State.sup (fun _ => rfl) .awning s
  have moves := stoppingEnd_keeps (fun t => runningOrStopping t .awning) (fun _ => rfl) .awning s
  have record_u : chanOf u .awning = _ := record
  have sup_u : u.sup = _ := sup
  have moves_u : runningOrStopping u .awning = _ := moves
  rw [record_u, sup_u, moves_u]
  exact ⟨h.op, h.owner, h.auto, h.deferred, h.active, h.owed⟩

/-- A deferred retract that finds AWNING FAULTED is owed, and AWNING stays FAULTED. -/
theorem stoppingEnd_faulted {s : State} {cause : AutoCause} (here : s.present .awning = true) (n : cause ≠ .wind)
    (h : (chanOf s .awning).deferred = some ⟨.autoRetract, some cause⟩)
    (faulted : (restRec (chanOf s .awning)).state = .faulted) :
    (chanOf (stoppingEnd .awning s) .awning).state = .faulted ∧ (chanOf (stoppingEnd .awning s) .awning).deferred = none ∧
      (stoppingEnd .awning s).sup.owed = some cause := by
  have present : (entered .awning s).present .awning = true := by
    have k : (entered .awning s).present = (jobStopped .awning s).present :=
      of_kept State.present (fun _ => rfl) (kept_entered .awning s)
    have job : (jobStopped .awning s).present = s.present := congrArg View.present (view_jobStopped .awning s)
    rw [k, job]
    exact here
  have taken : takeDeferred .awning (entered .awning s) =
      modSup (fun u => { u with owed := some cause }) (startTaken (entered .awning s)) := by
    rw [takeDeferred_retract n (by rw [chanOf_entered]; exact h)]
    exact retractStart_faulted cause present (by rw [chanOf_startTaken, chanOf_entered]; exact faulted)
  have record : chanOf (takeDeferred .awning (entered .awning s)) .awning =
      { restRec (chanOf s .awning) with deferred := none } := by
    rw [taken, ← chanOf_entered]
    exact chanOf_startTaken (entered .awning s)
  have owed : (takeDeferred .awning (entered .awning s)).sup.owed = some cause := by
    rw [taken]
    rfl
  have resv : (takeDeferred .awning (entered .awning s)).mon.resv.get .awning = none := by
    rw [taken]
    exact (congrArg (fun t : Taken => t.resv.get .awning) (taken_entered .awning s)).trans (released_resv .awning s)
  have holder : (takeDeferred .awning (entered .awning s)).man.pump.holder ≠ some .awning := by
    rw [taken]
    exact fun e => released_holder .awning s ((congrArg Taken.holder (taken_entered .awning s)).symm.trans e)
  have state_u := stoppingEnd_keeps (fun t => chanOf t .awning) (fun _ => rfl) .awning s
  have sup_u := stoppingEnd_keeps State.sup (fun _ => rfl) .awning s
  generalize takeDeferred .awning (entered .awning s) = t at record owed resv holder state_u sup_u
  have faulted_t : (chanOf t .awning).state = .faulted := by rw [record]; exact faulted
  have rested := rested_settling (c := .awning) (t := t) (by simp [AtRest, faulted_t]) (fun _ => .inr faulted_t) resv holder
  rw [state_u, sup_u, rested.leaves.chan, (rested.leaves.awn rfl).2]
  exact ⟨faulted_t, by rw [record], owed⟩

/-- Settles O36: not due, the ending with nothing to take, and AWNING with a deferred start or an owed retract. -/
theorem stoppingEnds : Obligations.StoppingEnds := by
  intro s c live abnormal due
  have runs : due → exec (.stoppingEnd c) s = .next (finish (stoppingEnd c s)) := fun ⟨stops, passed, _⟩ => by
    rw [exec_stoppingEnd, onDue_of_due _ (by simp [stoppingDue, stops, passed]) live]
  obtain ⟨ofAbnormal, ofOther⟩ := restRec_cases (chanOf s c)
  refine ⟨fun early => ?_, fun hdue deferred owed => ⟨_, runs hdue, ?_⟩, fun cause hdue e here => ?_⟩
  · rw [exec_stoppingEnd, onDue_of_not _ early]
  · obtain ⟨resv, holder, valves⟩ := stoppingEnd_supply deferred owed
    rw [chanOf_stoppingEnd deferred owed]
    exact ⟨rfl, rfl, rfl, rfl, rfl, ofAbnormal, ofOther, resv, holder, valves,
      fun r e kind => stoppingEnd_room deferred owed e kind, fun e => stoppingEnd_awning deferred owed e⟩
  · subst e
    refine ⟨fun other run free row => ?_, fun ⟨f, w, last⟩ deferred n => ?_⟩
    · have ready : Ready (entered .awning s) := Ready.entered ⟨here, free, run, row⟩
      have record := chanOf_entered .awning s
      have idle : (restRec (chanOf s .awning)).state = .idle := (ofOther other).1
      have idle1 : (chanOf (entered .awning s) .awning).state = .idle := by rw [record]; exact idle
      refine ⟨fun deferred => ⟨_, runs hdue, ?_⟩, fun deferred owed out => ⟨_, runs hdue, ?_⟩⟩
      · exact retracts_of_settled (retracting_settling (deferred_accepted ready idle1 (by rw [record]; exact deferred)))
      · have deferred1 : (chanOf (entered .awning s) .awning).deferred = none := by rw [record]; exact deferred
        have status : (entered .awning s).awn.status = s.awn.status := by
          rw [(entered_job .awning s).2.1]
          simp only [jobStopped, awningStopped_awn]
        refine retracts_of_settled ?_
        rw [takeDeferred_none deferred1]
        exact owed_accepted ready idle1 deferred1 (by rw [status]; exact out) ((owed_entered .awning s).trans owed)
          (owedDue_entered here out (by simp [owed]) idle)
    · exact ⟨_, runs hdue, stoppingEnd_faulted here n deferred (ofAbnormal f w last).1⟩

end Sys2Proof.Machine
end

section
/-! PROOF. HYDRAULIC rooms (O54): a room's record and the valves after its level is written, the endings of a motion on the jack
pump, the limit terminals and the admission. -/

namespace Sys2Proof.Machine

/-! ### A termination read from an earlier state -/

/-- A termination that a later state has taken is one of the earlier state, where nothing that it names has changed between. -/
theorem stopped_of_same {s z t : State} {c : Ch} {w : Term} (now : z.now = s.now) (cfg : z.store.cfg = s.store.cfg)
    (same : chanOf z c = chanOf s c) (h : z.Stopped t c w) : s.Stopped t c w := by
  have interval : stopInterval z c = stopInterval s c := by
    cases c with
    | room r =>
      have kind : kindOf z r = kindOf s r := congrArg (fun k : Cfg => k.roomKind r) cfg
      simp only [stopInterval, kind]
    | _ => rfl
  simpa only [State.Stopped, same, now, interval] using h

theorem cancelled_of_same {s z t : State} {c : Ch} {d : CancelDetail} (same : chanOf z c = chanOf s c)
    (h : z.Cancelled t c d) : s.Cancelled t c d := by
  simpa only [State.Cancelled, same] using h

/-! ### What writing a room's level leaves -/

theorem roomOf_setRoomStat_self (r : Room) (v : Pos) (c : Conf) (s : State) :
    roomOf (setRoomStat r v c s) r = { roomOf s r with status := v, conf := c } := by
  unfold setRoomStat
  extract_lets q s1
  have written : roomOf s1 r = { roomOf s r with status := v, conf := c } := by
    have e : roomOf s1 r = roomOf (modRoom r (fun q => { q with status := v, conf := c }) s) r := by
      simp only [s1]
      rw [snapshotOnRest_frame]
      exact roomOf_signal _ _ _
    rw [e, roomOf_modRoom_self]
  split
  next same =>
    obtain ⟨rfl, rfl⟩ := same
    rfl
  next =>
    split
    · rw [closeOnRetract_frame]
      exact written
    · exact written

theorem roomOf_setRoomStat_ne {r q : Room} (n : q ≠ r) (v : Pos) (c : Conf) (s : State) :
    roomOf (setRoomStat r v c s) q = roomOf s q :=
  ((leaves_setRoomStat (c := .room q) (by simpa using n) v c s).room q rfl).1

/-- A level that the room has already is not written again. -/
theorem setRoomStat_same (r : Room) (s : State) : setRoomStat r (roomOf s r).status (roomOf s r).conf s = s :=
  if_pos ⟨rfl, rfl⟩

/-! ### The rooms' own valves -/

theorem roomValves_setRoomStat (r : Room) (v : Pos) (c : Conf) (s : State) :
    (setRoomStat r v c s).man.roomValves = s.man.roomValves := by
  unfold setRoomStat
  extract_lets q s1
  have written : s1.man = s.man := by
    simp only [s1]
    rw [snapshotOnRest_frame, signal_frame]
    rfl
  split
  · rfl
  · split
    · rw [closeOnRetract_frame, written]
    · rw [written]

theorem roomValves_roomHome (r : Room) (s : State) : (roomHome r s).man.roomValves = s.man.roomValves :=
  roomValves_setRoomStat r .pin .known _

theorem roomValves_pumpOffAndReport (c : Ch) (s : State) : (pumpOffAndReport c s).man.roomValves = s.man.roomValves :=
  congrArg Owned.roomValves (owned_pumpOffAndReport c s)

theorem roomValves_setAwnStat (v : Pos) (c : Conf) (s : State) : (setAwnStat v c s).man.roomValves = s.man.roomValves := by
  rw [setAwnStat_frame]

theorem roomValves_awnHome (s : State) : (awnHome s).man.roomValves = s.man.roomValves := roomValves_setAwnStat .pin .known _

theorem roomValves_endWrite (c : Ch) (t : Term) (s : State) : (endWrite c t s).man.roomValves = s.man.roomValves := by
  cases c with
  | level => exact congrArg Owned.roomValves (owned_setLevelStatus _ s)
  | room r =>
    simp only [endWrite, electricEnd, apply_ite (fun x : State => x.man.roomValves), roomValves_setRoomStat,
      roomValves_roomHome, ite_self]
  | awning =>
    simp only [endWrite, awningEnd, apply_ite (fun x : State => x.man.roomValves), roomValves_setAwnStat,
      roomValves_awnHome, ite_self]

theorem roomValves_written (c : Ch) (t : Term) (s : State) : (written c t s).man.roomValves = s.man.roomValves := by
  have off : (jobOff c t (stop c t s)).man.roomValves = s.man.roomValves := by
    cases c with
    | level =>
      simp only [jobOff]
      split <;> rfl
    | room r => rfl
    | awning => rfl
  exact (roomValves_endWrite c t _).trans off

theorem roomValves_roomsInLost (s : State) : (roomsInLost s).man.roomValves = s.man.roomValves := by
  have cancelled : (cancel .level .interlock s).man.roomValves = s.man.roomValves := by
    rw [cancel_frame]
  unfold roomsInLost
  split
  · extract_lets s1
    split
    · exact ((roomValves_pumpOffAndReport .level _).trans (roomValves_written .level _ s1)).trans cancelled
    · exact cancelled
  · rfl

/-- A room's motion that ends leaves its valve to the end of STOPPING (R45). -/
theorem roomValves_terminate_room (r : Room) (t : Term) (s : State) :
    (terminate (.room r) t s).man.roomValves = s.man.roomValves := by
  have late : ∀ u : State, (lateSwitch (.room r) t u).man.roomValves = u.man.roomValves := fun u => by
    simp only [lateSwitch]
    split
    · rw [roomValves_roomHome]
      split
      · exact roomValves_roomsInLost u
      · rfl
    · rfl
  by_cases run : isRunning s (.room r) = true
  · rw [terminate_of_running t run, roomValves_pumpOffAndReport, late, roomValves_written]
  · rw [terminate_of_not_running (.room r) t s (by simpa using run)]

/-! ### The end of travel (R54, R55) -/

/-- A HYDRAULIC room's motion that ends at the pump with a level of its own. -/
theorem hydraulic_ends {r : Room} {s : State} (t : Term) (v : Pos) (k : State → Conf) (run : isRunning s (.room r) = true)
    (kind : kindOf s r = .hydraulic) (holds : s.man.pump.holder = some (.room r)) :
    let u := terminateWith (.room r) t (fun x => setRoomStat r v (k x) x) s
    s.Stopped u (.room r) t ∧ (roomOf u r).status = v ∧
      (roomOf u r).conf = k (jobOff (.room r) t (stop (.room r) t s)) ∧ u.man.pump.on = false ∧
      (∀ x, x ≠ .room r → chanOf u x = chanOf s x) ∧ ∀ x, x ≠ r → roomOf u x = roomOf s x := by
  intro u
  obtain ⟨w, hw⟩ : ∃ w, w = setRoomStat r v (k (jobOff (.room r) t (stop (.room r) t s)))
      (jobOff (.room r) t (stop (.room r) t s)) := ⟨_, rfl⟩
  have out : outside w = outside (stop (.room r) t s) := by
    rw [hw]
    exact outside_of_scope ((scope_setRoomStat _ _ _ _).trans (scope_jobOff _ _ _))
  have kind' : kindOf w r = .hydraulic := (of_outside (fun x => kindOf x r) (fun _ => rfl) out).trans kind
  have e : u = pumpOffAndReport (.room r) w := by
    have late := lateSwitch_room_not r t w fun h => h.1 kind'
    rw [← late, hw]
    exact if_pos run
  have out' : outside u = outside (stop (.room r) t s) := by
    rw [e]
    exact (outside_of_scope (scope_pumpOffAndReport _ w)).trans out
  have rooms : u.rooms = w.rooms := by rw [e, pumpOffAndReport_rooms]
  have level := setRoomStat_level r v (k (jobOff (.room r) t (stop (.room r) t s))) (jobOff (.room r) t (stop (.room r) t s))
  rw [← hw] at level
  have pump : u.man.pump.on = false := by
    rw [e]
    exact pumpOffAndReport_pump _ w ((holder_of_outside out).trans holds)
  refine ⟨?_, ?_, ?_, pump, fun x n => ?_, fun x n => ?_⟩
  · rw [State.Stopped, chanOf_of_outside out', chanOf_stop_self]
    exact ⟨rfl, rfl, rfl, rfl⟩
  · rw [roomOf, rooms]
    exact level.1
  · rw [roomOf, rooms]
    exact level.2
  · rw [chanOf_of_outside out']
    exact chanOf_stop_ne _ _ _ _ n
  · have n' : Ch.room x ≠ .room r := by simpa using n
    exact ((leaves_terminateWith n' nofun t _ fun y => leaves_setRoomStat n' v (k y) y).room x rfl).1

/-- The deadhead second of a HYDRAULIC room: OUT or IN, unless the limit terminal of the direction reads inactive. -/
theorem hydraulicArrive_ends {s : State} {r : Room} {o : Op} (due : deadheadDue s r = true)
    (op : (chanOf s (.room r)).op = some o) :
    let u := hydraulicArrive r s
    (if roleAssigned s (limitFor r o) = true ∧ roleActive s (limitFor r o) = false then
      s.Stopped u (.room r) (.abnormal ⟨.obstruction, .none⟩) ∧ (roomOf u r).status = .part
    else
      s.Stopped u (.room r) .normal ∧ (roomOf u r).status = (if o = .retract then .pin else .pout) ∧
        (roomOf u r).conf = .known) ∧
      u.man.pump.on = false ∧ (∀ x, x ≠ .room r → chanOf u x = chanOf s x) ∧ ∀ x, x ≠ r → roomOf u x = roomOf s x := by
  intro u
  simp only [deadheadDue, hydraulic, Bool.and_eq_true, beq_iff_eq] at due
  obtain ⟨⟨⟨⟨-, kind⟩, run⟩, holds⟩, -⟩ := due
  have held : (roleAssigned s (limitFor r o) = true ∧ roleActive s (limitFor r o) = false) ↔
      hydraulicArrive.roomAssignedInactive (limitFor r o) s = true := by
    simp [hydraulicArrive.roomAssignedInactive]
  have e : u = if hydraulicArrive.roomAssignedInactive (limitFor r o) s = true then
      terminateWith (.room r) (.abnormal ⟨.obstruction, .none⟩) (fun t => setRoomStat r .part (roomOf t r).conf t) s
    else terminateWith (.room r) .normal (fun t => setRoomStat r (if o = .retract then .pin else .pout) .known t) s := by
    simp only [u, hydraulicArrive, op, Option.getD_some, Option.some.injEq]
  by_cases short : roleAssigned s (limitFor r o) = true ∧ roleActive s (limitFor r o) = false
  · obtain ⟨stopped, status, -, pump, chans, rooms⟩ :=
      hydraulic_ends (.abnormal ⟨.obstruction, .none⟩) .part (fun t => (roomOf t r).conf) run kind holds
    rw [if_pos short, e, if_pos (held.1 short)]
    exact ⟨⟨stopped, status⟩, pump, chans, rooms⟩
  · obtain ⟨stopped, status, conf, pump, chans, rooms⟩ :=
      hydraulic_ends .normal (if o = .retract then .pin else .pout) (fun _ => .known) run kind holds
    rw [if_neg short, e, if_neg (mt held.2 short)]
    exact ⟨⟨stopped, status, conf⟩, pump, chans, rooms⟩

theorem hydraulicTravel_ends {s : State} {r : Room} (due : travelDue s r = true) :
    let u := fail (.room r) .travelTime .none s
    s.Stopped u (.room r) (.abnormal ⟨.travelTime, .none⟩) ∧
      (s.man.pump.holder = some (.room r) → u.man.pump.on = false) ∧ ∀ x, x ≠ .room r → chanOf u x = chanOf s x := by
  simp only [travelDue, Bool.and_eq_true] at due
  obtain ⟨⟨-, run⟩, -⟩ := due
  obtain ⟨stopped, others, -⟩ := terminate_plain (beq_iff_eq.1 run) (w := .abnormal ⟨.travelTime, .none⟩) (by simp)
  exact ⟨stopped, fun holds => (terminate_pump _ run holds).1, others⟩

/-! ### The limit terminals (R56) -/

/-- The level that a limit terminal's change gives a HYDRAULIC room. -/
def limitLevel (s : State) (r : Room) (out active : Bool) : Pos × Conf :=
  let own : Pos := if out = true then .pout else .pin
  if limitActive s (.outLimit r) = true ∧ limitActive s (.inLimit r) = true then (.unknown, .uncertain)
  else if active = true then (own, .known)
  else (if (roomOf s r).status = own then .part else (roomOf s r).status, (roomOf s r).conf)

theorem limitChange_of_other {s : State} {r : Room} (h : hydraulic s r = false) (out active : Bool) :
    limitChange r out active s = s := by
  simp [limitChange, h]

theorem limitChange_of_hydraulic {s : State} {r : Room} (h : hydraulic s r = true) (out active : Bool) :
    limitChange r out active s = setRoomStat r (limitLevel s r out active).1 (limitLevel s r out active).2 s := by
  unfold limitChange limitLevel
  extract_lets q own
  rw [if_pos h]
  by_cases both : limitActive s (.outLimit r) = true ∧ limitActive s (.inLimit r) = true
  · rw [if_pos both, if_pos (by simp [both])]
  rw [if_neg both, if_neg (by simpa using both)]
  by_cases act : active = true
  · rw [if_pos act, if_pos act]
  rw [if_neg act, if_neg act]
  by_cases left : (roomOf s r).status = own
  · simp only [q, if_pos left]
  · simp only [q, if_neg left]
    exact (setRoomStat_same r s).symm

/-! ### Admission (R52, R53, R56) -/

/-- The room with PART written, unless the limit of its direction is active. -/
def hydraulicLeft (r : Room) (o : Op) (s : State) : State :=
  if limitActive s (limitFor r o) = true then s else setRoomStat r .part (roomOf s r).conf s

theorem scope_hydraulicLeft (r : Room) (o : Op) (s : State) : scope (hydraulicLeft r o s) = scope s := by
  simp only [hydraulicLeft, apply_ite scope, scope_setRoomStat, ite_self]

theorem hydraulicLeft_frame (r : Room) (o : Op) (s : State) :
    (hydraulicLeft r o s).man.roomValves = s.man.roomValves ∧ (hydraulicLeft r o s).mon = s.mon ∧
      (roomOf (hydraulicLeft r o s) r).status = (if limitActive s (limitFor r o) = true then (roomOf s r).status else .part) ∧
      (roomOf (hydraulicLeft r o s) r).conf = (roomOf s r).conf := by
  unfold hydraulicLeft
  split
  · exact ⟨rfl, rfl, rfl, rfl⟩
  · have level := setRoomStat_level r .part (roomOf s r).conf s
    exact ⟨roomValves_setRoomStat _ _ _ s, congrArg Gear.mon (gear_setRoomStat _ _ _ s), level.1, level.2⟩

theorem hydraulicBegin_of_fault {r : Room} {s : State} (o : Op) (fault : s.man.lineFault = true) :
    hydraulicBegin r o s = fail (.room r) .sensor .none (roomsInLost (hydraulicLeft r o s)) := if_pos fault

theorem hydraulicBegin_of_clear {r : Room} {s : State} (o : Op) (clear : s.man.lineFault = false) :
    hydraulicBegin r o s = pumpOnCmd (.room r) (openRoomValve r (hydraulicLeft r o s)) := if_neg (by simp [clear])

/-- A pump-on command that is carried out leaves the pump on. -/
theorem pumpOnCmd_on {c : Ch} {s : State} (obeyed : commands s c = true) (clear : s.mon.latches.pump.isSet = false) :
    (pumpOnCmd c s).man.pump.on = true := by
  unfold pumpOnCmd
  split
  · rfl
  next off => simpa [obeyed, clear] using off

section
variable {s : State} {r : Room} (o : Op) (runs : (chanOf s (.room r)).state = .running)
  (holds : s.man.pump.holder = some (.room r))
include runs holds

/-- With the line-pressure fault flag set the motion ends before it drives, after the loss of ALL_ROOMS_IN (R28, R52). -/
theorem hydraulicBegin_fault (fault : s.man.lineFault = true) :
    let u := hydraulicBegin r o s
    s.Stopped u (.room r) (.abnormal ⟨.sensor, .none⟩) ∧ u.man.roomValves = s.man.roomValves ∧ u.man.pump.on = false ∧
      (limitActive s (limitFor r o) = false → s.present (.room r) = true → chanMotion s .level = some .jackRetract →
        (chanOf s .level).state = .pending → s.Cancelled u .level .interlock) := by
  intro u
  obtain ⟨valves, -, status, -⟩ := hydraulicLeft_frame r o s
  obtain ⟨w, hw⟩ : ∃ w, w = hydraulicLeft r o s := ⟨_, rfl⟩
  rw [← hw] at valves status
  obtain ⟨z, hz⟩ : ∃ z, z = roomsInLost w := ⟨_, rfl⟩
  have e : u = terminate (.room r) (.abnormal ⟨.sensor, .none⟩) z := by
    rw [hz, hw]
    exact hydraulicBegin_of_fault o fault
  have out : outside w = outside s := by rw [hw]; exact outside_of_scope (scope_hydraulicLeft r o s)
  have lost : Ends (roomsInLostEnds w) w z := by rw [hz]; exact ends_roomsInLost w
  have same : chanOf z (.room r) = chanOf s (.room r) := by
    rw [hz, roomsInLost_chans w _ (by simp), chanOf_of_outside out]
  have runs' : (chanOf z (.room r)).state = .running := by rw [same]; exact runs
  have holds' : z.man.pump.holder = some (.room r) := by rw [lost.holder, holder_of_outside out]; exact holds
  obtain ⟨stopped, others, queue, -⟩ := terminate_plain runs' (w := .abnormal ⟨.sensor, .none⟩) (by simp)
  have pump := (terminate_pump (.abnormal ⟨.sensor, .none⟩) (beq_iff_eq.2 runs') holds').1
  have stay := roomValves_terminate_room r (.abnormal ⟨.sensor, .none⟩) z
  rw [← e] at stopped others queue pump stay
  have now : z.now = s.now := lost.now.trans (now_of_outside out)
  have cfg : z.store.cfg = s.store.cfg := lost.cfg.trans (cfg_of_outside out)
  refine ⟨stopped_of_same now cfg same stopped, ?_, pump, fun away here motion waits => ?_⟩
  · rw [stay, hz, roomValves_roomsInLost, valves]
  · have level : chanOf w .level = chanOf s .level := chanOf_of_outside out .level
    have part : (roomOf w r).status = .part := by rw [status, if_neg (by simp [away])]
    have some_out : allRoomsIn w = false :=
      allRoomsIn_of_out (r := r) (by rw [present_of_outside out]; exact here) (by rw [part]; decide)
    have waits' : (chanOf w .level).state = .pending := by rw [level]; exact waits
    have cancels := roomsInLost_of_pending some_out ((chanMotion_level_congr level).trans motion) waits'
    have cancelled := (cancel_pending .interlock waits').1
    rw [← cancels, ← hz] at cancelled
    have kept : w.Cancelled u .level .interlock := by
      rw [State.Cancelled, others .level (by simp), queue]
      exact cancelled
    exact cancelled_of_same level kept

/-- With the flag clear the valve opens and the pump goes on. -/
theorem hydraulicBegin_clear (clear : s.man.lineFault = false) :
    let u := hydraulicBegin r o s
    (roomOf u r).status = (if limitActive s (limitFor r o) = true then (roomOf s r).status else .part) ∧
      (roomOf u r).conf = (roomOf s r).conf ∧ u.man.roomValves = s.man.roomValves.set r true ∧
      (s.mon.latches.pump.isSet = false → u.man.pump.on = true) ∧ u.chans = s.chans := by
  intro u
  obtain ⟨w, hw⟩ : ∃ w, w = hydraulicLeft r o s := ⟨_, rfl⟩
  have out : outside w = outside s := by rw [hw]; exact outside_of_scope (scope_hydraulicLeft r o s)
  obtain ⟨valves, mon, status, conf⟩ := hydraulicLeft_frame r o s
  rw [← hw] at valves mon status conf
  have obeyed : commands w (.room r) = true := by
    simp [commands, isRunning, holder_of_outside out, holds, chanOf_of_outside out, runs]
  have e : u = pumpOnCmd (.room r) (setRoomValve r true w) := by
    have opens : openRoomValve r w = setRoomValve r true w := if_pos obeyed
    rw [← opens, hw]
    exact hydraulicBegin_of_clear o clear
  have on : s.mon.latches.pump.isSet = false → u.man.pump.on = true := fun latch => by
    rw [e]
    exact pumpOnCmd_on obeyed (by rw [← latch, ← mon]; rfl)
  have frame := e.trans (pumpOnCmd_frame (.room r) (setRoomValve r true w))
  refine ⟨?_, ?_, ?_, on, ?_⟩
  · rw [frame]
    exact status
  · rw [frame]
    exact conf
  · rw [frame, ← valves]
    rfl
  · have same := chans_of_outside out
    rw [frame]
    exact same

end

/-- Settles O54: the ends of travel, the limit terminals and the admission. -/
theorem hydraulicRoomsEnd : Obligations.HydraulicRoomsEnd := by
  have limit : ∀ {r : Room} {o : Op}, o = .extend ∨ o = .retract →
      (if o = .retract then InRole.inLimit r else .outLimit r) = limitFor r o := fun h => by rcases h with rfl | rfl <;> rfl
  refine ⟨fun s r o live => ⟨fun early => ?_, fun early => ?_, fun due op way => ?_, fun due => ?_⟩, fun s r out active => ?_,
    fun s r o runs holds way => ?_⟩
  · exact congrArg _ (onDue_of_not (hydraulicArrive r) early)
  · exact congrArg _ (onDue_of_not (fail (.room r) .travelTime .none) early)
  · rw [limit way]
    exact ⟨_, congrArg _ (onDue_of_due (hydraulicArrive r) due live), hydraulicArrive_ends due op⟩
  · exact ⟨_, congrArg _ (onDue_of_due (fail (.room r) .travelTime .none) due live), hydraulicTravel_ends due⟩
  · intro u both own writes
    have change : u = limitChange r out active s := by cases out <;> rfl
    refine ⟨fun other => change.trans (limitChange_of_other other out active), fun here => ?_⟩
    have e := change.trans (limitChange_of_hydraulic here out active)
    have level : writes (limitLevel s r out active).1 (limitLevel s r out active).2 := by
      simp only [writes, e]
      exact setRoomStat_level r _ _ s
    refine ⟨fun b => ?_, fun b act => ?_, fun b act => ?_, ?_, fun x n => ?_, ?_⟩
    · have v : limitLevel s r out active = (.unknown, .uncertain) := if_pos b
      rwa [v] at level
    · have v : limitLevel s r out active = (own, .known) := (if_neg b).trans (if_pos act)
      rwa [v] at level
    · have v : limitLevel s r out active =
          (if (roomOf s r).status = own then .part else (roomOf s r).status, (roomOf s r).conf) :=
        (if_neg b).trans (if_neg (by simp [act]))
      rwa [v] at level
    · rw [e, roomOf_setRoomStat_self]
    · rw [e, roomOf_setRoomStat_ne n]
    · rw [e]
      exact chans_of_outside (outside_of_scope (scope_setRoomStat _ _ _ s))
  · rw [limit way]
    exact ⟨hydraulicBegin_fault o runs holds, hydraulicBegin_clear o runs holds⟩

end Sys2Proof.Machine
end

section
/-! PROOF. The wind retract (O39): a wake, the rooms that give way, and the request in each state of AWNING. -/

namespace Sys2Proof.Machine

/-! ### A wake (R191) -/

/-- The part is in RUN again, with its report and its timers, before an owed retract is requested. -/
def woken (cause : PostureCause) (s : State) : State :=
  let s1 := modPower (fun p => { p with state := .run }) s |> queuePosture cause |> startTelemetryTimer
  if s.power.state = .sleep ∧ s.store.cfg.windFitted then startBinClock s1 else s1

theorem wake_of_run {cause : PostureCause} {s : State} (run : s.power.state = .run) : wake cause s = s := if_pos run

theorem wake_of_rest {cause : PostureCause} {s : State} (rest : s.power.state ≠ .run) :
    wake cause s = match (woken cause s).sup.owed with
      | some c => protectiveRequest c (woken cause s)
      | none => woken cause s := by
  unfold wake
  rw [if_neg rest]
  rfl

theorem woken_frame (cause : PostureCause) (s : State) :
    woken cause s = { s with
      power := { s.power with state := .run }, link := (woken cause s).link
      wind := { s.wind with bin := (woken cause s).wind.bin, binEnd := (woken cause s).wind.binEnd } } := by
  unfold woken
  extract_lets s1
  split <;> rfl

theorem woken_link (cause : PostureCause) (s : State) :
    (woken cause s).link.postureCause = some cause ∧ Source.posture ∈ (woken cause s).link.reports ∧
      Grows s (woken cause s) := by
  have queued : ∀ x : State, Source.posture ∈ (queueSource .posture x).link.reports ∧
      Grows x (queueSource .posture x) := fun x => by
    simp only [queueSource, Grows, modLink_link]
    split
    next m => exact ⟨m, fun _ h => h⟩
    next => exact ⟨by simp, fun _ h => List.mem_append_left _ h⟩
  obtain ⟨joined, grows⟩ := queued (modPower (fun p => { p with state := .run }) s)
  unfold woken
  extract_lets s1
  split <;> exact ⟨rfl, joined, grows⟩

/-- What a wake and the request that it makes leave as they were: all that no motion writes, but for the power state, the link
port and the bin clock. -/
def unwoken (s : State) : State :=
  { kept s with power := { s.power with state := .run }, link := {}, wind := { s.wind with bin := 0, binEnd := none } }

theorem unwoken_of_kept {s t : State} (h : kept t = kept s) : unwoken t = unwoken s := by
  have power : t.power = s.power := of_kept State.power (fun _ => rfl) h
  have wind : t.wind = s.wind := of_kept State.wind (fun _ => rfl) h
  simp only [unwoken, h, power, wind]

/-- What reads the same from a state and from its unwoken part is common to states of one unwoken part. -/
theorem of_unwoken {β : Type} {s t : State} (p : State → β) (hp : ∀ x, p (unwoken x) = p x) (h : unwoken t = unwoken s) :
    p t = p s := by
  rw [← hp t, h, hp s]

theorem unwoken_woken (cause : PostureCause) (s : State) : unwoken (woken cause s) = unwoken s := by
  rw [woken_frame]
  rfl

/-- What a wake leaves of the state. -/
theorem wake_spec (cause : PostureCause) (s : State) :
    unwoken (wake cause s) = unwoken s ∧ (wake cause s).power.state = .run ∧ Grows s (wake cause s) ∧
      (s.power.state ≠ .run → (wake cause s).link.postureCause = some cause ∧
        Source.posture ∈ (wake cause s).link.reports) ∧
      ∀ c, c ≠ .awning → chanOf (wake cause s) c = chanOf s c := by
  by_cases run : s.power.state = .run
  · rw [wake_of_run run]
    exact ⟨rfl, run, .of_link rfl, absurd run, fun _ _ => rfl⟩
  · obtain ⟨named, joined, grows⟩ := woken_link cause s
    have part := unwoken_woken cause s
    have on : (woken cause s).power.state = .run := by rw [woken_frame]
    have chans : ∀ c, chanOf (woken cause s) c = chanOf s c := fun c => by
      rw [woken_frame]
      rfl
    rw [wake_of_rest run]
    split
    next c _ =>
      have keeps := (steady_protectiveRequest c (woken cause s)).kept
      have more := (awningWork_protective c (woken cause s)).grows
      exact ⟨(unwoken_of_kept keeps).trans part,
        (of_kept (fun x => x.power.state) (fun _ => rfl) keeps).trans on, grows.trans more,
        fun _ => ⟨(of_kept (fun x => x.link.postureCause) (fun _ => rfl) keeps).trans named, more _ joined⟩,
        fun d n => (chanOf_protective_ne c _ d n).trans (chans d)⟩
    next => exact ⟨part, on, grows, fun _ => ⟨named, joined⟩, fun d _ => chans d⟩

/-! ### The rooms under the awning (R140) -/

/-- One under-awning room gives way. -/
def giveWay (t : State) (r : Room) : State := endMotion (.room r) .interlock (.aborted .awningConflict) t

theorem underAwning_congr {s t : State} (cfg : t.store.cfg = s.store.cfg) : underAwning t = underAwning s := by
  funext r
  simp only [underAwning, State.present, cfg]

theorem clearRooms_eq (s : State) : clearRooms s = (allRooms.filter (underAwning s)).foldl giveWay s := by
  have rooms : ∀ (l : List Room) (t : State), underAwning t = underAwning s →
      l.foldl (fun t r => if underAwning t r then endMotion (.room r) .interlock (.aborted .awningConflict) t else t) t =
        (l.filter (underAwning s)).foldl giveWay t := fun l => by
    induction l with
    | nil => exact fun _ _ => rfl
    | cons r l ih =>
      intro t same
      rw [List.foldl_cons, same, List.filter_cons]
      split
      · exact ih _ ((underAwning_congr (ends_endMotion _ _ _ t (by simp)).cfg).trans same)
      · exact ih t same
  exact rooms allRooms s rfl

/-- How an under-awning room gives way. -/
def giveWayEnds (s : State) (c : Ch) (x : Ending) : Prop :=
  (∃ r, c = .room r ∧ underAwning s r = true) ∧ (x = .cancelled .interlock ∨ x = .term (.aborted .awningConflict))

theorem ends_clearRooms (s : State) : Ends (giveWayEnds s) s (clearRooms s) := by
  rw [clearRooms_eq]
  refine Ends.foldl _ _ (fun t r hr => ?_) s
  refine (ends_endMotion (.room r) .interlock (.aborted .awningConflict) t (by simp)).mono ?_
  rintro c x ⟨rfl, hx⟩
  exact ⟨⟨r, rfl, (List.mem_filter.1 hr).2⟩, hx⟩

theorem atRest_clearRooms {s : State} {r : Room} (under : underAwning s r = true) : AtRest (clearRooms s) (.room r) := by
  rw [clearRooms_eq]
  exact foldl_atRest (p := fun _ _ => True) giveWay Ch.room
    (fun t q => (ends_endMotion (.room q) .interlock (.aborted .awningConflict) t (by simp)).mono fun _ _ _ => trivial)
    (fun t q => atRest_endMotion (.room q) _ _ t) _ s r (List.mem_filter.2 ⟨by cases r <;> decide, under⟩)

theorem grows_endMotion (c : Ch) (d : CancelDetail) {t : Term} (n : t ≠ .normal) (s : State) : Grows s (endMotion c d t s) :=
  (grows_cancel c d s).trans (grows_terminate _ n)

theorem grows_foldl {α : Type} (f : State → α → State) (h : ∀ t a, Grows t (f t a)) (l : List α) (s : State) :
    Grows s (l.foldl f s) := by
  induction l generalizing s with
  | nil => exact .of_link rfl
  | cons a l ih => exact (h s a).trans (ih (f s a))

theorem grows_clearRooms (s : State) : Grows s (clearRooms s) := by
  rw [clearRooms_eq]
  exact grows_foldl _ (fun t r => grows_endMotion (.room r) .interlock (by simp) t) _ s

theorem leaves_clearRooms (s : State) : Leaves .awning s (clearRooms s) := by
  rw [clearRooms_eq]
  exact .foldl giveWay _ (fun t r _ => leaves_endMotion (c := .awning) (d := .room r) (by simp) nofun _ _) s

/-- Every under-awning room has given way, no other room and not LEVEL, and nothing is owed; `s` is the state before. -/
def givesWay (s u : State) : Prop :=
  (∀ r, underAwning s r = true →
    ((chanOf s (.room r)).state = .running → s.Stopped u (.room r) (.aborted .awningConflict)) ∧
    ((chanOf s (.room r)).state = .pending → s.Cancelled u (.room r) .interlock) ∧
    ((chanOf s (.room r)).state ≠ .running → (chanOf s (.room r)).state ≠ .pending →
      chanOf u (.room r) = chanOf s (.room r))) ∧
  (∀ r, underAwning s r = false → chanOf u (.room r) = chanOf s (.room r)) ∧
  chanOf u .level = chanOf s .level ∧ u.sup.owed = none

/-- The rooms of an earlier state that had the same records give way likewise. -/
theorem givesWay_of_same {s z u : State} (now : z.now = s.now) (cfg : z.store.cfg = s.store.cfg)
    (same : ∀ c, c ≠ .awning → chanOf z c = chanOf s c) (h : givesWay z u) : givesWay s u := by
  obtain ⟨under, others, level, owed⟩ := h
  rw [underAwning_congr cfg] at under others
  have room : ∀ r, chanOf z (.room r) = chanOf s (.room r) := fun r => same _ (by simp)
  refine ⟨fun r hr => ?_, fun r hr => (others r hr).trans (room r), level.trans (same _ (by simp)), owed⟩
  obtain ⟨runs, waits, rests⟩ := under r hr
  rw [room r] at runs waits rests
  exact ⟨fun k => stopped_of_same now cfg (room r) (runs k), fun k => cancelled_of_same (room r) (waits k), rests⟩

theorem clearRooms_givesWay {s : State} (owed : s.sup.owed = none) : givesWay s (clearRooms s) := by
  have ends := ends_clearRooms s
  refine ⟨fun r under => ?_, fun r away => ?_, ?_, ((leaves_clearRooms s).awn rfl).2.trans owed⟩
  · have rest := atRest_clearRooms under
    obtain same | ⟨x, ⟨-, hx⟩, st, record⟩ := ends.each (.room r)
    · rw [AtRest, same] at rest
      exact ⟨fun k => absurd k rest.2, fun k => absurd k rest.1, fun _ _ => same⟩
    · rcases hx with rfl | rfl
      · have waits : (chanOf s (.room r)).state = .pending := st
        exact ⟨fun k => by simp [waits] at k, fun k => ends.cancelled k record, fun _ k => absurd waits k⟩
      · have runs : (chanOf s (.room r)).state = .running := st
        refine ⟨fun _ => ?_, fun k => by simp [runs] at k, fun k => absurd runs k⟩
        rw [State.Stopped, record]
        exact ⟨rfl, rfl, rfl, rfl⟩
  · refine ends.other (.room r) fun x ⟨⟨q, e, under⟩, _⟩ => ?_
    obtain rfl : r = q := by simpa using e
    simp [away] at under
  · exact ends.other .level fun x ⟨⟨q, e, _⟩, _⟩ => by simp at e

/-! ### The request (R139) -/

/-- What a request does with the answer to its START (R36, R139, R140). -/
def windAnswer (p : Verdict × State) : State :=
  match p.1 with
  | .accepted => clearRooms (modSup (fun u => { u with owed := none }) p.2)
  | .deferred => clearRooms (modSup (fun u => { u with owed := none }) p.2)
  | .already => clearRooms (modSup (fun u => { u with owed := none }) (rewriteCause p.2))
  | _ => p.2

theorem windRequest_of_stop {s : State} (held : allStopActive s = true) : windRequest s = s := if_pos held

theorem windRequest_of_free {s : State} (free : allStopActive s = false) :
    windRequest s = windAnswer (retractStart .wind
      (if ((chanOf s .awning).state = .pending ∨ (chanOf s .awning).state = .running) ∧
          (chanOf s .awning).op = some .extend then
        endMotion .awning .interlock (.aborted (.item .wind)) s else s)) := by
  unfold windRequest
  extract_lets q active s1 p
  have first : s1 = if ((chanOf s .awning).state = .pending ∨ (chanOf s .awning).state = .running) ∧
      (chanOf s .awning).op = some .extend then endMotion .awning .interlock (.aborted (.item .wind)) s else s := by
    simp [s1, active, q]
  rw [if_neg (by simp [free]), ← first]
  rfl

/-- The work of a wind request beside the endings of rooms. -/
theorem steady_windAnswer (s : State) : Steady s (windAnswer (retractStart .wind s)) ∧
    Grows s (windAnswer (retractStart .wind s)) := by
  have started : Steady s (retractStart .wind s).2 := steady_startMotion _ _ _ _ _ _ s (by simp)
  have grows := (awningWork_retractStart .wind s).grows
  have cleared : ∀ t : State, Steady t (clearRooms (modSup (fun u => { u with owed := none }) t)) ∧
      Grows t (clearRooms (modSup (fun u => { u with owed := none }) t)) := fun t =>
    ⟨(steady_owed none t).trans (ends_clearRooms _).steady,
      (Grows.of_link (t := modSup (fun u => { u with owed := none }) t) rfl).trans (grows_clearRooms _)⟩
  have rewritten : ∀ t : State, Steady t (rewriteCause t) ∧ Grows t (rewriteCause t) := fun t =>
    ⟨((steady_modChan_same .awning (fun q => { q with autoCause := some .wind }) t fun _ => rfl).trans (.of_scope rfl)).trans
        (.of_scope (scope_signal (.chan .awning) _)),
      (Grows.of_link (t := modAwn (fun a => { a with lastAuto := some .wind }) (modChan .awning _ t)) rfl).trans
        (grows_signal (.chan .awning) _)⟩
  unfold windAnswer
  split
  · exact ⟨started.trans (cleared _).1, grows.trans (cleared _).2⟩
  · exact ⟨started.trans (cleared _).1, grows.trans (cleared _).2⟩
  · exact ⟨(started.trans (rewritten _).1).trans (cleared _).1, (grows.trans (rewritten _).2).trans (cleared _).2⟩
  · exact ⟨started, grows⟩

theorem steady_windRequest (s : State) : kept (windRequest s) = kept s ∧ Grows s (windRequest s) := by
  cases free : allStopActive s with
  | true =>
    rw [windRequest_of_stop free]
    exact ⟨rfl, .of_link rfl⟩
  | false =>
    rw [windRequest_of_free free]
    split
    · have ended := (ends_endMotion .awning .interlock (.aborted (.item .wind)) s (by simp)).steady
      have grows := grows_endMotion .awning .interlock (t := .aborted (.item .wind)) (by simp) s
      obtain ⟨steady, more⟩ := steady_windAnswer (endMotion .awning .interlock (.aborted (.item .wind)) s)
      exact ⟨(ended.trans steady).kept, grows.trans more⟩
    · obtain ⟨steady, more⟩ := steady_windAnswer s
      exact ⟨steady.kept, more⟩

/-- AWNING waits in the queue with the wind retract, and the rooms have given way; `s` is the state before. -/
def waitsForWind (s u : State) : Prop :=
  (chanOf u .awning).state = .pending ∧ (chanOf u .awning).op = some .autoRetract ∧
    (chanOf u .awning).owner = some .automatic ∧ (chanOf u .awning).autoCause = some .wind ∧
    Ch.awning ∈ u.sup.queue.map QEntry.ch ∧ givesWay s u

/-- A START that has been taken or kept, with the rooms that give way to it. -/
theorem windAnswer_cleared {s t : State} (now : t.now = s.now) (cfg : t.store.cfg = s.store.cfg)
    (same : ∀ c, c ≠ .awning → chanOf t c = chanOf s c) :
    let u := clearRooms (modSup (fun v => { v with owed := none }) t)
    chanOf u .awning = chanOf t .awning ∧ u.awn = t.awn ∧ givesWay s u ∧ Grows t u ∧
      (Ch.awning ∈ t.sup.queue.map QEntry.ch → Ch.awning ∈ u.sup.queue.map QEntry.ch) := by
  intro u
  obtain ⟨z, hz⟩ : ∃ z, z = modSup (fun v => { v with owed := none }) t := ⟨_, rfl⟩
  have e : u = clearRooms z := by rw [hz]
  have cleared : (z.now = t.now ∧ z.store.cfg = t.store.cfg ∧ ∀ c, chanOf z c = chanOf t c) ∧
      z.awn = t.awn ∧ z.link = t.link ∧ z.sup.owed = none ∧ z.sup.queue = t.sup.queue := by
    rw [hz]
    exact ⟨⟨rfl, rfl, fun _ => rfl⟩, rfl, rfl, rfl, rfl⟩
  obtain ⟨⟨now', cfg', chans⟩, awn, link, owed, queue⟩ := cleared
  have leaves := leaves_clearRooms z
  have ends := ends_clearRooms z
  have gives : givesWay s (clearRooms z) := givesWay_of_same (now'.trans now) (cfg'.trans cfg)
    (fun c n => (chans c).trans (same c n)) (clearRooms_givesWay owed)
  rw [e]
  refine ⟨leaves.chan.trans (chans _), (leaves.awn rfl).1.trans awn, gives, (Grows.of_link link).trans (grows_clearRooms z),
    fun mem => ?_⟩
  obtain ⟨x, hx, ch⟩ := List.mem_map.1 mem
  refine List.mem_map.2 ⟨x, ?_, ch⟩
  rw [ends.queue, queue]
  exact List.mem_filter.2 ⟨hx, waitsOn_of_same (by rw [ch, leaves.chan])⟩

theorem windAnswer_refused {s : State} (cause : AutoCause) (here : s.present .awning = true) (free : allStopActive s = false)
    (run : s.power.state = .run)
    (h : (chanOf s .awning).state = .faulted ∨
      ((chanOf s .awning).state = .pending ∨ (chanOf s .awning).state = .running) ∧ (chanOf s .awning).op = some .retract) :
    windAnswer (retractStart cause s) = s := by
  rcases h with f | ⟨w | w, op⟩ <;> simp [windAnswer, retractStart, startMotion, *]

/-- The START made of an IDLE channel, `s` being a state before with the same records of the other channels. -/
theorem windAnswer_idle {s t : State} (now : t.now = s.now) (cfg : t.store.cfg = s.store.cfg)
    (same : ∀ c, c ≠ .awning → chanOf t c = chanOf s c) (here : t.present .awning = true) (free : allStopActive t = false)
    (run : t.power.state = .run) (idle : (chanOf t .awning).state = .idle) :
    let u := windAnswer (retractStart .wind t)
    (firstUnsat t .awning .awningIn true = none → waitsForWind s u ∧ (chanOf u .awning).last = (chanOf t .awning).last) ∧
      (firstUnsat t .awning .awningIn true ≠ none → u = t) := by
  intro u
  have start := retractStart_idle .wind here free run idle
  refine ⟨fun clear => ?_, fun barred => ?_⟩
  · rw [clear] at start
    have frame := accept_frame .awning .autoRetract false 0 .automatic (some .wind) t
    have e : u = clearRooms (modSup (fun v => { v with owed := none })
        (accept .awning .autoRetract false 0 .automatic (some .wind) t)) := by
      simp only [u, start]
      rfl
    obtain ⟨chan, -, gives, -, queue⟩ := windAnswer_cleared (s := s)
      (t := accept .awning .autoRetract false 0 .automatic (some .wind) t) (by rw [frame]; exact now) (by rw [frame]; exact cfg)
      fun c n => (chanOf_accept_ne .awning c _ _ _ _ _ t n).trans (same c n)
    rw [← e, chanOf_accept_self] at chan
    rw [← e] at gives queue
    have joined : Ch.awning ∈ u.sup.queue.map QEntry.ch := queue (by rw [accept_queue]; simp)
    rw [waitsForWind, chan]
    exact ⟨⟨rfl, rfl, rfl, rfl, joined, gives⟩, rfl⟩
  · obtain ⟨i, hi⟩ := Option.ne_none_iff_exists'.1 barred
    rw [hi] at start
    simp only [u, start]
    rfl

section
variable {s : State} (here : s.present .awning = true) (free : allStopActive s = false) (run : s.power.state = .run)
include here free run

/-- A waiting EXTEND is cancelled, and the START made. -/
theorem windRequest_waiting (waits : (chanOf s .awning).state = .pending) (op : (chanOf s .awning).op = some .extend) :
    let u := windRequest s
    (firstUnsat s .awning .awningIn true = none →
      waitsForWind s u ∧ (chanOf u .awning).last = some ⟨.cancelled .interlock, (chanOf s .awning).owner⟩) ∧
    (firstUnsat s .awning .awningIn true ≠ none →
      s.Cancelled u .awning .interlock ∧ u.sup.owed = s.sup.owed ∧ ∀ c, c ≠ .awning → chanOf u c = chanOf s c) := by
  intro u
  have e : u = windAnswer (retractStart .wind (cancel .awning .interlock s)) := by
    simp only [u, windRequest_of_free free]
    rw [if_pos ⟨.inl waits, op⟩, endMotion_of_pending _ _ waits]
  have ends : Ends (fun _ _ => True) s (cancel .awning .interlock s) := ends_cancel .awning .interlock s trivial
  obtain ⟨stop, power, present, row⟩ := ends.starts
  obtain ⟨cancelled, others, -, -, -⟩ := cancel_pending .interlock waits
  have record := chanOf_cancel_self .awning .interlock s waits
  obtain ⟨clear, barred⟩ := windAnswer_idle ends.now ends.cfg others (present.trans here) (stop.trans free)
    (by rw [power]; exact run) (by rw [record]; rfl)
  rw [row, ← e] at clear barred
  refine ⟨fun k => ?_, fun k => ?_⟩
  · obtain ⟨retracts, last⟩ := clear k
    exact ⟨retracts, last.trans (by rw [record]; rfl)⟩
  · rw [barred k]
    refine ⟨cancelled, ?_, others⟩
    rw [cancel_of_pending _ waits, owed_entersIdle, signal_frame]
    rfl

/-- A retract that is kept as the deferred start. -/
theorem windAnswer_stopping {t : State} (now : t.now = s.now) (cfg : t.store.cfg = s.store.cfg) (term : t.term = s.term)
    (power : t.power = s.power) (same : ∀ c, c ≠ .awning → chanOf t c = chanOf s c)
    (stops : (chanOf t .awning).state = .stopping) :
    let u := windAnswer (retractStart .wind t)
    chanOf u .awning = deferredRec .wind (chanOf t .awning) ∧ givesWay s u := by
  intro u
  have present : t.present .awning = true := by
    rw [← here]
    exact congrArg Cfg.awningFitted cfg
  have start := retractStart_stopping .wind present ((allStopActive_congr cfg term).trans free) (by rw [power]; exact run) stops
  have e : u = clearRooms (modSup (fun v => { v with owed := none }) (modChan .awning (deferredRec .wind) t)) := by
    simp only [u, start]
    rfl
  obtain ⟨chan, -, gives, -, -⟩ := windAnswer_cleared (s := s) (t := modChan .awning (deferredRec .wind) t) now cfg
    fun c n => (chanOf_modChan_ne .awning c (deferredRec .wind) t n).trans (same c n)
  rw [e]
  exact ⟨chan.trans (chanOf_modChan_self .awning (deferredRec .wind) t), gives⟩

theorem windRequest_stopping (stops : (chanOf s .awning).state = .stopping) :
    chanOf (windRequest s) .awning = { chanOf s .awning with deferred := some ⟨.autoRetract, some .wind⟩ } ∧
      givesWay s (windRequest s) := by
  rw [windRequest_of_free free, if_neg (by simp [stops])]
  exact windAnswer_stopping here free run rfl rfl rfl rfl (fun _ _ => rfl) stops

/-- A running EXTEND is aborted, and the START kept. -/
theorem windRequest_running (runs : (chanOf s .awning).state = .running) (op : (chanOf s .awning).op = some .extend) :
    s.Stopped (windRequest s) .awning (.aborted (.item .wind)) ∧
      (chanOf (windRequest s) .awning).deferred = some ⟨.autoRetract, some .wind⟩ ∧ givesWay s (windRequest s) := by
  have moving : isRunning s .awning = true := beq_iff_eq.2 runs
  have ends := ends_terminate .awning (.aborted (.item .wind)) s
  obtain ⟨-, others, -⟩ := terminate_plain runs (w := .aborted (.item .wind)) (by simp)
  have record := chanOf_terminate_self (.aborted (.item .wind)) moving
  obtain ⟨chan, gives⟩ := windAnswer_stopping here free run ends.now ends.cfg ends.term ends.power others (by rw [record]; rfl)
  rw [windRequest_of_free free, if_pos ⟨.inr runs, op⟩, endMotion_of_running _ _ runs]
  rw [record] at chan
  rw [State.Stopped, chan]
  exact ⟨⟨rfl, rfl, rfl, rfl⟩, rfl, gives⟩

/-- An AUTOMATIC retract under way takes the cause WIND. -/
theorem windRequest_protecting (waits : (chanOf s .awning).state = .pending ∨ (chanOf s .awning).state = .running)
    (op : (chanOf s .awning).op = some .autoRetract) (owner : (chanOf s .awning).owner = some .automatic) :
    let u := windRequest s
    chanOf u .awning = { chanOf s .awning with autoCause := some .wind } ∧ u.awn.lastAuto = some .wind ∧ givesWay s u ∧
      (s.store.cfg.sourceEnabled (.chan .awning) = true → Source.chan .awning ∈ u.link.reports) ∧
      (Ch.awning ∈ s.sup.queue.map QEntry.ch → Ch.awning ∈ u.sup.queue.map QEntry.ch) := by
  intro u
  have start := retractStart_already .wind here free run waits op owner
  have e : u = clearRooms (modSup (fun v => { v with owed := none }) (rewriteCause s)) := by
    simp only [u, windRequest_of_free free]
    rw [if_neg (by simp [op]), start]
    rfl
  have work : chanOf (rewriteCause s) .awning = { chanOf s .awning with autoCause := some .wind } ∧
      (rewriteCause s).awn.lastAuto = some .wind ∧ (rewriteCause s).now = s.now ∧ (rewriteCause s).store = s.store ∧
      (rewriteCause s).sup = s.sup ∧ ∀ c, c ≠ .awning → chanOf (rewriteCause s) c = chanOf s c := by
    have self := chanOf_modChan_self .awning (fun q => { q with autoCause := some .wind }) s
    have others := fun c (n : c ≠ .awning) => chanOf_modChan_ne .awning c (fun q => { q with autoCause := some .wind }) s n
    unfold rewriteCause
    rw [signal_frame]
    exact ⟨self, rfl, rfl, rfl, rfl, others⟩
  have reported : s.store.cfg.sourceEnabled (.chan .awning) = true → Source.chan .awning ∈ (rewriteCause s).link.reports :=
    fun enabled => mem_signal_self (.chan .awning) _ enabled
  obtain ⟨record, last, now, store, sup, same⟩ := work
  generalize rewriteCause s = t at e record last now store sup same reported
  obtain ⟨chan, awn, gives, grows, queue⟩ := windAnswer_cleared now (congrArg Store.cfg store) same
  rw [e, awn]
  exact ⟨chan.trans record, last, gives, fun enabled => grows _ (reported enabled), fun mem => queue (by rw [sup]; exact mem)⟩

theorem windRequest_left (h : (chanOf s .awning).state = .faulted ∨
    ((chanOf s .awning).state = .pending ∨ (chanOf s .awning).state = .running) ∧ (chanOf s .awning).op = some .retract) :
    windRequest s = s := by
  rw [windRequest_of_free free, if_neg (by rcases h with f | ⟨-, op⟩ <;> simp [*])]
  exact windAnswer_refused .wind here free run h

end

/-! ### The request after a wake (R142, R190, R191) -/

/-- What a wake leaves of all that the request reads. -/
theorem woken_same (cause : PostureCause) (s : State) :
    (woken cause s).chans = s.chans ∧ (woken cause s).sup = s.sup ∧ (woken cause s).awn = s.awn ∧
      (woken cause s).store = s.store ∧ (woken cause s).term = s.term ∧ (woken cause s).power.state = .run := by
  rw [woken_frame]
  exact ⟨rfl, rfl, rfl, rfl, rfl, rfl⟩

section
variable {s : State} (cause : PostureCause) (here : s.present .awning = true) (out : s.awn.status ≠ .pin)
include here out

/-- A FAULTED channel, and an IDLE one under ALL_STOP, is left by the request that a wake makes. -/
theorem wake_held (h : s.power.state = .run ∨ (chanOf s .awning).state = .faulted ∨
    (chanOf s .awning).state = .idle ∧ allStopActive s = true) :
    (wake cause s).chans = s.chans ∧ (wake cause s).sup.owed = s.sup.owed := by
  by_cases run : s.power.state = .run
  · rw [wake_of_run run]
    exact ⟨rfl, rfl⟩
  · obtain ⟨chans, sup, awn, store, term, -⟩ := woken_same cause s
    rw [wake_of_rest run]
    generalize woken cause s = t at chans sup awn store term
    have chan : chanOf t .awning = chanOf s .awning := by rw [chanOf, chans, chanOf]
    have here' : t.present .awning = true := by rw [State.present, store]; exact here
    have out' : t.awn.status ≠ .pin := by rw [awn]; exact out
    split
    next d owed =>
      have owes : protectiveRequest d t = modSup (fun u => { u with owed := some d }) t := by
        rcases h.resolve_left run with f | ⟨idle, stop⟩
        · exact protective_owes d here' out' (.inl (by rw [chan]; exact f))
        · refine (protective_of_rest d here' out' (.inl (by rw [chan]; exact idle))).trans (afterRetract_held d here' (.inl ?_))
          rw [allStopActive_congr (congrArg Store.cfg store) term]
          exact stop
      rw [owes]
      exact ⟨chans, owed.symm.trans (by rw [sup])⟩
    next => exact ⟨chans, by rw [sup]⟩

/-- An IDLE channel after a wake: IDLE still, or waiting with the owed retract. -/
theorem wake_idle (idle : (chanOf s .awning).state = .idle) (free : allStopActive s = false) :
    let t := wake cause s
    (firstUnsat s .awning .awningIn true = none → (chanOf t .awning).state = .idle ∨
      (chanOf t .awning).state = .pending ∧ (chanOf t .awning).op = some .autoRetract ∧
        (chanOf t .awning).owner = some .automatic ∧ Ch.awning ∈ t.sup.queue.map QEntry.ch) ∧
    (firstUnsat s .awning .awningIn true ≠ none → t.chans = s.chans) := by
  intro t
  by_cases run : s.power.state = .run
  · have e : t = s := wake_of_run run
    rw [e]
    exact ⟨fun _ => .inl idle, fun _ => rfl⟩
  · have e : t = _ := wake_of_rest run
    obtain ⟨chans, -, awn, store, term, on⟩ := woken_same cause s
    clear_value t
    generalize woken cause s = z at e chans awn store term on
    have chan : (chanOf z .awning).state = .idle := by rw [chanOf, chans]; exact idle
    have here' : z.present .awning = true := by rw [State.present, store]; exact here
    have out' : z.awn.status ≠ .pin := by rw [awn]; exact out
    have free' : allStopActive z = false := (allStopActive_congr (congrArg Store.cfg store) term).trans free
    have row : firstUnsat z .awning .awningIn true = firstUnsat s .awning .awningIn true :=
      firstUnsat_autoRetract (congrArg Store.cfg store) term
    cases owed : z.sup.owed with
    | none =>
      simp only [owed] at e
      rw [e]
      exact ⟨fun _ => .inl chan, fun _ => chans⟩
    | some d =>
      simp only [owed] at e
      rw [protective_of_rest d here' out' (.inl chan)] at e
      refine ⟨fun clear => .inr ?_, fun barred => ?_⟩
      · obtain ⟨⟨-, state, op, owner, -⟩, queue⟩ := afterRetract_accepted d here' free' on chan (row.trans clear)
        rw [e]
        exact ⟨state, op, owner, by rw [queue]; simp⟩
      · obtain ⟨i, hi⟩ := Option.ne_none_iff_exists'.1 barred
        rw [e, afterRetract_barred d here' free' on chan (row.trans hi)]
        exact chans

end

/-- The request where a wake may have gone before it: AWNING was IDLE or FAULTED. -/
theorem windRequest_woken {s : State} (cause : PostureCause) (here : s.present .awning = true) (out : s.awn.status ≠ .pin)
    (rest : s.power.state ≠ .run → (chanOf s .awning).state = .idle ∨ (chanOf s .awning).state = .faulted) :
    let u := windRequest (wake cause s)
    let leaves := u.chans = s.chans ∧ u.sup.owed = s.sup.owed
    (allStopActive s = true → leaves) ∧ (allStopActive s = false → (chanOf s .awning).state = .faulted → leaves) ∧
      (allStopActive s = false → (chanOf s .awning).state = .idle →
        (firstUnsat s .awning .awningIn true = none → waitsForWind s u) ∧
          (firstUnsat s .awning .awningIn true ≠ none → u.chans = s.chans)) := by
  intro u leaves
  obtain ⟨same, on, -, -, others⟩ := wake_spec cause s
  have held := wake_held cause here out
  have idled := wake_idle cause here out
  obtain ⟨t, ht⟩ : ∃ t, t = wake cause s := ⟨_, rfl⟩
  have e : u = windRequest t := by rw [ht]
  rw [← ht] at same on others held idled
  have now : t.now = s.now := of_unwoken State.now (fun _ => rfl) same
  have cfg : t.store.cfg = s.store.cfg := of_unwoken (fun x => x.store.cfg) (fun _ => rfl) same
  have term : t.term = s.term := of_unwoken State.term (fun _ => rfl) same
  have here' : t.present .awning = true := (of_unwoken (fun x => x.present .awning) (fun _ => rfl) same).trans here
  have stop : allStopActive t = allStopActive s := allStopActive_congr cfg term
  have row : firstUnsat t .awning .awningIn true = firstUnsat s .awning .awningIn true := firstUnsat_autoRetract cfg term
  refine ⟨fun stopped => ?_, fun free faulted => ?_, fun free idle => ⟨fun clear => ?_, fun barred => ?_⟩⟩
  · simp only [leaves, e, windRequest_of_stop (stop.trans stopped)]
    exact held (or_iff_not_imp_left.2 fun n => (rest n).symm.imp_right fun i => ⟨i, stopped⟩)
  · have kept := held (.inr (.inl faulted))
    have chan : chanOf t .awning = chanOf s .awning := by rw [chanOf, kept.1, chanOf]
    simp only [leaves, e, windRequest_left here' (stop.trans free) on (.inl (by rw [chan]; exact faulted))]
    exact kept
  · rw [e]
    obtain k | ⟨waits, op, owner, queued⟩ := (idled idle free).1 clear
    · rw [windRequest_of_free (stop.trans free), if_neg (by simp [k])]
      exact ((windAnswer_idle now cfg others here' (stop.trans free) on k).1 (row.trans clear)).1
    · obtain ⟨record, -, gives, -, queue⟩ := windRequest_protecting here' (stop.trans free) on (.inl waits) op owner
      rw [waitsForWind, record]
      exact ⟨waits, op, owner, rfl, queue queued, givesWay_of_same now cfg others gives⟩
  · have chans := (idled idle free).2 barred
    have k : (chanOf t .awning).state = .idle := by rw [chanOf, chans]; exact idle
    rw [e, windRequest_of_free (stop.trans free), if_neg (by simp [k]),
      (windAnswer_idle now cfg others here' (stop.trans free) on k).2 (by rw [row]; exact barred)]
    exact chans

/-! ### The bin end (R137) -/

/-- AWNING waits or runs with the wind retract, or carries its deferred start. -/
theorem windCalls_iff (s : State) :
    windCalls s = true ↔ s.present .awning = true ∧ s.awn.status ≠ .pin ∧
      ¬ ((((chanOf s .awning).state = .pending ∨ (chanOf s .awning).state = .running) ∧
            (chanOf s .awning).op = some .autoRetract ∧ (chanOf s .awning).owner = some .automatic) ∧
          (chanOf s .awning).autoCause = some .wind ∨
        (chanOf s .awning).deferred.bind Deferred.cause = some .wind) := by
  have kept : (match (chanOf s .awning).deferred with
      | some d => d.cause == some .wind
      | none => false) = decide ((chanOf s .awning).deferred.bind Deferred.cause = some .wind) := by
    cases (chanOf s .awning).deferred <;> simp [beq_eq_decide]
  have moving : (((chanOf s .awning).state == .pending || (chanOf s .awning).state == .running) && windRetracting s .awning) =
      decide ((((chanOf s .awning).state = .pending ∨ (chanOf s .awning).state = .running) ∧
        (chanOf s .awning).op = some .autoRetract ∧ (chanOf s .awning).owner = some .automatic) ∧
          (chanOf s .awning).autoCause = some .wind) := by
    rw [Bool.eq_iff_iff]
    simp only [windRetracting, automaticRetract, Bool.and_eq_true, Bool.or_eq_true, beq_iff_eq, decide_eq_true_eq]
    tauto
  have standing : windRetractStanding s = decide (_ ∨ _) := (congr (congrArg or moving) kept).trans (Bool.decide_or _ _).symm
  simp only [windCalls, standing, Bool.and_eq_true, Bool.not_eq_true', bne_iff_ne, decide_eq_false_iff_not, and_assoc]

theorem windBinEnd_of_high {s : State} (high : windAtThreshold (windBin s) = true) :
    windBinEnd s = if windCalls (startLockout (windBin s)) then
      modWind (fun w => { w with retract := true }) (windRequest (wake .wind (startLockout (windBin s))))
    else startLockout (windBin s) := if_pos high

/-- The request at a bin end, by the state of AWNING, `s` being the part with its lockout started. -/
theorem windRequest_table {s : State} (here : s.present .awning = true) (out : s.awn.status ≠ .pin)
    (rest : s.power.state ≠ .run → (chanOf s .awning).state = .idle ∨ (chanOf s .awning).state = .faulted) :
    let q := chanOf s .awning
    let u := windRequest (wake .wind s)
    let leaves := u.chans = s.chans ∧ u.sup.owed = s.sup.owed
    let waits := q.state = .pending ∨ q.state = .running
    let clear := firstUnsat s .awning .awningIn true = none
    (allStopActive s = true → leaves) ∧
    (allStopActive s = false →
      (q.state = .idle → (clear → waitsForWind s u) ∧ (¬ clear → u.chans = s.chans)) ∧
      (q.state = .pending → q.op = some .extend →
        (clear → waitsForWind s u ∧ (chanOf u .awning).last = some ⟨.cancelled .interlock, q.owner⟩) ∧
        (¬ clear → s.Cancelled u .awning .interlock ∧ u.sup.owed = s.sup.owed ∧
          ∀ c, c ≠ .awning → chanOf u c = chanOf s c)) ∧
      (q.state = .running → q.op = some .extend →
        s.Stopped u .awning (.aborted (.item .wind)) ∧
          (chanOf u .awning).deferred = some ⟨.autoRetract, some .wind⟩ ∧ givesWay s u) ∧
      (q.state = .stopping → chanOf u .awning = { q with deferred := some ⟨.autoRetract, some .wind⟩ } ∧ givesWay s u) ∧
      (waits ∧ q.op = some .autoRetract ∧ q.owner = some .automatic →
        chanOf u .awning = { q with autoCause := some .wind } ∧ u.awn.lastAuto = some .wind ∧ givesWay s u ∧
          (s.store.cfg.sourceEnabled (.chan .awning) = true → Source.chan .awning ∈ u.link.reports)) ∧
      (waits → q.op = some .retract → leaves) ∧ (q.state = .faulted → leaves)) := by
  intro q u leaves waits clear
  obtain ⟨stopped, faulted, idle⟩ := windRequest_woken .wind here out rest
  have inRun : q.state ≠ .idle → q.state ≠ .faulted → s.power.state = .run := fun ni nf => by
    by_contra n
    exact (rest n).elim ni nf
  have active : waits → s.power.state = .run := fun w => by
    rcases w with w | w <;> exact inRun (by simp [w]) (by simp [w])
  have still : s.power.state = .run → u = windRequest s := fun r => congrArg windRequest (wake_of_run r)
  refine ⟨stopped, fun free => ⟨idle free, fun w op => ?_, fun r op => ?_, fun st => ?_, fun ⟨w, op, owner⟩ => ?_,
    fun w op => ?_, faulted free⟩⟩
  · rw [still (active (.inl w))]
    exact windRequest_waiting here free (active (.inl w)) w op
  · rw [still (active (.inr r))]
    exact windRequest_running here free (active (.inr r)) r op
  · have run := inRun (by simp [st]) (by simp [st])
    rw [still run]
    exact windRequest_stopping here free run st
  · rw [still (active w)]
    obtain ⟨record, last, gives, joined, -⟩ := windRequest_protecting here free (active w) w op owner
    exact ⟨record, last, gives, joined⟩
  · have left := windRequest_left here free (active w) (.inr ⟨w, op⟩)
    simp only [leaves, still (active w), left]
    trivial

/-- Settles O39: the decision at the bin end, and the request in each state of AWNING. -/
theorem windRetracts : Obligations.WindRetracts := by
  intro s q live due high rest waits protects standing calls clear
  have e := windBinEnd_of_high high
  have decides := windCalls_iff (startLockout (windBin s))
  have run : exec .windBinEnd s = .next (finish (windBinEnd s)) := congrArg _ (onDue_of_due windBinEnd due live)
  obtain ⟨awake, on, -, reported, -⟩ := wake_spec .wind (startLockout (windBin s))
  obtain ⟨kept, more⟩ := steady_windRequest (wake .wind (startLockout (windBin s)))
  have lockout : (windRequest (wake .wind (startLockout (windBin s)))).wind.lockout =
      some (s.now + s.store.cfg.lockoutLength * 60000) :=
    (of_kept (fun x => x.wind.lockout) (fun _ => rfl) kept).trans (of_unwoken (fun x => x.wind.lockout) (fun _ => rfl) awake)
  refine ⟨_, run, ?_, fun calm => ?_, fun called => ?_⟩
  · rw [e]
    split
    · exact lockout
    · rfl
  · rw [e, if_neg fun k => calm (decides.1 k)]
    exact ⟨rfl, rfl⟩
  · rw [e, if_pos (decides.2 called)]
    obtain ⟨here, out, -⟩ := called
    have power := (of_kept (fun x => x.power.state) (fun _ => rfl) kept).trans on
    have cause : s.power.state ≠ .run → _ := fun n =>
      And.intro ((of_kept (fun x => x.link.postureCause) (fun _ => rfl) kept).trans (reported n).1) (more _ (reported n).2)
    have table := windRequest_table (s := startLockout (windBin s)) here out rest
    obtain ⟨w, hw⟩ : ∃ w, startLockout (windBin s) = { s with wind := w } := ⟨_, rfl⟩
    simp only [clear]
    rw [hw] at power cause table ⊢
    generalize windRequest (wake .wind { s with wind := w }) = u at power cause table ⊢
    exact ⟨rfl, power, cause, table⟩

end Sys2Proof.Machine
end

section
/-! PROOF. The general inputs (O40): raw levels, the debounced level with its report and its wake, and the consumers of the role. -/

namespace Sys2Proof.Machine

/-! ### What the consumers of a reading leave -/

/-- The state beside what a reading's consumers write: motions and their reports, the drive-away condition with its alert, and the
mask. -/
def aside (s : State) : State :=
  { kept s with
    sup := {}, link := { postureCause := s.link.postureCause }, term := { s.term with mask := [] } }

theorem aside_of_kept {s t : State} (h : kept t = kept s) : aside t = aside s := by
  have cause : t.link.postureCause = s.link.postureCause := of_kept (fun x => x.link.postureCause) (fun _ => rfl) h
  have term : t.term = s.term := of_kept State.term (fun _ => rfl) h
  simp only [aside, h, cause, term]

/-- What reads the same from a state and beside the consumers' work is common to states that differ in that work. -/
theorem of_aside {β : Type} {s t : State} (p : State → β) (hp : ∀ x, p (aside x) = p x) (h : aside t = aside s) :
    p t = p s := by
  rw [← hp t, h, hp s]

/-- From `s` to `t` only consumers of readings have worked, and no report is lost. -/
def Consumed (s t : State) : Prop := aside t = aside s ∧ Grows s t

theorem Consumed.refl (s : State) : Consumed s s := ⟨rfl, .of_link rfl⟩

theorem Consumed.trans {s t u : State} (h : Consumed s t) (k : Consumed t u) : Consumed s u :=
  ⟨k.1.trans h.1, h.2.trans k.2⟩

theorem Consumed.of_steady {s t : State} (h : Steady s t) (g : Grows s t) : Consumed s t := ⟨aside_of_kept h.kept, g⟩

theorem Consumed.foldl {α : Type} (f : State → α → State) (h : ∀ t a, Consumed t (f t a)) (l : List α) (s : State) :
    Consumed s (l.foldl f s) := by
  induction l generalizing s with
  | nil => exact .refl s
  | cons a l ih => exact (h s a).trans (ih (f s a))

theorem consumed_endMotion (c : Ch) (d : CancelDetail) {t : Term} (n : t ≠ .normal) (s : State) :
    Consumed s (endMotion c d t s) := .of_steady (ends_endMotion c d t s n).steady (grows_endMotion c d n s)

theorem consumed_startMotion (c : Ch) (o : Op) (h : Bool) (w : Owner) (s : State) (nz : o ≠ .captureZero) :
    Consumed s (startMotion c o h 0 w none s).2 := by
  refine .of_steady (steady_startMotion c o h 0 w none s nz) ?_
  obtain e | ⟨-, e⟩ | ⟨z, -⟩ | ⟨-, -, -, -, e⟩ := startMotion_cases c o h 0 w none s
  · rw [e]
    exact .of_link rfl
  · rw [e]
    exact .of_link rfl
  · exact absurd z nz
  · rw [e]
    exact (mem_accept c o h 0 w none s).1

theorem grows_setAlertCond (a : Alert) (v : Bool) (s : State) : Grows s (setAlertCond a v s) := by
  unfold setAlertCond
  extract_lets q s1
  have set : Grows s s1 := fun _ hx => hx
  split
  · exact .of_link rfl
  · split
    · exact set.trans (grows_signal .alerts s1)
    · exact set

theorem consumed_driveAwayBegin (i : Item) (s : State) : Consumed s (driveAwayBegin i s) := by
  by_cases old : travelReady s = true ∨ s.sup.driveAway = true
  · rw [driveAwayBegin_of_old old]
    exact .refl s
  · obtain ⟨new, calm⟩ : travelReady s = false ∧ s.sup.driveAway = false := by simpa using old
    obtain ⟨steady, work, -⟩ := drivenRetract_keeps i s
    have begun : Consumed s (drivenAway i s) := by
      refine ⟨?_, fun x hx => ?_⟩
      · rw [drivenAway_frame]
        rfl
      · exact grows_setAlertCond .driveAway true { s with sup := { s.sup with driveAway := true, driveAwayBy := i } } x hx
    rw [driveAwayBegin_of_new new calm]
    exact (begun.trans (.of_steady steady work.grows)).trans (.of_steady (steady_autoStow _) (grows_autoStow _))

theorem consumed_stopOne (s : State) (c : Ch) : Consumed s (stopOne s c) := by
  have ended := consumed_endMotion c .stop (t := .stopped) (by decide) s
  unfold stopOne
  split
  · simp only []
    split
    · exact ended.trans ⟨rfl, .of_link rfl⟩
    · exact ended
  · exact .refl s

theorem consumed_allStopChange (active : Bool) (s : State) : Consumed s (allStopChange active s) := by
  unfold allStopChange
  split
  · exact .foldl stopOne consumed_stopOne allChs s
  · split
    · exact ⟨rfl, .of_link rfl⟩
    · exact .refl s

theorem consumed_limitChange (r : Room) (out active : Bool) (s : State) : Consumed s (limitChange r out active s) := by
  cases h : hydraulic s r with
  | false =>
    rw [limitChange_of_other h]
    exact .refl s
  | true =>
    rw [limitChange_of_hydraulic h]
    exact .of_steady (.of_scope (scope_setRoomStat _ _ _ s)) (grows_setRoomStat _ _ _ s)

theorem consumed_roleChange (x : InRole) (active : Bool) (s : State) : Consumed s (roleChange x active s) := by
  unfold roleChange
  split
  · split
    · exact ⟨rfl, .of_link rfl⟩
    · exact consumed_driveAwayBegin _ s
  · split
    · split
      · exact .of_steady (steady_protectiveRequest _ s) (awningWork_protective _ s).grows
      · exact .refl s
    · exact ⟨rfl, .of_link rfl⟩
  · exact consumed_allStopChange active s
  · unfold limitRoleChange
    split
    · exact consumed_limitChange _ _ _ s
    · exact consumed_limitChange _ _ _ s
    · exact .refl s

theorem consumed_levelPress (o : Op) (s : State) (nz : o ≠ .captureZero) : Consumed s (levelPress o s) := by
  unfold levelPress
  split
  · exact consumed_startMotion .level o false .pendant s nz
  · exact consumed_startMotion .level o false .pendant s nz
  · obtain e | e := stopMotion_cases .level .pendant s
    · rw [e]
      exact .refl s
    · rw [e]
      exact consumed_endMotion .level .stop (by decide) s

theorem consumed_pendantActivate (x : InRole) (s : State) : Consumed s (pendantActivate x s) := by
  cases x with
  | roomOut r | roomIn r | awningOut | awningIn => exact consumed_startMotion _ _ true .pendant s (by decide)
  | levelAuto | stow => exact consumed_levelPress _ s (by decide)
  | _ => exact .refl s

theorem consumed_pendantDecode (old s : State) (x : InRole) : Consumed s (pendantDecode old s x) := by
  unfold pendantDecode pendantDeactivate pendantRelease
  extract_lets was is_
  split
  · exact .refl s
  · split
    · split
      · exact .refl s
      · exact consumed_pendantActivate x s
    · split
      · split
        · exact consumed_endMotion _ .released (by decide) s
        · exact .refl s
      · exact .refl s

/-! ### The debounced level (R162) -/

theorem takeLevel_frame (t : Fin 16) (s : State) :
    takeLevel t s = { s with
      term := { s.term with
        deb := s.term.deb.set t (s.term.raw.get t), timers := s.term.timers.set t none, flags := s.term.flags.set t true }
      link := { s.link with reports := (takeLevel t s).link.reports } } := signal_frame .inputs _

theorem takeLevel_reports (t : Fin 16) (s : State) (enabled : s.store.cfg.sourceEnabled .inputs = true) :
    Source.inputs ∈ (takeLevel t s).link.reports := mem_signal_self .inputs _ enabled

theorem termActive_takeLevel (t : Fin 16) (s : State) :
    termActive (takeLevel t s) t = (s.term.raw.get t != s.store.cfg.inputLow t) := by
  rw [takeLevel_frame]
  simp [termActive, Vector.get_eq_getElem]

/-- A role that another terminal gives, or none, reads as before. -/
theorem roleActive_takeLevel {t : Fin 16} {s : State} {x : InRole} (n : s.store.cfg.terminalOf x ≠ some t) :
    roleActive (takeLevel t s) x = roleActive s x := by
  rw [takeLevel_frame]
  unfold roleActive
  split
  · rfl
  · cases h : s.store.cfg.terminalOf x with
    | none => rfl
    | some k =>
      have other : t.val ≠ k.val := fun e => n (by rw [h, Fin.ext e])
      simp [termActive, Vector.get_eq_getElem, Vector.getElem_set_ne, other]

/-- The state before the consumers: with the wake that the change causes. -/
def wakened (t : Fin 16) (x : InRole) (s : State) : State :=
  match wakeCause s (takeLevel t s) x with
  | some c => wake c (takeLevel t s)
  | none => takeLevel t s

theorem debounced_of_none {t : Fin 16} {s : State} (h : s.store.cfg.inputRole t = none) : debounced t s = takeLevel t s := by
  unfold debounced
  rw [h]

theorem debounced_of_role {t : Fin 16} {s : State} {x : InRole} (h : s.store.cfg.inputRole t = some x) :
    debounced t s = trimMask ((pairOf x).foldl (fun u p => pendantDecode s u p)
      (roleChange x (s.term.raw.get t != s.store.cfg.inputLow t) (wakened t x s))) := by
  rw [← termActive_takeLevel]
  unfold debounced
  rw [h]
  rfl

theorem consumed_debounced {t : Fin 16} {s : State} {x : InRole} (h : s.store.cfg.inputRole t = some x) :
    Consumed (wakened t x s) (debounced t s) := by
  rw [debounced_of_role h]
  have decoded := Consumed.foldl (fun u p => pendantDecode s u p) (fun u p => consumed_pendantDecode s u p) (pairOf x)
    (roleChange x (s.term.raw.get t != s.store.cfg.inputLow t) (wakened t x s))
  exact ((consumed_roleChange x _ _).trans decoded).trans ⟨rfl, .of_link rfl⟩

/-! ### The wake (R162, R191) -/

/-- IGNITION goes active. -/
def ignitionWakes (t : Fin 16) (x : InRole) (s : State) : Bool :=
  x == .ignition && roleActive (takeLevel t s) .ignition && !roleActive s .ignition

/-- A pendant role goes effective. -/
def pendantWakes (t : Fin 16) (x : InRole) (s : State) : Bool :=
  (pairOf x).any fun p => effective (takeLevel t s) p && !effective s p

theorem wakeCause_takeLevel (t : Fin 16) (x : InRole) (s : State) :
    wakeCause s (takeLevel t s) x = if ignitionWakes t x s = true then some .ignition
      else if pendantWakes t x s = true then some .pendant else none := by
  have ignition : (x = .ignition ∧ roleActive (takeLevel t s) x = true ∧ (!roleActive s x) = true) ↔
      ignitionWakes t x s = true := by
    simp only [ignitionWakes, Bool.and_eq_true, beq_iff_eq, and_assoc]
    exact and_congr_right fun e => by rw [e]
  exact if_congr ignition rfl rfl

theorem wakened_eq (t : Fin 16) (x : InRole) (s : State) :
    wakened t x s = if ignitionWakes t x s = true then wake .ignition (takeLevel t s)
      else if pendantWakes t x s = true then wake .pendant (takeLevel t s) else takeLevel t s := by
  unfold wakened
  rw [wakeCause_takeLevel]
  split_ifs <;> rfl

/-- What a debounced change that wakes the part leaves before its consumers. -/
theorem wakened_spec (t : Fin 16) (x : InRole) (s : State) :
    unwoken (wakened t x s) = unwoken (takeLevel t s) ∧ Grows (takeLevel t s) (wakened t x s) := by
  rw [wakened_eq]
  split
  · obtain ⟨same, -, grows, -⟩ := wake_spec .ignition (takeLevel t s)
    exact ⟨same, grows⟩
  · split
    · obtain ⟨same, -, grows, -⟩ := wake_spec .pendant (takeLevel t s)
      exact ⟨same, grows⟩
    · exact ⟨rfl, .of_link rfl⟩

/-- IGNITION wakes the part only where this terminal gives it an active reading. -/
theorem ignitionWakes_active {t : Fin 16} {x : InRole} {s : State} (h : ignitionWakes t x s = true) :
    x = .ignition ∧ (s.term.raw.get t != s.store.cfg.inputLow t) = true := by
  simp only [ignitionWakes, Bool.and_eq_true, beq_iff_eq, Bool.not_eq_true'] at h
  obtain ⟨⟨role, now⟩, before⟩ := h
  refine ⟨role, ?_⟩
  by_cases k : s.store.cfg.terminalOf .ignition = some t
  · have reading : roleActive (takeLevel t s) .ignition = termActive (takeLevel t s) t := by
      have cfg : (takeLevel t s).store.cfg = s.store.cfg := by rw [takeLevel_frame]
      simp [roleActive, cfg, k]
    rw [← termActive_takeLevel, ← reading, now]
  · rw [roleActive_takeLevel k, before] at now
    cases now

/-- A role that is not a pendant role moves no effective state. -/
theorem pairOf_other {x : InRole} (h : isPendant x = false) : pairOf x = [] := by simp [pairOf, h]

theorem wakened_of_quiet {t : Fin 16} {x : InRole} {s : State} (i : ignitionWakes t x s = false) (h : isPendant x = false) :
    wakened t x s = takeLevel t s := by
  rw [wakened_eq, if_neg (by simp [i]), if_neg (by simp [pendantWakes, pairOf_other h])]

theorem debounced_of_other {t : Fin 16} {s : State} {x : InRole} (h : s.store.cfg.inputRole t = some x)
    (p : isPendant x = false) :
    debounced t s = trimMask (roleChange x (s.term.raw.get t != s.store.cfg.inputLow t) (wakened t x s)) := by
  rw [debounced_of_role h, pairOf_other p]
  rfl

theorem roleChange_of_pendant {x : InRole} (h : isPendant x = true) (active : Bool) (s : State) : roleChange x active s = s := by
  cases x with
  | brake | ignition | allStop => simp [isPendant, pendantRoles] at h
  | outLimit r | inLimit r => simp [isPendant, pendantRoles] at h
  | _ => rfl

/-! ### The obligation -/

/-- What every debounced change leaves, and its report. -/
theorem debounced_leaves (t : Fin 16) (s : State) :
    let u := debounced t s
    u.term = { s.term with
      deb := s.term.deb.set t (s.term.raw.get t), timers := s.term.timers.set t none,
      flags := s.term.flags.set t true, mask := u.term.mask } ∧
    Grows (takeLevel t s) u ∧ u.store.cfg = s.store.cfg ∧ u.scan = s.scan ∧ u.now = s.now := by
  intro u
  obtain ⟨v, awake, grows, heard, more⟩ :
      ∃ v, unwoken v = unwoken (takeLevel t s) ∧ Grows (takeLevel t s) v ∧ Consumed v u := by
    cases role : s.store.cfg.inputRole t with
    | none => exact ⟨_, rfl, .of_link rfl, by simp only [u, debounced_of_none role]; exact .refl _⟩
    | some x => exact ⟨_, (wakened_spec t x s).1, (wakened_spec t x s).2, consumed_debounced role⟩
  have frame := takeLevel_frame t s
  have term : { u.term with mask := [] } = { (takeLevel t s).term with mask := [] } :=
    (of_aside (fun x => { x.term with mask := [] }) (fun _ => rfl) heard).trans
      (of_unwoken (fun x => { x.term with mask := [] }) (fun _ => rfl) awake)
  refine ⟨?_, grows.trans more, ?_, ?_, ?_⟩
  · have masked := congrArg (fun x : Terminals => { x with mask := u.term.mask }) term
    refine masked.trans ?_
    rw [frame]
  · refine ((of_aside (fun x => x.store.cfg) (fun _ => rfl) heard).trans
      (of_unwoken (fun x => x.store.cfg) (fun _ => rfl) awake)).trans ?_
    rw [frame]
  · refine ((of_aside State.scan (fun _ => rfl) heard).trans (of_unwoken State.scan (fun _ => rfl) awake)).trans ?_
    rw [frame]
  · refine ((of_aside State.now (fun _ => rfl) heard).trans (of_unwoken State.now (fun _ => rfl) awake)).trans ?_
    rw [frame]

theorem takeLevel_same (t : Fin 16) (s : State) :
    (takeLevel t s).chans = s.chans ∧ (takeLevel t s).sup = s.sup ∧ (takeLevel t s).power = s.power ∧
      (takeLevel t s).store = s.store ∧ (takeLevel t s).now = s.now := by
  rw [takeLevel_frame]
  exact ⟨rfl, rfl, rfl, rfl, rfl⟩

section
variable {s : State} {t : Fin 16} {x : InRole} (role : s.store.cfg.inputRole t = some x)
include role

/-- The part wakes at IGNITION and at the pendant alone, with its report. -/
theorem debounced_wakes :
    let u := debounced t s
    (ignitionWakes t x s = false → pendantWakes t x s = false → u.power = s.power) ∧
      (ignitionWakes t x s = true ∨ pendantWakes t x s = true → u.power.state = .run ∧
        (s.power.state ≠ .run → Source.posture ∈ u.link.reports ∧
          u.link.postureCause = some (if ignitionWakes t x s = true then .ignition else .pendant))) := by
  intro u
  obtain ⟨heard, more⟩ := consumed_debounced role
  have power : u.power = (wakened t x s).power := of_aside State.power (fun _ => rfl) heard
  have cause : u.link.postureCause = (wakened t x s).link.postureCause :=
    of_aside (fun x => x.link.postureCause) (fun _ => rfl) heard
  obtain ⟨-, -, before, -⟩ := takeLevel_same t s
  refine ⟨fun i p => ?_, fun wakes => ?_⟩
  · rw [power, wakened_eq, if_neg (by simp [i]), if_neg (by simp [p]), before]
  · have e : wakened t x s = wake (if ignitionWakes t x s = true then .ignition else .pendant) (takeLevel t s) := by
      rw [wakened_eq]
      split
      next i => rfl
      next i => exact if_pos (wakes.resolve_left i)
    obtain ⟨-, on, -, reported, -⟩ := wake_spec (if ignitionWakes t x s = true then .ignition else .pendant) (takeLevel t s)
    rw [← e, before] at reported
    rw [← e] at on
    exact ⟨by rw [power]; exact on, fun n => ⟨more _ (reported n).2, cause.trans (reported n).1⟩⟩

/-- ALL_STOP's reading goes to every channel (R36, R39). -/
theorem debounced_allStop (hx : x = .allStop) :
    let u := debounced t s
    ((s.term.raw.get t != s.store.cfg.inputLow t) = true → ∀ c,
      (s.present c = true →
        ((chanOf s c).state = .pending → s.Cancelled u c .stop) ∧
        ((chanOf s c).state = .running → s.Stopped u c .stopped) ∧
        ((chanOf s c).state = .stopping → chanOf u c = { chanOf s c with deferred := none })) ∧
      (s.present c = false ∨ (chanOf s c).state = .idle ∨ (chanOf s c).state = .faulted → chanOf u c = chanOf s c)) ∧
    ((s.term.raw.get t != s.store.cfg.inputLow t) = false →
      u.chans = s.chans ∧ u.sup = { s.sup with owedDue := s.sup.owedDue || s.sup.owed.isSome }) := by
  intro u
  subst hx
  obtain ⟨chans, sup, -, store, now⟩ := takeLevel_same t s
  have e : u = trimMask (allStopChange (s.term.raw.get t != s.store.cfg.inputLow t) (takeLevel t s)) := by
    simp only [u, debounced_of_other role rfl, wakened_of_quiet (x := .allStop) rfl rfl]
    rfl
  clear_value u
  generalize takeLevel t s = w at e chans sup store now
  subst e
  refine ⟨fun active c => ?_, fun inactive => ?_⟩
  · have same : chanOf w c = chanOf s c := by rw [chanOf, chans, chanOf]
    have here : w.present c = s.present c := by cases c <;> simp only [State.present, store]
    obtain ⟨waits, runs, stops, rests⟩ := interlocksAndAllStop.2 w c
    rw [same, here] at waits runs stops rests
    have stopped : allStopChange true w = allStop w := if_pos rfl
    rw [active, stopped]
    generalize allStop w = z at waits runs stops rests
    exact ⟨fun k => ⟨fun p => cancelled_of_same same (waits k p),
      fun r => stopped_of_same now (congrArg Store.cfg store) same (runs k r), fun p => stops k p⟩, fun k => rests k⟩
  · rw [inactive]
    unfold allStopChange
    rw [if_neg (by decide), sup]
    cases owed : s.sup.owed with
    | none =>
      rw [if_neg (by simp)]
      exact ⟨chans, sup.trans (by simp)⟩
    | some cause =>
      rw [if_pos (by simp)]
      exact ⟨chans, by simp [trimMask, sup]⟩

end

/-- A raw level's timer: cancelled, started, or left to run. -/
theorem rawLevel_timers (s : State) (t : Fin 16) (high : Bool) :
    let u := rawLevel t high s
    (high = s.term.deb.get t → u.term.timers.get t = none) ∧
      (high ≠ s.term.deb.get t → s.term.timers.get t = none →
        u.term.timers.get t = some (s.now + s.store.cfg.debounceMs t)) ∧
      (high ≠ s.term.deb.get t → s.term.timers.get t ≠ none → u.term.timers.get t = s.term.timers.get t) ∧
      (∀ x, x ≠ t → u.term.timers.get x = s.term.timers.get x) := by
  intro u
  have own : u.term.timers.get t = if high = s.term.deb.get t then none
      else some ((s.term.timers.get t).getD (s.now + s.store.cfg.debounceMs t)) := by
    simp only [u, rawLevel, modTerm_term, Vector.get_eq_getElem, Vector.getElem_set_self]
    split
    · rfl
    · cases s.term.timers[t.val] <;> rfl
  refine ⟨fun same => by rw [own, if_pos same], fun moved off => by rw [own, if_neg moved, off]; rfl, fun moved on => ?_,
    fun x n => ?_⟩
  · obtain ⟨k, hk⟩ := Option.ne_none_iff_exists'.1 on
    rw [own, if_neg moved, hk]
    rfl
  · have other : t.val ≠ x.val := fun e => n (Fin.ext e.symm)
    simp [u, rawLevel, Vector.get_eq_getElem, Vector.getElem_set_ne, other]

/-- Settles O40: the raw level, the debounced level, and the consumers of each role. -/
theorem inputsDebounce : Obligations.InputsDebounce := by
  have runs : ∀ {s : State} {t : Fin 16}, s.power.startingUp = false → debounceDue s t = true →
      exec (.inputDebounceExpiry t) s = .next (finish (debounced t s)) := fun live due =>
    congrArg _ (onDue_of_due (debounced _) due live)
  refine ⟨fun s t high live => ?_, fun s t live => ⟨fun early => congrArg _ (onDue_of_not (debounced t) early), fun due => ?_⟩,
    fun s t x live due role => ?_⟩
  · have run : exec (.inputRawChange t high) s = .next (rawLevel t high s) := congrArg _ (if_neg (by simp [live]))
    exact ⟨_, run, rfl, rawLevel_timers s t high⟩
  · obtain ⟨term, grows, cfg, scan, now⟩ := debounced_leaves t s
    refine ⟨_, runs live due, term, fun enabled => grows _ (takeLevel_reports t s enabled), fun free => ?_, cfg, scan, now⟩
    rw [debounced_of_none free, takeLevel_frame]
    exact ⟨rfl, rfl⟩
  · intro w active byIgnition byPendant v
    have before : v = wakened t x s := (wakened_eq t x s).symm
    obtain ⟨chans, sup, -, store, -⟩ := takeLevel_same t s
    obtain ⟨asleep, wakes⟩ := debounced_wakes role
    refine ⟨_, runs live due, asleep, wakes, fun pendant => ?_, fun hx => ?_, fun hx => ?_, fun hx => debounced_allStop role hx,
      fun r hx => ?_, fun hx => ?_⟩
    · rw [debounced_of_role role, roleChange_of_pendant pendant, before]
    · subst hx
      have e := debounced_of_other role rfl
      rw [wakened_of_quiet (x := .brake) rfl rfl] at e
      refine ⟨fun off => ?_, fun on => ?_⟩
      · rw [e, show (s.term.raw.get t != s.store.cfg.inputLow t) = false from off]
        rfl
      · rw [e, show (s.term.raw.get t != s.store.cfg.inputLow t) = true from on, ← sup]
        exact ⟨chans, rfl⟩
    · subst hx
      have e := debounced_of_other role rfl
      rw [← before] at e
      have cfg : v.store.cfg = s.store.cfg := by
        have same := of_unwoken (fun x => x.store.cfg) (fun _ => rfl) (wakened_spec t .ignition s).1
        rw [before]
        exact same.trans (congrArg Store.cfg store)
      refine ⟨fun on entry => ?_, fun on entry => ?_, fun off => ?_⟩
      · rw [e, show (s.term.raw.get t != s.store.cfg.inputLow t) = true from on]
        simp only [roleChange, cfg, entry, if_true]
      · rw [e, show (s.term.raw.get t != s.store.cfg.inputLow t) = true from on]
        simp only [roleChange, cfg, entry, if_true]
        exact ⟨rfl, rfl⟩
      · have quiet : ignitionWakes t .ignition s = false := by
          by_contra k
          have act := (ignitionWakes_active (by simpa using k)).2
          rw [show (s.term.raw.get t != s.store.cfg.inputLow t) = false from off] at act
          cases act
        rw [e, show (s.term.raw.get t != s.store.cfg.inputLow t) = false from off, before, wakened_of_quiet quiet rfl, ← sup]
        exact ⟨chans, rfl⟩
    · have other : isPendant x = false := by rcases hx with rfl | rfl <;> cases r <;> rfl
      have quiet : ignitionWakes t x s = false := by rcases hx with rfl | rfl <;> rfl
      rw [debounced_of_other role other, wakened_of_quiet quiet other]
    · subst hx
      rw [debounced_of_other role rfl, wakened_of_quiet (x := .parkGear) rfl rfl]
      rfl

end Sys2Proof.Machine
end

section
/-! PROOF. What work on motions keeps: the report queue loses nothing, the sensors' readings stand, and no jack valve opens that
R46 holds closed. One relation for every operation that ends, begins or carries out motions. -/

namespace Sys2Proof.Machine

/-! ### What R46 speaks of -/

/-- What the rule of R46 is read from: the jack valves, the pump's holder, the direction valve, the present rooms that are not
IN, and whether start-up is over. -/
structure Plant where
  valve : Jack → Bool
  holder : Option Ch
  dirValve : DirValve
  roomOut : Room → Bool
  startingUp : Bool

/-- The plant of a state. -/
def plant (s : State) : Plant where
  valve := valveOpen s
  holder := s.man.pump.holder
  dirValve := s.man.dirValve
  roomOut := fun r => s.present (.room r) && (roomOf s r).status != .pin
  startingUp := s.power.startingUp

/-- An open jack valve belongs to the holder LEVEL (R43, R44). -/
def Plant.Owned (p : Plant) : Prop := ∀ j, p.valve j = true → p.holder = some .level

/-- The clauses of `State.ManifoldOk` in a part that has started up. -/
structure Plant.Ok (p : Plant) : Prop where
  live : p.startingUp = false
  owned : p.Owned
  retract : p.dirValve = .retract → ∀ r, p.roomOut r = true → ∀ j, p.valve j = false

theorem someRoomOut_iff (s : State) : someRoomOut s = true ↔ ∃ r, (plant s).roomOut r = true := by
  have all : ∀ r : Room, r ∈ allRooms := fun r => by cases r <;> decide
  simp [someRoomOut, presentRooms, plant, all]

theorem manifoldOk_of_plant {s : State} (h : (plant s).Ok) : s.ManifoldOk where
  owned := h.owned
  retract rest out := by
    obtain ⟨r, out⟩ := (someRoomOut_iff s).1 out
    exact h.retract rest r out
  start su := by
    have live : s.power.startingUp = false := h.live
    rw [live] at su
    cases su

theorem plant_of_manifoldOk {s : State} (h : s.ManifoldOk) (live : s.power.startingUp = false) : (plant s).Ok where
  live := live
  owned := h.owned
  retract rest r out := h.retract rest ((someRoomOut_iff s).2 ⟨r, out⟩)

/-- Valves that close and rooms that come IN keep the rule. -/
theorem Plant.Ok.of_closing {p q : Plant} (h : p.Ok) (live : q.startingUp = p.startingUp) (holder : q.holder = p.holder)
    (dir : q.dirValve = p.dirValve) (valve : ∀ j, q.valve j = true → p.valve j = true)
    (out : ∀ r, q.roomOut r = true → p.roomOut r = true) : q.Ok where
  live := live.trans h.live
  owned j o := holder.trans (h.owned j (valve j o))
  retract d r o j := by
    have closed := h.retract (dir.symm.trans d) r (out r o) j
    by_contra opened
    rw [valve j (by simpa using opened)] at closed
    cases closed

/-- With every jack valve closed the rule holds. -/
theorem Plant.Ok.of_closed {p : Plant} (live : p.startingUp = false) (closed : ∀ j, p.valve j = false) : p.Ok where
  live := live
  owned j o := by
    rw [closed j] at o
    cases o
  retract _ _ _ := closed

theorem PerJack_get_all {α : Type} (v : α) (j : Jack) : (PerJack.all v).get j = v := by cases j <;> rfl

/-- R46's second way: closing on a retract restores the rule wherever the open valves belong to LEVEL. -/
theorem plant_closeOnRetract {s : State} (live : s.power.startingUp = false) (h : (plant s).Owned) :
    (plant (closeOnRetract s)).Ok := by
  unfold closeOnRetract
  split
  · exact .of_closed live fun j => PerJack_get_all false j
  next other => exact ⟨live, h, fun d => absurd d other⟩

/-! ### What the sensors give -/

/-- A jack's record without the engine's marks on it: what its transducers and its switch give (R60, R61, R170). -/
def JackRec.sensed (q : JackRec) : JackRec :=
  { q with
    ground := none, lift := none, target := none, close := none, closedHere := false, jogged := false, stepTarget := none }

/-- The readings of the jacks and of the line pressure, with their fault flags and in-band timers. -/
structure Sensed where
  jack : Jack → JackRec
  line : Nat
  lineFault : Bool
  lineBandSince : Option Nat

/-- What the sensors have given in a state. -/
def sensed (s : State) : Sensed where
  jack := fun j => (jackOf s j).sensed
  line := s.man.line
  lineFault := s.man.lineFault
  lineBandSince := s.man.lineBandSince

/-! ### The relation -/

/-- From `s` to `t` motions have ended, begun or been carried out: no report has left the queue, every reading stands, and the
rule of R46 holds on. -/
structure Works (s t : State) : Prop where
  reports : Grows s t
  sensed : sensed t = sensed s
  plant : (plant s).Ok → (plant t).Ok

theorem Works.refl (s : State) : Works s s := ⟨.of_link rfl, rfl, id⟩

theorem Works.trans {s t u : State} (h : Works s t) (k : Works t u) : Works s u :=
  ⟨h.reports.trans k.reports, k.sensed.trans h.sensed, fun ok => k.plant (h.plant ok)⟩

theorem Works.of_view {s t : State} (link : t.link = s.link) (sense : Machine.sensed t = Machine.sensed s)
    (view : Machine.plant t = Machine.plant s) : Works s t :=
  ⟨.of_link link, sense, fun ok => by rwa [view]⟩

theorem Works.foldl {α : Type} {b : State} (f : State → α → State) (hf : ∀ t a, Works b t → Works b (f t a)) (l : List α)
    {s : State} (h : Works b s) : Works b (l.foldl f s) := by
  induction l generalizing s with
  | nil => exact h
  | cons a l ih => exact ih (hf s a h)

section
variable {b s : State}

theorem works_ite {t : State} {p : Prop} [Decidable p] (h : p → Works b s) (k : ¬ p → Works b t) :
    Works b (if p then s else t) := by
  split
  next hp => exact h hp
  next hp => exact k hp

/-! ### One component -/

theorem works_modChan (c : Ch) (f : ChanRec → ChanRec) (h : Works b s) : Works b (modChan c f s) :=
  h.trans (.of_view rfl rfl rfl)

theorem works_modSup (f : Supervisor → Supervisor) (h : Works b s) : Works b (modSup f s) :=
  h.trans (.of_view rfl rfl rfl)

theorem works_modAwn (f : AwnRec → AwnRec) (h : Works b s) : Works b (modAwn f s) := h.trans (.of_view rfl rfl rfl)

theorem works_modMon (f : Monitor → Monitor) (h : Works b s) : Works b (modMon f s) := h.trans (.of_view rfl rfl rfl)

theorem works_modTerm (f : Terminals → Terminals) (h : Works b s) : Works b (modTerm f s) :=
  h.trans (.of_view rfl rfl rfl)

theorem works_modWind (f : WindRec → WindRec) (h : Works b s) : Works b (modWind f s) :=
  h.trans (.of_view rfl rfl rfl)

theorem works_modScan (f : Scanner → Scanner) (h : Works b s) : Works b (modScan f s) := h.trans (.of_view rfl rfl rfl)

/-- The link port without its report queue. -/
theorem works_modLink (f : Link → Link) (same : (f s.link).reports = s.link.reports) (h : Works b s) : Works b (modLink f s) :=
  h.trans ⟨fun x hx => by simpa [same] using hx, rfl, id⟩

/-- The engine's own fields, without the jacks' records. -/
theorem works_modLev (f : Levelling → Levelling) (same : (f s.lev).jacks = s.lev.jacks) (h : Works b s) :
    Works b (modLev f s) :=
  h.trans (.of_view rfl (by simp only [sensed, jackOf, modLev_lev, same]; rfl) rfl)

theorem works_modPlan (f : PlanRec → PlanRec) (h : Works b s) : Works b (modPlan f s) := works_modLev _ rfl h

/-- The engine's marks on a jack. -/
theorem works_modJack (j : Jack) (f : JackRec → JackRec) (marks : ∀ q, (f q).sensed = q.sensed) (h : Works b s) :
    Works b (modJack j f s) := by
  have jacks : ∀ k, (jackOf (modJack j f s) k).sensed = (jackOf s k).sensed := fun k => by
    by_cases e : k = j
    · subst e
      rw [jackOf_modJack_self, marks]
    · rw [jackOf_modJack_ne _ _ _ _ e]
  exact h.trans (.of_view rfl (by simp only [sensed, jacks]; rfl) rfl)

/-- The engine's marks on several jacks. -/
theorem works_modJacks {α : Type} (j : α → Jack) (f : State → α → JackRec → JackRec)
    (marks : ∀ t a q, (f t a q).sensed = q.sensed) (l : List α) (h : Works b s) :
    Works b (l.foldl (fun t a => modJack (j a) (f t a) t) s) :=
  .foldl _ (fun t a k => works_modJack (j a) _ (marks t a) k) l h

theorem plant_modRoom (r : Room) (f : RoomRec → RoomRec) (same : ∀ q, (f q).status = q.status) (s : State) :
    plant (modRoom r f s) = plant s := by
  have rooms : ∀ q, (roomOf (modRoom r f s) q).status = (roomOf s q).status := fun q => by
    by_cases e : q = r
    · subst e
      rw [roomOf_modRoom_self, same]
    · rw [roomOf_modRoom_ne _ _ _ _ e]
  simp only [plant, rooms]
  rfl

/-- A room's own marks, without its level. -/
theorem works_modRoom (r : Room) (f : RoomRec → RoomRec) (same : ∀ q, (f q).status = q.status) (h : Works b s) :
    Works b (modRoom r f s) := h.trans (.of_view rfl rfl (plant_modRoom r f same s))

theorem works_modEnd (r : Room) (e : Side) (f : EndRec → EndRec) (h : Works b s) : Works b (modEnd r e f s) :=
  works_modRoom r _ (fun _ => rfl) h

theorem works_putLearned (i : Nat) (v : Int) (h : Works b s) : Works b (putCfg .learned i v s) :=
  h.trans (.of_view rfl rfl rfl)

/-! ### Reports and memory requests -/

theorem plant_signal (x : Source) (s : State) : plant (signal x s) = plant s := by
  rw [signal_frame]
  rfl

theorem sensed_signal (x : Source) (s : State) : sensed (signal x s) = sensed s := by
  rw [signal_frame]
  rfl

theorem plant_snapshotOnRest (s : State) : plant (snapshotOnRest s) = plant s := by
  unfold snapshotOnRest
  split <;> rfl

theorem sensed_snapshotOnRest (s : State) : sensed (snapshotOnRest s) = sensed s := by
  rw [snapshotOnRest_frame]
  rfl

theorem works_signal (x : Source) (h : Works b s) : Works b (signal x s) :=
  h.trans ⟨grows_signal x s, sensed_signal x s, fun ok => by rwa [plant_signal]⟩

theorem works_snapshotOnRest (h : Works b s) : Works b (snapshotOnRest s) :=
  h.trans (.of_view (snapshotOnRest_link s) (sensed_snapshotOnRest s) (plant_snapshotOnRest s))

theorem works_requestSnapshot (h : Works b s) : Works b (requestSnapshot s) := h.trans (.of_view rfl rfl rfl)

theorem works_requestMarkerClear (h : Works b s) : Works b (requestMarkerClear s) := by
  unfold requestMarkerClear
  split
  · exact h.trans (.of_view rfl rfl rfl)
  · exact h

/-! ### The manifold -/

theorem works_pumpStop (v : Bool) (h : Works b s) : Works b (pumpStop v s) := by
  unfold pumpStop
  split
  · exact h.trans (.of_view rfl rfl rfl)
  · exact h

theorem works_pumpOnCmd (c : Ch) (h : Works b s) : Works b (pumpOnCmd c s) := by
  unfold pumpOnCmd
  split
  · exact h.trans (.of_view rfl rfl rfl)
  · exact h

theorem works_pumpOffCmd (c : Ch) (h : Works b s) : Works b (pumpOffCmd c s) := by
  unfold pumpOffCmd
  split
  · exact works_pumpStop false h
  · exact h

theorem works_openRoomValve (r : Room) (h : Works b s) : Works b (openRoomValve r s) := by
  unfold openRoomValve
  split
  · exact h.trans (.of_view rfl rfl rfl)
  · exact h

theorem valveOpen_setJackValve (j k : Jack) (v : Bool) (s : State) :
    valveOpen (setJackValve j v s) k = if k = j then v else valveOpen s k := by
  by_cases e : k = j
  · subst e
    simp [valveOpen, setJackValve]
  · simp [valveOpen, setJackValve, e, PerJack_get_set_ne _ _ _ _ e]

/-- Jack valves that close. -/
theorem works_closing (v : PerJack Bool) (closing : ∀ j, v.get j = true → s.man.jackValves.get j = true) (h : Works b s) :
    Works b { s with man := { s.man with jackValves := v } } :=
  h.trans ⟨.of_link rfl, rfl, fun ok => ok.of_closing rfl rfl rfl closing fun _ => id⟩

theorem works_shutJack (j : Jack) (h : Works b s) : Works b (setJackValve j false s) :=
  works_closing _ (fun k o => by
    have e := valveOpen_setJackValve j k false s
    split at e
    · rw [show valveOpen (setJackValve j false s) k = true from o] at e
      cases e
    · exact e.symm.trans o) h

theorem works_closeJack (j : Jack) (h : Works b s) : Works b (closeJack j s) := by
  unfold closeJack
  split
  · exact works_shutJack j h
  · exact h

theorem works_closeJackValves (h : Works b s) : Works b (closeJackValves s) :=
  works_closing _ (fun j o => by
    rw [PerJack_get_all] at o
    cases o) h

/-- The holder LEVEL opens a valve only where R46 allows it. -/
theorem works_openJack (j : Jack) (h : Works b s) : Works b (openJack j s) := by
  unfold openJack
  split
  next allowed =>
    simp only [Bool.and_eq_true, commands, beq_iff_eq, Bool.not_eq_true', Bool.and_eq_false_imp] at allowed
    obtain ⟨⟨⟨holder, -⟩, -⟩, free⟩ := allowed
    refine h.trans ⟨.of_link rfl, rfl, fun ok => ⟨ok.live, fun _ _ => holder, fun d r o => ?_⟩⟩
    have out := (someRoomOut_iff s).2 ⟨r, o⟩
    rw [free d] at out
    cases out
  · exact h

/-! ### Writers of posture values -/

theorem works_setLevelStatus (v : LevelStatus) (h : Works b s) : Works b (setLevelStatus v s) := by
  unfold setLevelStatus
  split
  · exact h
  · exact works_snapshotOnRest (works_signal _ (works_modLev _ rfl h))

theorem plant_modRoom_level (r : Room) (v : Pos) (c : Conf) (s : State) :
    plant (modRoom r (fun q => { q with status := v, conf := c }) s) =
      { plant s with roomOut := fun q => if q = r then s.present (.room r) && v != .pin else (plant s).roomOut q } := by
  have out : ∀ q, (plant (modRoom r (fun q => { q with status := v, conf := c }) s)).roomOut q =
      if q = r then s.present (.room r) && v != .pin else (plant s).roomOut q := fun q => by
    by_cases e : q = r
    · subst e
      simp only [plant, roomOf_modRoom_self, if_true]
      rfl
    · simp only [plant, roomOf_modRoom_ne _ _ _ _ e, e, if_false]
      rfl
  exact congrArg (fun f => { plant s with roomOut := f }) (funext out)

/-- A room's level: where a present room leaves IN, R46 closes the valves of a retract. -/
theorem works_setRoomStat (r : Room) (v : Pos) (c : Conf) (h : Works b s) : Works b (setRoomStat r v c s) := by
  have written : ∀ t, t = snapshotOnRest (signal .posture (modRoom r (fun q => { q with status := v, conf := c }) s)) →
      sensed t = sensed s ∧ plant t = plant (modRoom r (fun q => { q with status := v, conf := c }) s) := fun t e => by
    rw [e, sensed_snapshotOnRest, plant_snapshotOnRest, sensed_signal, plant_signal]
    exact ⟨rfl, rfl⟩
  have shut : ∀ t, sensed (closeOnRetract t) = sensed t := fun t => by
    rw [closeOnRetract_frame]
    rfl
  refine h.trans ⟨grows_setRoomStat r v c s, ?_, fun ok => ?_⟩
  · unfold setRoomStat
    extract_lets q s1
    split
    · rfl
    · split
      · exact (shut s1).trans (written s1 rfl).1
      · exact (written s1 rfl).1
  · unfold setRoomStat
    extract_lets q s1
    have view : plant s1 = _ := (written s1 rfl).2.trans (plant_modRoom_level r v c s)
    split
    · exact ok
    · split
      next =>
        have live : s1.power.startingUp = false := (congrArg Plant.startingUp view).trans ok.live
        refine plant_closeOnRetract live ?_
        rw [view]
        exact ok.owned
      next stays =>
        rw [view]
        refine ok.of_closing rfl rfl rfl (fun _ => id) fun x o => ?_
        simp only [] at o
        split at o
        next e =>
          subst e
          simp only [Bool.and_eq_true, bne_iff_ne] at o
          have away : q.status ≠ .pin := fun p => stays ⟨o.1, p, o.2⟩
          simpa [plant, o.1] using away
        next => exact o

theorem works_roomHome (r : Room) (h : Works b s) : Works b (roomHome r s) :=
  works_setRoomStat r _ _ (works_modEnd r _ _ (works_modEnd r _ _ h))

theorem works_setAwnStat (v : Pos) (c : Conf) (h : Works b s) : Works b (setAwnStat v c s) := by
  unfold setAwnStat
  extract_lets s0
  have first : Works b s0 := works_ite (fun _ => works_modSup _ h) fun _ => h
  split
  · exact first
  · exact works_snapshotOnRest (works_signal _ (works_modAwn _ first))

theorem works_awnHome (h : Works b s) : Works b (awnHome s) := works_setAwnStat _ _ (works_modAwn _ h)

/-! ### Alerts and latches -/

theorem works_setAlertCond (a : Alert) (v : Bool) (h : Works b s) : Works b (setAlertCond a v s) := by
  have raised : Works b (modLink (fun l => { l with
      alerts := l.alerts.set a { cond := v, latch := (s.link.alerts.get a).latch || v } }) s) := works_modLink _ rfl h
  exact works_ite (fun _ => h) fun _ => works_ite (fun _ => works_signal _ raised) fun _ => raised

theorem works_refreshAlerts (h : Works b s) : Works b (refreshAlerts s) :=
  .foldl _ (fun _ _ k => works_setAlertCond _ _ k) _ h

theorem works_examineLatch (d : Driver) (h : Works b s) : Works b (examineLatch d s) :=
  works_ite (fun _ => works_modSup _ (works_modMon _ h)) fun _ => h

theorem works_examineLatchesOf (c : Ch) (h : Works b s) : Works b (examineLatchesOf c s) :=
  .foldl _ (fun _ d k => works_examineLatch d k) _ h

theorem works_entersIdle (c : Ch) (h : Works b s) : Works b (entersIdle c s) :=
  works_ite (fun _ => works_modSup _ (works_examineLatchesOf c h)) fun _ => works_examineLatchesOf c h

/-! ### Endings (R16, R17) -/

theorem works_cancel (c : Ch) (d : CancelDetail) (h : Works b s) : Works b (cancel c d s) :=
  works_ite (fun _ => works_entersIdle c (works_signal _ (works_modChan c _ (works_modSup _ h)))) fun _ => h

theorem works_levelOff (h : Works b s) : Works b (levelOff s) := by
  refine h.trans (.of_view rfl ?_ rfl)
  have jacks : ∀ j, (jackOf (levelOff s) j).sensed = (jackOf s j).sensed := fun j => by cases j <;> rfl
  simp only [sensed, jacks]
  rfl

theorem works_brakeEnd (r : Room) (e : Side) (h : Works b s) : Works b (brakeEnd r e s) := works_modEnd r e _ h

theorem works_brakeRoom (r : Room) (h : Works b s) : Works b (brakeRoom r s) :=
  works_brakeEnd r .endB (works_brakeEnd r .endA h)

theorem works_brakeAwning (h : Works b s) : Works b (brakeAwning s) := works_modAwn _ h

theorem works_jobOff (c : Ch) (t : Term) (h : Works b s) : Works b (jobOff c t s) := by
  cases c with
  | level => exact works_ite (fun _ => works_closeJackValves (works_levelOff h)) fun _ => works_levelOff h
  | room r => exact works_brakeRoom r h
  | awning => exact works_brakeAwning h

theorem works_electricEnd (r : Room) (t : Term) (h : Works b s) : Works b (electricEnd r t s) :=
  works_ite (fun _ => works_ite (fun _ => works_setRoomStat r _ _ h) fun _ => works_roomHome r h) fun _ =>
    works_ite (fun _ => works_setRoomStat r _ _ h) fun _ => works_setRoomStat r _ _ h

theorem works_awningEnd (t : Term) (h : Works b s) : Works b (awningEnd t s) :=
  works_ite (fun _ => works_awnHome h) fun _ =>
    works_ite (fun _ => works_setAwnStat _ _ h) fun _ => works_setAwnStat _ _ h

theorem works_endWrite (c : Ch) (t : Term) (h : Works b s) : Works b (endWrite c t s) := by
  cases c with
  | level => exact works_setLevelStatus _ h
  | room r => exact works_ite (fun _ => works_setRoomStat r _ _ h) fun _ => works_electricEnd r t h
  | awning => exact works_awningEnd t h

theorem works_endRunning (c : Ch) (t : Term) (w : State → State) (hw : ∀ u, Works b u → Works b (w u)) (h : Works b s) :
    Works b (endRunning c t w s) := by
  have written := hw _ (works_jobOff c t (works_modChan c (stoppedRec s c t) h))
  exact works_signal _ (works_ite (fun _ => works_pumpStop _ written) fun _ => written)

theorem works_roomsInLost (h : Works b s) : Works b (roomsInLost s) := by
  have lost := works_cancel .level .interlock h
  exact works_ite (fun _ => works_ite (fun _ => works_endRunning _ _ _ (fun _ => works_endWrite _ _) lost) fun _ => lost)
    fun _ => h

theorem works_lateSwitch (c : Ch) (t : Term) (h : Works b s) : Works b (lateSwitch c t s) := by
  cases c with
  | level => exact h
  | room r =>
    exact works_ite (fun _ => works_roomHome r (works_ite (fun _ => works_roomsInLost h) fun _ => h)) fun _ => h
  | awning => exact works_ite (fun _ => works_awnHome (works_modAwn _ h)) fun _ => h

theorem works_terminateWith (c : Ch) (t : Term) (w : State → State) (hw : ∀ u, Works b u → Works b (w u)) (h : Works b s) :
    Works b (terminateWith c t w s) :=
  works_ite (fun _ => works_endRunning c t _ (fun u k => works_lateSwitch c t (hw u k)) h) fun _ => h

theorem works_terminate (c : Ch) (t : Term) (h : Works b s) : Works b (terminate c t s) :=
  works_terminateWith c t _ (fun _ => works_endWrite c t) h

theorem works_fail (c : Ch) (k : FaultKind) (w : Subject) (h : Works b s) : Works b (fail c k w s) := works_terminate c _ h

theorem works_endMotion (c : Ch) (d : CancelDetail) (t : Term) (h : Works b s) : Works b (endMotion c d t s) :=
  works_terminate c t (works_cancel c d h)

end

end Sys2Proof.Machine
end

section
/-! PROOF. The job blocks' work on motions: the levelling engine, HYDRAULIC and electric rooms, and the awning. -/

namespace Sys2Proof.Machine

section
variable {b s : State}

/-! ### The levelling engine -/

theorem works_openJacksCmd (l : List Jack) (h : Works b s) : Works b (openJacksCmd l s) :=
  .foldl _ (fun _ j k => works_openJack j k) l h

theorem works_closeJacksCmd (l : List Jack) (h : Works b s) : Works b (closeJacksCmd l s) :=
  .foldl _ (fun _ j k => works_closeJack j k) l h

theorem works_levelPumpOff (h : Works b s) : Works b (levelPumpOff s) := works_modLev _ rfl (works_pumpOffCmd .level h)

theorem works_levelSensorLoss (w : Subject) (h : Works b s) : Works b (levelSensorLoss w s) :=
  works_ite (fun _ => works_fail _ _ _ (works_closeJacksCmd _ h)) fun _ => h

theorem works_endTrim (h : Works b s) : Works b (endTrim s) :=
  works_ite (fun _ => works_fail _ _ _ h) fun _ => works_terminate _ _ (works_signal _ (works_modPlan _ h))

theorem works_startStep (l : List Jack) (h : Works b s) : Works b (startStep l s) := by
  have targets : Works b (l.foldl (fun t j =>
      modJack j (fun q => { q with stepTarget := some (min (q.stroke + 2) (trimCap s j)) }) t) s) :=
    works_modJacks id (fun _ j q => { q with stepTarget := some (min (q.stroke + 2) (trimCap s j)) }) (fun _ _ _ => rfl) l h
  unfold startStep
  exact works_modLev _ rfl (works_pumpOnCmd .level (works_openJacksCmd l targets))

theorem works_midTest (h : Works b s) : Works b (midTest s) :=
  works_ite (fun _ => works_startStep _ h) fun _ => works_endTrim h

theorem works_trimTest (h : Works b s) : Works b (trimTest s) :=
  works_ite (fun _ => works_startStep _ h) fun _ => works_midTest (works_modLev _ rfl h)

theorem works_enterTrim (o : PlanOutcome) (h : Works b s) : Works b (enterTrim o s) :=
  works_trimTest (works_modPlan _ (works_modLev _ rfl h))

theorem works_startSettle (h : Works b s) : Works b (startSettle s) := by
  have begun : Works b (modLev (fun l => { l with sub := .settling, settleSince := s.now, ring := [], stall := none }) s) :=
    works_modLev _ rfl h
  exact works_ite (fun _ => begun) fun _ => works_levelSensorLoss _ begun

theorem works_enterMeasure (h : Works b s) : Works b (enterMeasure s) := by
  unfold enterMeasure
  extract_lets air s1 s2
  have first : Works b s1 := works_modLev _ rfl h
  have second : Works b s2 := works_modJacks id (fun _ _ q => { q with close := none }) (fun _ _ _ => rfl) air first
  exact works_ite (fun _ => works_pumpOnCmd _ (works_openJacksCmd _ second)) fun _ => works_startSettle first

theorem works_clearLifts (h : Works b s) : Works b (clearLifts s) :=
  works_modJacks id (fun _ _ q => { q with lift := none, target := none }) (fun _ _ _ => rfl) allJacks h

theorem works_enterLift (l : List PlanLift) (h : Works b s) : Works b (enterLift l s) := by
  unfold enterLift
  extract_lets s1 s2 m
  have second : Works b s2 :=
    works_modJacks PlanLift.jack (fun _ p q => { q with lift := some p.lift, target := some p.target, close := none })
      (fun _ _ _ => rfl) l (works_modLev _ rfl h)
  exact works_ite (fun _ => works_pumpOnCmd _ (works_openJacksCmd _ second)) fun _ =>
    works_enterMeasure (works_clearLifts second)

theorem works_makePlan (g : Grad) (sat : Bool) (h : Works b s) : Works b (makePlan g sat s) := by
  unfold makePlan
  extract_lets c s0 inp k l s1
  have first : Works b s0 := works_modLev _ rfl h
  have second : Works b s1 := works_modPlan _ first
  split
  · exact works_fail _ _ _ first
  split
  · exact works_fail _ _ _ first
  split
  · exact works_fail _ _ _ first
  split
  · exact works_enterTrim _ first
  split
  · exact works_enterTrim _ second
  · exact works_enterLift _ (works_modPlan _ (works_modLev _ rfl second))

theorem works_learnJackCoasts (h : Works b s) : Works b (learnJackCoasts s) :=
  .foldl _ (fun t j k => by
    split
    · exact works_modJack j (fun q => { q with close := none }) (fun _ => rfl) (works_putLearned _ _ k)
    · exact k) _ h

theorem works_settleEnd (gaveUp : Bool) (h : Works b s) : Works b (settleEnd gaveUp s) := by
  unfold settleEnd
  extract_lets g sat s1 s2
  have first : Works b s1 := works_modLev _ rfl (works_learnJackCoasts (works_modPlan _ h))
  have second : Works b s2 := works_modPlan _ first
  split
  · exact works_ite (fun _ => works_enterTrim _ first) fun _ =>
      works_ite (fun _ => works_makePlan _ _ first) fun _ => works_enterTrim _ first
  · exact works_ite (fun _ => works_terminate _ _ (works_modPlan _ second)) fun _ => works_makePlan _ _ second

theorem works_enterSettle (h : Works b s) : Works b (enterSettle s) := works_startSettle (works_modLev _ rfl h)

theorem works_enterGround (h : Works b s) : Works b (enterGround s) := by
  unfold enterGround
  extract_lets s1 s2 m
  have first : Works b s1 := works_modLev _ rfl h
  have second : Works b s2 :=
    works_modJacks id (fun _ _ q => { q with
      closedHere := false
      ground := if q.contact = .ground ∧ q.ground = none then some q.stroke else q.ground }) (fun _ _ _ => rfl) _ first
  split
  · exact works_levelSensorLoss _ first
  · exact works_ite (fun _ => works_enterSettle second) fun _ => works_pumpOnCmd _ (works_openJacksCmd _ second)

theorem works_closeGrounded (mark : Bool) (h : Works b s) : Works b (closeGrounded mark s) :=
  .foldl _ (fun _ j k => works_ite (fun _ =>
    works_modJack j (fun q => { q with closedHere := q.closedHere || mark }) (fun _ => rfl) (works_closeJack j k)) fun _ => k) _ h

theorem works_groundReact (h : Works b s) : Works b (groundReact s) := by
  unfold groundReact
  extract_lets s1 lost s2
  have second : Works b s2 := works_openJacksCmd _ (works_closeGrounded true h)
  split
  · exact works_fail _ _ _ second
  · exact works_ite (fun _ => works_enterSettle (works_levelPumpOff second)) fun _ => second

theorem works_regroundReact (h : Works b s) : Works b (regroundReact s) := by
  unfold regroundReact
  extract_lets s1
  have first : Works b s1 := works_closeGrounded false h
  split
  · exact works_fail _ _ _ first
  · exact works_ite (fun _ => works_startSettle (works_levelPumpOff first)) fun _ => first

theorem works_liftReact (h : Works b s) : Works b (liftReact s) := by
  unfold liftReact
  extract_lets s1
  have first : Works b s1 := .foldl _ (fun _ j k => works_ite (fun _ =>
    works_modJack j (fun q => { q with close := some q.stroke }) (fun _ => rfl) (works_closeJack j k)) fun _ => k) _ h
  exact works_ite (fun _ => works_enterMeasure (works_clearLifts (works_levelPumpOff first))) fun _ => first

theorem works_trimReact (h : Works b s) : Works b (trimReact s) := by
  unfold trimReact
  extract_lets s1 stepped s2
  have first : Works b s1 := .foldl _ (fun _ j k => by
    split
    · exact works_ite (fun _ => works_closeJack j k) fun _ => k
    · exact k) _ h
  have second : Works b s2 := .foldl _ (fun _ j k =>
    works_modJack j (fun q => { q with stepTarget := none }) (fun _ => rfl) (works_modPlan _ k)) _ (works_levelPumpOff first)
  exact works_ite (fun _ => works_modLev _ rfl second) fun _ => first

theorem works_enterStow (h : Works b s) : Works b (enterStow s) := by
  have first : Works b (modLev (fun l => { l with phase := .stow, sub := .none, phaseSince := s.now }) s) :=
    works_modLev _ rfl h
  exact works_ite (fun _ => works_terminate _ _ first) fun _ => works_pumpOnCmd _ (works_openJacksCmd _ first)

theorem works_stowReact (h : Works b s) : Works b (stowReact s) := by
  have first := works_closeJacksCmd ((jacksWith s (· == .stowed)).filter (fun j => valveOpen s j)) h
  exact works_ite (fun _ => works_terminate _ _ (works_levelPumpOff first)) fun _ => first

theorem works_enterJog (operand : Nat) (h : Works b s) : Works b (enterJog operand s) := by
  unfold enterJog
  extract_lets s1 m s2 s3
  have first : Works b s1 := works_modLev _ rfl h
  have third : Works b s3 :=
    works_modJacks id (fun _ _ q => { q with jogged := true }) (fun _ _ _ => rfl) _ (works_openJacksCmd m first)
  exact works_ite (fun _ => works_terminate _ _ first) fun _ => works_ite (fun _ => third) fun _ => works_pumpOnCmd _ third

theorem works_jogReact (h : Works b s) : Works b (jogReact s) := by
  have first := works_closeJacksCmd ((presentJacks s).filter (fun j => valveOpen s j && jogEnds s j)) h
  exact works_ite (fun _ => works_terminate _ _ (works_levelPumpOff first)) fun _ => first

theorem works_levelBegin (o : Op) (operand : Nat) (h : Works b s) : Works b (levelBegin o operand s) := by
  unfold levelBegin
  extract_lets s1 s2 s3
  have first : Works b s1 := works_setLevelStatus _ h
  have second : Works b s2 := by
    cases o with
    | autoLevel => exact works_modLev _ rfl first
    | stabilise => exact works_modLev _ rfl first
    | stow => exact works_modJacks id (fun _ _ q => { q with ground := none }) (fun _ _ _ => rfl) _ (works_modLev _ rfl first)
    | _ => exact first
  have third : Works b s3 := works_modLev _ rfl second
  clear_value s3
  split
  · exact works_enterStow third
  · exact works_enterJog _ third
  · exact works_enterGround third

theorem works_levelReact (h : Works b s) : Works b (levelReact s) := by
  unfold levelReact
  split
  · split
    · exact works_groundReact h
    · exact works_liftReact h
    · exact works_ite (fun _ => works_regroundReact h) fun _ => h
    · exact works_ite (fun _ => works_trimReact h) fun _ => h
    · exact works_stowReact h
    · exact works_jogReact h
    · exact h
  · exact h

theorem works_stallSample (h : Works b s) : Works b (stallSample s) := by
  unfold stallSample
  split
  · extract_lets refs
    split
    · exact works_modLev _ rfl h
    · exact works_ite (fun _ => works_modLev _ rfl h) fun _ => h
  · exact works_modLev _ rfl h

theorem works_pushRing (e : RingEntry) (h : Works b s) : Works b (pushRing e s) := works_modLev _ rfl h

theorem works_settleCheck (h : Works b s) : Works b (settleCheck s) := works_ite (fun _ => works_settleEnd false h) fun _ => h

theorem works_captureZero (h : Works b s) : Works b (captureZero s) :=
  works_modPlan _ (works_modLev _ rfl (works_putLearned _ _ (works_putLearned _ _ h)))

theorem works_driftPoll (h : Works b s) : Works b (driftPoll s) := by
  unfold driftPoll
  exact works_modLev _ rfl h

/-! ### HYDRAULIC rooms -/

theorem works_hydraulicBegin (r : Room) (o : Op) (h : Works b s) : Works b (hydraulicBegin r o s) := by
  unfold hydraulicBegin
  extract_lets s1
  have first : Works b s1 := works_ite (fun _ => h) fun _ => works_setRoomStat r _ _ h
  exact works_ite (fun _ => works_fail _ _ _ (works_roomsInLost first)) fun _ =>
    works_pumpOnCmd _ (works_openRoomValve r first)

theorem works_hydraulicArrive (r : Room) (h : Works b s) : Works b (hydraulicArrive r s) :=
  works_ite (fun _ => works_terminateWith _ _ _ (fun _ => works_setRoomStat r _ _) h) fun _ =>
    works_terminateWith _ _ _ (fun _ => works_setRoomStat r _ _) h

theorem works_limitChange (r : Room) (out active : Bool) (h : Works b s) : Works b (limitChange r out active s) :=
  works_ite (fun _ => works_ite (fun _ => works_setRoomStat r _ _ h) fun _ =>
    works_ite (fun _ => works_setRoomStat r _ _ h) fun _ => works_ite (fun _ => works_setRoomStat r _ _ h) fun _ => h) fun _ => h

theorem works_applyLimits (r : Room) (restored : Bool) (h : Works b s) : Works b (applyLimits r restored s) :=
  works_ite (fun _ => works_setRoomStat r _ _ h) fun _ => works_ite (fun _ => works_setRoomStat r _ _ h) fun _ =>
    works_ite (fun _ => works_setRoomStat r _ _ h) fun _ => works_ite (fun _ => works_setRoomStat r _ _ h) fun _ => h

theorem works_lineFaultEnds (h : Works b s) : Works b (lineFaultEnds s) :=
  .foldl _ (fun _ _ k => works_ite (fun _ => works_fail _ _ _ k) fun _ => k) _ h

/-! ### Electric rooms -/

theorem works_driveEnd (r : Room) (e : Side) (outward : Bool) (h : Works b s) : Works b (driveEnd r e outward s) :=
  works_ite (fun _ => h) fun _ => works_modEnd r e _ h

theorem works_driveEnds (r : Room) (l : List Side) (outward : Bool) (h : Works b s) : Works b (driveEnds r l outward s) :=
  .foldl _ (fun _ e k => works_driveEnd r e outward k) l h

theorem works_arriveOnTarget (r : Room) (h : Works b s) : Works b (arriveOnTarget r s) :=
  works_terminate _ _ (works_modRoom r (fun q => { q with onTarget := true }) (fun _ => rfl) h)

theorem works_beginAutoExtend (r : Room) (stroke : Int) (h : Works b s) : Works b (beginAutoExtend r stroke s) := by
  unfold beginAutoExtend
  extract_lets s1
  have first : Works b s1 := .foldl _ (fun _ e k => works_modEnd r e _ k) _ h
  exact works_ite (fun _ => works_arriveOnTarget r first) fun _ => works_driveEnds r _ _ first

theorem works_roomBegin (r : Room) (o : Op) (h : Works b s) : Works b (roomBegin r o s) := by
  unfold roomBegin
  extract_lets z s1 w s2
  have first : Works b s1 := works_modRoom r
    (fun q => { q with candidate := none, onTarget := false, leg := if o = .learn then .out else .none }) (fun _ => rfl)
    (works_modEnd r _ _ (works_modEnd r _ _ h))
  have second : Works b s2 := works_ite (fun _ => works_modRoom r (fun q => { q with homeSearch := true }) (fun _ => rfl)
    (works_modEnd r _ _ (works_modEnd r _ _ first))) fun _ => first
  clear_value s1 s2
  split
  · exact works_ite (fun _ => works_terminateWith _ _ _ (fun _ => works_setRoomStat r _ _) first) fun _ =>
      works_terminate _ _ first
  · split
    · split
      · exact works_beginAutoExtend r _ first
      · exact works_driveEnds r _ _ first
    · exact works_driveEnds r _ _ first
    · exact works_ite (fun _ => works_terminate _ _ first) fun _ => works_driveEnds r _ _ second

theorem works_targetCheck (r : Room) (e : Side) (h : Works b s) : Works b (targetCheck r e s) := by
  unfold targetCheck
  extract_lets q
  split
  · have off : Works b (modEnd r e (fun q => { q with driveOff := some q.count, paused := false }) (brakeEnd r e s)) :=
      works_modEnd r e _ (works_brakeEnd r e h)
    exact works_ite (fun _ => works_ite (fun _ => works_arriveOnTarget r off) fun _ =>
      works_ite (fun _ => works_driveEnd r _ _ off) fun _ => off) fun _ => h
  · exact h

theorem works_leadCheck (r : Room) (e : Side) (outward : Bool) (h : Works b s) : Works b (leadCheck r e outward s) :=
  works_ite (fun _ => works_ite (fun _ => works_driveEnd r e _ h) fun _ => h) fun _ =>
    works_ite (fun _ => works_modEnd r e _ (works_brakeEnd r e h)) fun _ => h

theorem works_syncCheck (r : Room) (h : Works b s) : Works b (syncCheck r s) :=
  works_ite (fun _ => works_leadCheck r _ _ (works_leadCheck r _ _ h)) fun _ => h

theorem works_rangeCheck (r : Room) (h : Works b s) : Works b (rangeCheck r s) :=
  works_ite (fun _ => works_fail _ _ _ h) fun _ => works_ite (fun _ => works_fail _ _ _ h) fun _ => h

theorem works_afterCount (r : Room) (e : Side) (h : Works b s) : Works b (afterCount r e s) :=
  works_ite (fun _ => h) fun _ => works_ite (fun _ => works_fail _ _ _ h) fun _ =>
    works_ite (fun _ => works_targetCheck r e h) fun _ => works_rangeCheck r (works_syncCheck r (works_targetCheck r e h))

theorem works_leaveOut (r : Room) (h : Works b s) : Works b (leaveOut r s) :=
  works_ite (fun _ => works_setRoomStat r _ _ h) fun _ => h

theorem works_roomPulse (r : Room) (e : Side) (h : Works b s) : Works b (roomPulse r e s) :=
  works_ite (fun _ => works_afterCount r e (works_leaveOut r (works_modEnd r e _ h))) fun _ => h

theorem works_roomLateExpiry (r : Room) (e : Side) (h : Works b s) : Works b (roomLateExpiry r e s) :=
  works_ite (fun _ => works_afterCount r e (works_leaveOut r (works_modEnd r e _ h))) fun _ => works_fail _ _ _ h

theorem works_learnOutStall (r : Room) (h : Works b s) : Works b (learnOutStall r s) := by
  unfold learnOutStall
  extract_lets n clear
  exact works_ite (fun _ => works_fail _ _ _ h) fun _ =>
    works_modRoom r (fun q => { q with candidate := some n, leg := .reversal, reversalUntil := s.now + 150 }) (fun _ => rfl)
      (works_modEnd r _ _ (works_modEnd r _ _ (works_brakeRoom r h)))

theorem works_roomStalled (r : Room) (e : Side) (h : Works b s) : Works b (roomStalled r e s) := by
  unfold roomStalled
  split
  · split
    · exact works_ite (fun _ => works_terminate _ _ h) fun _ => works_fail _ _ _ h
    · exact works_terminate _ _ h
  · exact works_ite (fun _ => works_learnOutStall r h) fun _ => works_fail _ _ _ h
  · exact works_fail _ _ _ h

theorem works_switchHome (r : Room) (h : Works b s) : Works b (switchHome r s) := by
  unfold switchHome
  split
  · exact works_terminate _ _ (works_modRoom r (fun q => { q with candidate := none }) (fun _ => rfl) (works_putLearned _ _ h))
  · exact works_terminate _ _ h

theorem works_learnReverse (r : Room) (h : Works b s) : Works b (learnReverse r s) := by
  unfold learnReverse
  extract_lets s1
  have first : Works b s1 := works_driveEnds r _ _ (works_modRoom r (fun q => { q with leg := .inward }) (fun _ => rfl) h)
  exact works_ite (fun _ => works_switchHome r first) fun _ => first

theorem works_roomSwitch (r : Room) (active : Bool) (h : Works b s) : Works b (roomSwitch r active s) := by
  have first : Works b (modRoom r (fun q => { q with inSwitch := active }) s) := works_modRoom r _ (fun _ => rfl) h
  exact works_ite (fun _ => first) fun _ =>
    works_ite (fun _ => works_ite (fun _ => works_setRoomStat r _ _ first) fun _ => first) fun _ =>
      works_ite (fun _ => works_ite (fun _ => first) fun _ => works_switchHome r first) fun _ => works_roomHome r first

theorem works_learnEndCoast (r : Room) (e : Side) (h : Works b s) : Works b (learnEndCoast r e s) := by
  unfold learnEndCoast
  extract_lets q
  split
  · exact works_putLearned _ _ h
  · exact h

theorem works_roomStopped (r : Room) (h : Works b s) : Works b (roomStopped r s) := by
  have learned : Works b (if endsLearn s r then (roomEnds s r).foldl (fun t e => learnEndCoast r e t) s else s) :=
    works_ite (fun _ => .foldl _ (fun _ e k => works_learnEndCoast r e k) _ h) fun _ => h
  exact works_modRoom r (fun q => { q with homeSearch := false, candidate := none, leg := .none, onTarget := false })
    (fun _ => rfl) (works_modEnd r _ _ (works_modEnd r _ _ learned))

/-! ### The awning -/

theorem works_driveAwning (outward : Bool) (h : Works b s) : Works b (driveAwning outward s) :=
  works_ite (fun _ => h) fun _ => works_modAwn _ h

theorem works_awningBegin (o : Op) (operand : Nat) (h : Works b s) : Works b (awningBegin o operand s) := by
  unfold awningBegin
  extract_lets s1 s2
  have first : Works b s1 := works_modAwn _ h
  have second : Works b s2 := works_modAwn _ first
  clear_value s1 s2
  split
  · exact works_ite (fun _ => works_driveAwning _ first) fun _ =>
      works_ite (fun _ => works_terminateWith _ _ _ (fun _ => id) second) fun _ => works_driveAwning _ second
  · exact works_ite (fun _ => works_terminate _ _ first) fun _ =>
      works_driveAwning _ (works_ite (fun _ => works_modAwn _ first) fun _ => first)

theorem works_awningArrive (v : Pos) (h : Works b s) : Works b (awningArrive v s) :=
  works_terminateWith _ _ _ (fun _ => works_setAwnStat _ _) h

theorem works_afterAwnCount (h : Works b s) : Works b (afterAwnCount s) := by
  unfold afterAwnCount
  split
  · exact h
  split
  · split
    · exact works_ite (fun _ => works_awningArrive _ (works_modAwn _ (works_brakeAwning h))) fun _ => h
    · exact h
  · exact works_ite (fun _ => works_fail _ _ _ h) fun _ => h

theorem works_awnLeaveOut (h : Works b s) : Works b (awnLeaveOut s) := works_ite (fun _ => works_setAwnStat _ _ h) fun _ => h

theorem works_awningPulse (h : Works b s) : Works b (awningPulse s) :=
  works_ite (fun _ => works_afterAwnCount (works_awnLeaveOut (works_modAwn _ h))) fun _ => h

theorem works_awningLateExpiry (h : Works b s) : Works b (awningLateExpiry s) :=
  works_ite (fun _ => works_afterAwnCount (works_awnLeaveOut (works_modAwn _ h))) fun _ => works_fail _ _ _ h

theorem works_awningStalled (h : Works b s) : Works b (awningStalled s) := by
  unfold awningStalled
  split
  · split
    · exact works_ite (fun _ => works_awningArrive _ h) fun _ => works_fail _ _ _ h
    · exact works_ite (fun _ => works_awningArrive _ (works_putLearned _ _ h)) fun _ => works_fail _ _ _ h
  · exact works_fail _ _ _ h

theorem works_awningSwitch (active : Bool) (h : Works b s) : Works b (awningSwitch active s) := by
  have first : Works b (modAwn (fun a => { a with inSwitch := active }) s) := works_modAwn _ h
  have second : Works b (modAwn (fun a => { a with switchLate := false }) (modAwn (fun a => { a with inSwitch := active }) s)) :=
    works_modAwn _ first
  exact works_ite (fun _ => first) fun _ =>
    works_ite (fun _ => works_ite (fun _ => works_setAwnStat _ _ second) fun _ => second) fun _ =>
      works_ite (fun _ => works_ite (fun _ => works_modAwn _ first) fun _ => works_terminate _ _ first) fun _ =>
        works_awnHome first

theorem works_awningStopped (h : Works b s) : Works b (awningStopped s) := by
  unfold awningStopped
  extract_lets s1
  have first : Works b s1 := by
    simp only [s1]
    split
    · exact works_ite (fun _ => works_putLearned _ _ h) fun _ => h
    · exact h
  exact works_modAwn _ first

theorem works_jobBegin (c : Ch) (o : Op) (operand : Nat) (h : Works b s) : Works b (jobBegin c o operand s) := by
  cases c with
  | level => exact works_levelBegin o operand h
  | room r => exact works_ite (fun _ => works_hydraulicBegin r o h) fun _ => works_roomBegin r o h
  | awning => exact works_awningBegin o operand h

theorem works_jobStopped (c : Ch) (h : Works b s) : Works b (jobStopped c s) := by
  cases c with
  | level => exact h
  | room r => exact works_ite (fun _ => h) fun _ => works_roomStopped r h
  | awning => exact works_awningStopped h

end

end Sys2Proof.Machine
end

section
/-! PROOF. The supervisor's work, the pendant, power control and the wind watch; what settles and concludes a step. -/

namespace Sys2Proof.Machine

section
variable {b s : State}

/-! ### START and the admission scan (R4 to R11) -/

theorem works_accept (c : Ch) (o : Op) (hold : Bool) (v : Nat) (w : Owner) (cause : Option AutoCause) (h : Works b s) :
    Works b (accept c o hold v w cause s) := by
  unfold accept
  have waits := works_modSup (fun u => { u with queue := u.queue ++ [⟨c, s.now⟩], scanDue := true })
    (works_modChan c (acceptedRec s c o hold v w cause) h)
  exact works_signal _ (works_ite (fun _ => works_modLev _ rfl waits) fun _ => waits)

theorem works_startMotion (c : Ch) (o : Op) (hold : Bool) (v : Nat) (w : Owner) (cause : Option AutoCause) (h : Works b s) :
    Works b (startMotion c o hold v w cause s).2 := by
  obtain e | ⟨-, e⟩ | ⟨-, -, e⟩ | ⟨-, -, -, -, e⟩ := startMotion_cases c o hold v w cause s
  · rwa [e]
  · rw [e]
    exact works_modChan c (fun q => { q with deferred := some ⟨o, cause⟩ }) h
  · rw [e]
    exact works_captureZero h
  · rw [e]
    exact works_accept _ _ _ _ _ _ h

theorem works_sweep (h : Works b s) : Works b (sweep s) := .foldl _ (fun _ _ k => works_endMotion _ _ _ k) _ h

theorem works_setWaiting (c : Ch) (w : Waiting) (h : Works b s) : Works b (setWaiting c w s) :=
  works_ite (fun _ => h) fun _ => works_signal _ (works_modChan _ _ h)

/-- The pump is taken only without a holder, and then no jack valve is open (R8, R43). -/
theorem works_takePump (c : Ch) (d : Dir) (free : s.man.pump.holder = none) (h : Works b s) : Works b (takePump c d s) := by
  refine h.trans ⟨.of_link rfl, rfl, fun ok => .of_closed ok.live fun j => ?_⟩
  by_contra opened
  have valve : valveOpen s j = true := Bool.eq_true_of_not_eq_false opened
  have held : s.man.pump.holder = some .level := ok.owned j valve
  rw [free] at held
  cases held

theorem works_handOver (c : Ch) (o : Op) (free : needsPump s c = true → s.man.pump.holder = none) (h : Works b s) :
    Works b (handOver c o s) := by
  have reserved : Works b (modMon (fun m => { m with resv := m.resv.set c (some ⟨demandOf s c, automaticRetract s c⟩) })
      (modChan c (fun q => { q with waiting := none })
        (modSup (fun u => { u with queue := u.queue.filter (fun e => e.ch != c) }) s))) :=
    works_modMon _ (works_modChan _ _ (works_modSup _ h))
  unfold handOver
  exact works_signal _ (works_modChan _ _ (works_requestMarkerClear
    (works_ite (fun pump => works_takePump c _ (free pump) reserved) fun _ => reserved)))

theorem works_admitChan (c : Ch) (free : needsPump s c = true → s.man.pump.holder = none) (h : Works b s) :
    Works b (admitChan c s) := by
  cases op : (chanOf s c).op with
  | none =>
    rw [admitChan_none c s op]
    exact h
  | some o =>
    rw [admitChan_eq c o s op]
    have entry := works_sweep (works_handOver c o free h)
    exact works_ite (fun _ => works_jobBegin c o _ entry) fun _ => entry

theorem works_walkEntry {w : Walk} (e : QEntry) (h : Works b w.st) : Works b (walkEntry w e).st := by
  unfold walkEntry
  extract_lets s
  split
  · exact h
  split
  · exact works_setWaiting _ _ h
  split
  · exact works_setWaiting _ _ h
  split
  · exact works_setWaiting _ _ h
  next pump =>
  split
  · exact works_setWaiting _ _ h
  · refine works_admitChan e.ch (fun needs => ?_) h
    have free : pumpFree w.st = true := by
      by_contra n
      exact pump (by simp [s, needs, n])
    simp only [pumpFree, Bool.and_eq_true, Option.isNone_iff_eq_none] at free
    exact free.1.1

theorem works_scan (h : Works b s) : Works b (scan s) := by
  have walk : ∀ (l : List QEntry) (w : Walk), Works b w.st → Works b (l.foldl walkEntry w).st := fun l => by
    induction l with
    | nil => exact fun _ => id
    | cons e l ih => exact fun w k => ih _ (works_walkEntry e k)
  exact walk _ ⟨modSup (fun u => { u with scanDue := false }) s, false, false⟩
    (works_modSup (fun u => { u with scanDue := false }) h)

/-! ### What settles and concludes a step -/

theorem works_protectiveRequest (cause : AutoCause) (h : Works b s) : Works b (protectiveRequest cause s) :=
  works_ite (fun _ => h) fun _ => works_ite (fun _ => works_modSup _ h) fun _ =>
    works_modSup _ (works_startMotion _ _ _ _ _ _ (works_ite (fun _ => works_endMotion _ _ _ h) fun _ => h))

theorem works_requestOwed (h : Works b s) : Works b (requestOwed s) := by
  cases o : s.sup.owed with
  | none =>
    rw [requestOwed_none o]
    exact works_modSup _ h
  | some cause =>
    rw [requestOwed_some o]
    exact works_protectiveRequest cause (works_modSup _ h)

theorem works_settleRound (h : Works b s) : Works b (settleRound s) := by
  unfold settleRound
  extract_lets s1 s2
  have first : Works b s1 := works_sweep h
  have second : Works b s2 := works_ite (fun _ => works_requestOwed first) fun _ => first
  exact works_ite (fun _ => works_scan second) fun _ => second

theorem works_settle (h : Works b s) : Works b (settle s) := by
  have rounds : ∀ (n : Nat) (t : State), Works b t → Works b (settleRounds n t) := fun n => by
    induction n with
    | zero => exact fun _ => id
    | succ n ih => exact fun t k => works_ite (fun _ => k) fun _ => ih _ (works_settleRound k)
  exact rounds 40 s h

theorem works_endDriveAway (h : Works b s) : Works b (endDriveAway s) := works_modSup _ h

theorem works_driveAwayCheck (h : Works b s) : Works b (driveAwayCheck s) := works_ite (fun _ => works_endDriveAway h) fun _ => h

theorem works_startJob (h : Works b s) : Works b (startJob s) := by
  have view : plant (startJob s) = plant s := by
    unfold startJob
    split <;> rfl
  refine h.trans (.of_view (startJob_link s) ?_ view)
  rw [startJob_frame]
  rfl

theorem works_conclude (h : Works b s) : Works b (conclude s) := by
  unfold conclude refreshOutputs
  exact works_startJob (works_modTerm _ (works_refreshAlerts (works_driveAwayCheck (works_settle h))))

/-! ### Drive-away, ALL_STOP, the pendant and the ends of motions -/

theorem works_autoStow (h : Works b s) : Works b (autoStow s) := works_ite (fun _ => works_startMotion _ _ _ _ _ _ h) fun _ => h

theorem works_driveAwayBegin (by_ : Item) (h : Works b s) : Works b (driveAwayBegin by_ s) := by
  have begun := works_setAlertCond .driveAway true
    (works_modSup (fun u => { u with driveAway := true, driveAwayBy := by_ }) h)
  exact works_ite (fun _ => h) fun _ => works_autoStow (works_ite (fun _ => works_protectiveRequest _ begun) fun _ => begun)

theorem works_allStop (h : Works b s) : Works b (allStop s) :=
  .foldl _ (fun _ c k => works_ite (fun _ => works_ite (fun _ => works_modChan c _ (works_endMotion c _ _ k)) fun _ =>
    works_endMotion c _ _ k) fun _ => k) _ h

theorem works_releaseMotion (c : Ch) (h : Works b s) : Works b (releaseMotion c s) := works_endMotion c _ _ h

theorem works_pendantRelease (c : Ch) (h : Works b s) : Works b (pendantRelease c s) :=
  works_ite (fun _ => works_releaseMotion c h) fun _ => h

/-- The holder's release closes its valves (R45). -/
theorem works_releasePump (c : Ch) (h : Works b s) : Works b (releasePump c s) := by
  unfold releasePump
  split
  next holds =>
    refine h.trans ⟨.of_link rfl, rfl, fun ok => .of_closed ok.live fun j => ?_⟩
    by_cases e : c = .level
    · subst e
      exact PerJack_get_all false j
    · by_contra opened
      have valve : valveOpen s j = true := by
        simpa [plant, valveOpen, modMan, e] using opened
      have held : s.man.pump.holder = some .level := ok.owned j valve
      rw [holds] at held
      exact e (Option.some.inj held)
  next => exact h

theorem works_takeDeferred (c : Ch) (h : Works b s) : Works b (takeDeferred c s) := by
  unfold takeDeferred
  split
  · exact h
  · extract_lets s1 p
    have start : Works b p.2 := works_startMotion _ _ _ _ _ _ (works_modChan _ _ h)
    clear_value p
    split
    · exact start
    · exact works_ite (fun _ => works_modSup _ start) fun _ => start
    · exact works_modSup _ start

theorem works_stoppingEnd (c : Ch) (h : Works b s) : Works b (stoppingEnd c s) := by
  unfold stoppingEnd
  extract_lets s1 z s2 s3 s4
  have first : Works b s1 := works_releasePump c (works_modMon _ (works_jobStopped c h))
  have second : Works b s2 := works_signal _ (works_modChan c _ first)
  have third : Works b s3 := works_ite (fun _ => works_entersIdle c second) fun _ => second
  have fourth : Works b s4 := works_settle (works_modSup _ (works_takeDeferred c third))
  exact works_ite (fun _ => works_requestSnapshot fourth) fun _ => fourth

theorem works_stopMotion (c : Ch) (w : Owner) (h : Works b s) : Works b (stopMotion c w s).2 := by
  obtain e | e := stopMotion_cases c w s
  · rwa [e]
  · rw [e]
    exact works_endMotion c _ _ h

theorem works_holdMotion (c : Ch) (w : Owner) (h : Works b s) : Works b (holdMotion c w s).2 := by
  unfold holdMotion
  extract_lets q
  split
  · exact h
  split
  · exact works_modChan c (fun q => { q with deadline := s.now + s.store.cfg.holdWindow }) h
  split
  · exact h
  · exact h

theorem works_clearFault (c : Ch) (h : Works b s) : Works b (clearFault c s).2 := by
  unfold clearFault
  split
  · exact h
  split
  · exact h
  split
  · exact h
  · exact works_entersIdle c (works_signal _ (works_modChan c _
      (.foldl _ (fun _ _ k => works_modSup _ (works_modMon _ k)) _ h)))

theorem works_becomeAbsent (c : Ch) (h : Works b s) : Works b (becomeAbsent c s) :=
  works_examineLatchesOf c (works_signal _ (works_modSup _ (works_modChan c _ h)))

/-! ### Terminals, power control and the wind watch -/

theorem works_levelPress (o : Op) (h : Works b s) : Works b (levelPress o s) := by
  unfold levelPress
  split
  · exact works_startMotion _ _ _ _ _ _ h
  · exact works_startMotion _ _ _ _ _ _ h
  · exact works_stopMotion _ _ h

theorem works_pendantActivate (r : InRole) (h : Works b s) : Works b (pendantActivate r s) := by
  cases r with
  | roomOut q => exact works_startMotion _ _ _ _ _ _ h
  | roomIn q => exact works_startMotion _ _ _ _ _ _ h
  | awningOut => exact works_startMotion _ _ _ _ _ _ h
  | awningIn => exact works_startMotion _ _ _ _ _ _ h
  | levelAuto => exact works_levelPress _ h
  | stow => exact works_levelPress _ h
  | _ => exact h

theorem works_pendantDeactivate (r : InRole) (h : Works b s) : Works b (pendantDeactivate r s) := by
  unfold pendantDeactivate
  split
  · exact works_pendantRelease _ h
  · exact h

theorem works_pendantDecode (old : State) (r : InRole) (h : Works b s) : Works b (pendantDecode old s r) :=
  works_ite (fun _ => h) fun _ => works_ite (fun _ => works_ite (fun _ => h) fun _ => works_pendantActivate r h) fun _ =>
    works_pendantDeactivate r h

theorem works_allStopChange (active : Bool) (h : Works b s) : Works b (allStopChange active s) :=
  works_ite (fun _ => works_allStop h) fun _ => works_ite (fun _ => works_modSup _ h) fun _ => h

theorem works_limitRoleChange (r : InRole) (active : Bool) (h : Works b s) : Works b (limitRoleChange r active s) := by
  unfold limitRoleChange
  split
  · exact works_limitChange _ _ _ h
  · exact works_limitChange _ _ _ h
  · exact h

theorem works_ignitionOff (h : Works b s) : Works b (ignitionOff s) := works_modSup _ h

theorem works_roleChange (r : InRole) (active : Bool) (h : Works b s) : Works b (roleChange r active s) := by
  unfold roleChange
  split
  · exact works_ite (fun _ => works_endDriveAway h) fun _ => works_driveAwayBegin _ h
  · exact works_ite (fun _ => works_ite (fun _ => works_protectiveRequest _ h) fun _ => h) fun _ => works_ignitionOff h
  · exact works_allStopChange _ h
  · exact works_limitRoleChange _ _ h

theorem works_startTelemetryTimer (h : Works b s) : Works b (startTelemetryTimer s) := works_modLink _ rfl h

theorem works_queueSource (x : Source) (h : Works b s) : Works b (queueSource x s) :=
  h.trans ⟨fun y hy => by
    change y ∈ if x ∈ s.link.reports then s.link.reports else s.link.reports ++ [x]
    split
    · exact hy
    · exact List.mem_append_left _ hy, rfl, id⟩

theorem works_queuePosture (cause : PostureCause) (h : Works b s) : Works b (queuePosture cause s) :=
  works_modLink _ rfl (works_queueSource _ h)

/-- Another power state. -/
theorem works_powerState (p : PowerState) (h : Works b s) : Works b (modPower (fun q => { q with state := p }) s) :=
  h.trans (.of_view rfl rfl rfl)

theorem works_wake (cause : PostureCause) (h : Works b s) : Works b (wake cause s) := by
  unfold wake
  split
  · exact h
  · extract_lets s1 s2
    have first : Works b s1 := works_startTelemetryTimer (works_queuePosture _ (works_powerState _ h))
    have second : Works b s2 := works_ite (fun _ => works_modWind _ first) fun _ => first
    split
    · exact works_protectiveRequest _ second
    · exact second

theorem works_takeLevel (t : Fin 16) (h : Works b s) : Works b (takeLevel t s) := works_signal _ (works_modTerm _ h)

theorem works_trimMask (h : Works b s) : Works b (trimMask s) := works_modTerm _ h

theorem works_debounced (t : Fin 16) (h : Works b s) : Works b (debounced t s) := by
  unfold debounced
  extract_lets s1
  have first : Works b s1 := works_takeLevel t h
  split
  · exact first
  · extract_lets s2 s3
    have second : Works b s2 := by
      simp only [s2]
      split
      · exact works_wake _ first
      · exact first
    exact works_trimMask (.foldl _ (fun _ p k => works_pendantDecode s p k) _ (works_roleChange _ _ second))

theorem works_setMoving (v : Bool) (h : Works b s) : Works b (setMoving v s) := by
  have moved := works_signal .inputs (works_modTerm (fun u => { u with moving := v, speedFlag := true }) h)
  exact works_ite (fun _ => h) fun _ => works_ite (fun _ => works_driveAwayBegin _ moved) fun _ => moved

theorem works_speedPulse (width : Nat) (h : Works b s) : Works b (speedPulse width s) := by
  have counted := works_modTerm (fun u => { u with pulses := recentPulses s ++ [s.now] }) h
  exact works_ite (fun _ => works_ite (fun _ => works_setMoving _ counted) fun _ => counted) fun _ => h

theorem works_speedWindow (h : Works b s) : Works b (speedWindow s) := by
  have counted := works_modTerm (fun u => { u with pulses := recentPulses s }) h
  exact works_ite (fun _ => works_setMoving _ counted) fun _ => counted

theorem works_mapReading (old : State) (r : InRole) (h : Works b s) : Works b (mapReading old s r) := by
  unfold mapReading
  extract_lets was is_
  split
  · exact h
  · split
    · exact works_ite (fun _ => h) fun _ => works_ignitionOff h
    · exact works_allStopChange _ h
    · exact works_limitRoleChange _ _ h

theorem works_mapChanged (old : State) (h : Works b s) : Works b (mapChanged old s) := by
  have masked : Works b (maskMap old (speedAssignment s)) :=
    works_trimMask (works_modTerm _ (works_ite (fun _ => h) fun _ => works_modTerm _ h))
  exact .foldl _ (fun _ r k => works_ite (fun _ => works_pendantDeactivate r k) fun _ => k) _
    (.foldl _ (fun _ r k => works_mapReading old r k) _ masked)

theorem works_clearRooms (h : Works b s) : Works b (clearRooms s) :=
  .foldl _ (fun _ _ k => works_ite (fun _ => works_endMotion _ _ _ k) fun _ => k) _ h

theorem works_windRequest (h : Works b s) : Works b (windRequest s) := by
  unfold windRequest
  extract_lets q active s1 p
  have first : Works b s1 := works_ite (fun _ => works_endMotion _ _ _ h) fun _ => h
  have start : Works b p.2 := works_startMotion _ _ _ _ _ _ first
  clear_value p
  split
  · exact h
  split
  · exact works_clearRooms (works_modSup _ start)
  · exact works_clearRooms (works_modSup _ start)
  · exact works_clearRooms (works_modSup _ (works_signal _ (works_modAwn _ (works_modChan _ _ start))))
  · exact start

theorem works_windBin (h : Works b s) : Works b (windBin s) := by
  unfold windBin
  exact works_modWind _ h

theorem works_windBinEnd (h : Works b s) : Works b (windBinEnd s) := by
  unfold windBinEnd
  extract_lets s1 s2
  have first : Works b s1 := works_windBin h
  have second : Works b s2 := works_modWind _ first
  exact works_ite (fun _ => works_ite (fun _ => works_modWind _ (works_windRequest (works_wake _ second))) fun _ => second)
    fun _ => first

/-! ### The scanner's currents and supply -/

theorem works_readSense (d : Driver) (h : Works b s) : Works b (readSense s d) := works_examineLatch d (works_modMon _ h)

theorem works_scanCurrents (c : PerDriver Nat) (h : Works b s) : Works b (scanCurrents c s) := by
  unfold scanCurrents
  extract_lets s1 s2 s3 s4
  have second : Works b s2 := .foldl _ (fun _ _ k => works_modMon _ k) _ (works_modMon _ h)
  have third : Works b s3 := .foldl _ (fun _ r k => works_modEnd r _ _ (works_modEnd r _ _ k)) _ second
  exact .foldl _ (fun _ d k => works_readSense d k) _ (works_modAwn _ third)

theorem works_trip (d : Driver) (h : Works b s) : Works b (trip d s) := by
  unfold trip
  extract_lets c s1 s2
  have off : Works b (driverOff d s) := by
    cases d with
    | pump => exact works_pumpStop _ h
    | roomEnd r e => exact works_brakeEnd r e h
    | awning => exact works_brakeAwning h
    | spare => exact h
  have first : Works b s1 := works_modMon _ off
  have second : Works b s2 := by
    simp only [s2]
    clear_value c s1
    cases c with
    | none => exact first
    | some c => exact works_fail c _ _ first
  exact works_examineLatch d (works_refreshAlerts second)

theorem works_supplyStep (avg : Nat) (h : Works b s) : Works b (supplyStep avg s) := by
  unfold supplyStep
  split
  · exact h
  next v _ =>
    extract_lets s1
    have first : Works b s1 := works_refreshAlerts (works_modMon _ h)
    clear_value s1
    cases v with
    | brown => exact .foldl _ (fun _ c k => works_ite (fun _ => k) fun _ => works_terminate c _ k) _ first
    | normal => exact works_modSup _ first
    | sag => exact first

theorem works_supplySample (v : Nat) (h : Works b s) : Works b (supplySample v s) := by
  unfold supplySample
  extract_lets l s1 avg
  have first : Works b s1 := works_modMon _ h
  exact works_ite (fun _ => first) fun _ => works_supplyStep _ (works_supplyStep _ (works_modMon _ first))

theorem works_judgeDeadhead (h : Works b s) : Works b (judgeDeadhead s) := h.trans (.of_view rfl rfl rfl)

theorem works_goodRead (r : RawGrad) (h : Works b s) : Works b (goodRead r s) := by
  unfold goodRead
  exact works_modScan _ h

theorem works_failedRead (h : Works b s) : Works b (failedRead s) := works_modScan _ h

theorem works_inclinometerPoll (read : Option RawGrad) (h : Works b s) : Works b (inclinometerPoll read s) := by
  unfold inclinometerPoll
  split
  · exact h
  split
  next r =>
    exact works_driftPoll (works_settleCheck (.foldl _ (fun _ e k => works_pushRing e k) _ (works_goodRead r h)))
  · have failed := works_refreshAlerts (works_failedRead h)
    exact works_driftPoll (works_ite (fun _ => works_levelSensorLoss _ failed) fun _ => failed)

end

end Sys2Proof.Machine
end

section
/-! PROOF. The rest of the part keeps the rule of R46: the scanner, the settings store, start-up, the link port, and so every
command (O7). -/

namespace Sys2Proof.Machine

/-! ### Work keeps the rule -/

/-- An operation that works on motions keeps the rule. -/
theorem Plant.Ok.works {s t : State} (ok : (plant s).Ok) (h : Works s s → Works s t) : (plant t).Ok :=
  (h (.refl s)).plant ok

theorem Plant.Ok.of_eq {s t : State} (ok : (plant s).Ok) (e : plant t = plant s) : (plant t).Ok := by rwa [e]

theorem plant_foldl {α : Type} (f : State → α → State) (hf : ∀ t a, (plant t).Ok → (plant (f t a)).Ok)
    (l : List α) {s : State} (ok : (plant s).Ok) : (plant (l.foldl f s)).Ok := by
  induction l generalizing s with
  | nil => exact ok
  | cons a l ih => exact ih (hf s a ok)

/-! ### The scanner and the stowed switches -/

theorem plant_modJack (j : Jack) (f : JackRec → JackRec) (s : State) : plant (modJack j f s) = plant s := rfl

theorem plant_setLevelStatus (v : LevelStatus) (s : State) : plant (setLevelStatus v s) = plant s := by
  unfold setLevelStatus
  split
  · rfl
  · rw [plant_snapshotOnRest, plant_signal]
    rfl

theorem plant_setContact (j : Jack) (v : Contact) (s : State) : plant (setContact j v s) = plant s := by
  unfold setContact
  extract_lets q g s1
  have moved : plant s1 = plant s := (plant_signal _ _).trans rfl
  simp only [apply_ite plant, plant_setLevelStatus, moved, ite_self]

theorem plant_deriveContact (j : Jack) (s : State) : plant (deriveContact j s) = plant s := by
  simp only [deriveContact, apply_ite plant, plant_setContact, ite_self]

theorem plant_jackSample (reads : Analog) (s : State) (j : Jack) : plant (jackSample reads s j) = plant s := by
  have record : ∀ f, plant (modJack j f s) = plant s := fun _ => rfl
  simp only [jackSample, apply_ite plant, plant_deriveContact, plant_signal, record, ite_self]

section
variable {s : State} (ok : (plant s).Ok)
include ok

theorem plant_scanJacks (reads : Analog) : (plant (scanJacks reads s)).Ok := by
  unfold scanJacks
  extract_lets s1 s2 s3
  have second : (plant s2).Ok := ok.of_eq (foldl_keeps _ plant _ (fun t j _ => plant_jackSample reads t j) s1)
  have third : (plant s3).Ok := by
    simp only [s3]
    split
    · exact second.works fun h => works_levelSensorLoss _ (works_refreshAlerts h)
    · exact second
  exact third.works works_levelReact

theorem plant_scanLine (reading : Nat) : (plant (scanLine reading s)).Ok := by
  unfold scanLine
  extract_lets s1 s2
  have first : (plant s1).Ok := by
    simp only [s1]
    split
    · exact ok
    · exact ok
  refine (first.works works_judgeDeadhead : (plant s2).Ok).works fun h => works_stallSample ?_
  exact works_ite (fun _ => works_lineFaultEnds (works_refreshAlerts h)) fun _ => h

theorem plant_analogScan (reads : Analog) : (plant (analogScan reads s)).Ok := by
  unfold analogScan
  split
  · have jacks := (plant_scanJacks ok reads).works works_settle
    have line := (plant_scanLine jacks reads.line).works works_settle
    generalize settle (scanLine reads.line (settle (scanJacks reads s))) = t at line
    exact line.works fun h => works_supplySample _ (works_scanCurrents _ h)
  · exact ok.works (works_supplySample _)
  · exact ok

theorem plant_clearJackFlag (j : Jack) : (plant (clearJackFlag j s)).Ok := by
  unfold clearJackFlag
  refine Plant.Ok.works (ok.of_eq ?_) works_levelReact
  rw [plant_deriveContact, plant_signal, plant_modJack]

theorem plant_clearLineFlag : (plant (clearLineFlag s)).Ok := by
  have cleared : (plant (modMan (fun m => { m with lineFault := false, lineBandSince := none }) s)).Ok := ok
  unfold clearLineFlag
  generalize modMan _ s = t at cleared
  exact cleared.works fun h => works_stallSample (works_judgeDeadhead h)

theorem plant_stowedSwitch (j : Jack) (active : Bool) : (plant (stowedSwitch j active s)).Ok := by
  unfold stowedSwitch
  refine Plant.Ok.works (ok.of_eq ?_) works_levelReact
  rw [plant_deriveContact, plant_modJack]

/-! ### Power control (R190) -/

omit ok in
theorem plant_cancelBandTimers (s : State) : plant (cancelBandTimers s) = plant s := by
  have jacks := foldl_keeps (fun t j => modJack j (fun q => { q with bandSince := none }) t) plant allJacks
    (fun t j _ => plant_modJack j _ t) s
  unfold cancelBandTimers
  generalize allJacks.foldl _ s = t at jacks
  exact jacks

theorem plant_enterRest (p : PowerState) : (plant (enterRest p s)).Ok := by
  unfold enterRest
  extract_lets s1 s2
  have first : (plant s1).Ok := by
    have band := plant_cancelBandTimers (modLink (fun l => { l with
      telemetryAt := none, rx := if l.rx = .drain then .hunt else l.rx }) (dropSource .telemetry s))
    simp only [s1]
    generalize cancelBandTimers _ = t at band
    exact ok.of_eq (s := s) (t := modPower _ (modLev _ (modScan _ t))) band
  clear_value s1
  have second : (plant s2).Ok :=
    first.works fun h => works_ite (fun _ => works_modMon _ (works_modWind _ h)) fun _ => h
  clear_value s2
  split
  · exact second.works (works_wake .link)
  · exact second

/-! ### Fresh records and presence (R46, R60, R101) -/

theorem plant_jackPresence (old : State) (j : Jack) : (plant (jackPresence old s j)).Ok := by
  unfold jackPresence
  split
  · refine ok.of_eq ?_
    rw [plant_deriveContact, plant_signal, plant_modJack]
  · split
    · exact Plant.Ok.works (ok.of_eq (plant_modJack j _ s)) (works_shutJack j)
    · exact ok

theorem plant_levelPresence (old : State) : (plant (levelPresence old s)).Ok := by
  unfold levelPresence
  extract_lets s1
  have jacks : (plant s1).Ok := plant_foldl _ (fun _ j k => plant_jackPresence k old j) _ ok
  clear_value s1
  exact jacks.works fun h => works_ite (fun _ => works_becomeAbsent _ h) fun _ => works_ite (fun _ => works_signal _ h) fun _ => h

theorem plant_takeFresh : (plant (takeFresh s)).Ok :=
  ok.works fun h => works_sweep (works_refreshAlerts (works_snapshotOnRest (works_signal _ h)))

theorem plant_freshAwning : (plant (freshAwning s)).Ok := by
  unfold freshAwning
  extract_lets s1
  have first : (plant s1).Ok := plant_takeFresh ok
  clear_value s1
  exact first.works fun h => works_ite (fun _ => works_awnHome h) fun _ => h

theorem plant_awningAbsent : (plant (awningAbsent s)).Ok :=
  ok.works fun h => works_becomeAbsent .awning (works_modAwn (fun a => { inSwitch := a.inSwitch }) h)

/-- A room that is absent may take any level. -/
theorem plant_modRoom_absent (r : Room) (f : RoomRec → RoomRec) (away : s.present (.room r) = false) :
    (plant (modRoom r f s)).Ok :=
  ok.of_closing rfl rfl rfl (fun _ => id) fun q o => by
    by_cases e : q = r
    · subst e
      have out : (s.present (.room q) && _) = true := o
      rw [away] at out
      cases out
    · have same : roomOf (modRoom r f s) q = roomOf s q := roomOf_modRoom_ne _ _ _ _ e
      have out : (s.present (.room q) && (roomOf (modRoom r f s) q).status != .pin) = true := o
      rw [same] at out
      exact out

theorem plant_roomAbsent (r : Room) (away : s.present (.room r) = false) : (plant (roomAbsent r s)).Ok :=
  (plant_modRoom_absent ok r freshRoomRec away).works (works_becomeAbsent _)

end

/-- A fresh record of a room: where the room is present R46 closes the valves of a retract, so that LEVEL's ownership of the
open valves is enough. -/
theorem plant_freshRoom {s : State} (r : Room) (live : s.power.startingUp = false) (owned : (plant s).Owned)
    (away : s.present (.room r) = false → (plant s).Ok) : (plant (freshRoom r s)).Ok := by
  unfold freshRoom
  generalize hu : putCfg .learned (endCoastIdx r .endB) 0 (putCfg .learned (endCoastIdx r .endA) 0
    (putCfg .learned (8 + r.idx) 0 s)) = u
  have same : plant u = plant s := hu ▸ rfl
  have power : u.power = s.power := hu ▸ rfl
  have presence : u.present (.room r) = s.present (.room r) := hu ▸ rfl
  clear hu
  extract_lets s1
  have presence : s1.present (.room r) = s.present (.room r) := presence
  split
  · have closed : (plant (closeOnRetract s1)).Ok := by
      refine plant_closeOnRetract ((congrArg Power.startingUp power).trans live) fun j o => ?_
      have opened : (plant u).valve j = true := o
      exact (congrArg Plant.holder same).trans (owned j (by rwa [same] at opened))
    have fresh := plant_takeFresh closed
    generalize takeFresh (closeOnRetract s1) = t at fresh
    unfold applySwitches
    exact fresh.works fun h =>
      works_ite (fun _ => works_applyLimits r _ h) fun _ => works_ite (fun _ => works_roomHome r h) fun _ => h
  next absent =>
    have gone : s.present (.room r) = false := presence.symm.trans (by simpa using absent)
    exact plant_modRoom_absent ((away gone).of_eq same) r freshRoomRec (by rwa [← presence] at gone)

/-! ### SET and LOAD_DEFAULTS -/

/-- A configuration that leaves no room present that was not. -/
theorem plant_putCfg {s : State} (ok : (plant s).Ok) (g : Group) (i : Nat) (v : Int)
    (h : ∀ r, (putCfg g i v s).present (.room r) = true → s.present (.room r) = true) : (plant (putCfg g i v s)).Ok :=
  ok.of_closing rfl rfl rfl (fun _ => id) fun r o => by
    obtain ⟨here, out⟩ := Bool.and_eq_true_iff.1 o
    exact Bool.and_eq_true_iff.2 ⟨h r here, out⟩

section
variable {s : State} (ok : (plant s).Ok)
include ok

/-- An entry that no room's presence is read from. -/
theorem plant_putCfg_other (g : Group) (i : Nat) (v : Int) (n : ∀ r : Room, (Group.rooms, 1 + 8 * r.idx) ≠ (g, i)) :
    (plant (putCfg g i v s)).Ok :=
  plant_putCfg ok g i v fun r here => by rwa [present_putCfg g i v s (.room r) (n r)] at here

theorem plant_roomsStored (i : Nat) (v : Int) : (plant (roomsStored i s (putCfg .rooms i v s))).Ok := by
  have owned : (plant (putCfg .rooms i v s)).Owned := ok.owned
  unfold roomsStored
  split
  next z =>
    have same : (plant (putCfg .rooms i v s)).Ok := plant_putCfg_other ok .rooms i v fun r e => by
      have idx : 1 + 8 * r.idx = i := congrArg Prod.snd e
      omega
    exact same.works (works_modSup _)
  next nz =>
  extract_lets r
  split
  next fit =>
    have other : ∀ q : Room, q ≠ r → (putCfg .rooms i v s).present (.room q) = s.present (.room q) := fun q hq => by
      refine present_putCfg .rooms i v s (.room q) fun e => hq ?_
      have idx : 1 + 8 * q.idx = i := congrArg Prod.snd e
      have div : (i - 1) / 8 = q.idx := by omega
      simp only [r, div]
      cases q <;> rfl
    have stays : ((putCfg .rooms i v s).present (.room r) = true → s.present (.room r) = true) →
        (plant (putCfg .rooms i v s)).Ok := fun k => plant_putCfg ok .rooms i v fun q here => by
      by_cases e : q = r
      · subst e
        exact k here
      · rwa [← other q e]
    split
    next fitted =>
      have here : (putCfg .rooms i v s).present (.room r) = true := (Bool.and_eq_true_iff.1 fitted).1
      have signalled : (plant (signal (.chan (.room r)) (putCfg .rooms i v s))).Owned := by rwa [plant_signal]
      refine plant_freshRoom r ?_ signalled fun away => ?_
      · rw [signal_frame]
        exact ok.live
      · have kept : (signal (.chan (.room r)) (putCfg .rooms i v s)).present = (putCfg .rooms i v s).present :=
          congrArg View.present (view_of_scope (scope_signal _ _))
        rw [kept, here] at away
        cases away
    next notFitted =>
      split
      next unfitted =>
        have gone : (putCfg .rooms i v s).present (.room r) = false := by
          exact Bool.not_eq_true' _ ▸ (Bool.and_eq_true_iff.1 unfitted).1
        exact plant_roomAbsent (stays fun here => absurd here (by simp [gone])) r gone
      next =>
        refine stays fun here => ?_
        by_contra n
        have before : s.store.cfg.roomFitted r = false := by simpa [State.present] using n
        exact notFitted (Bool.and_eq_true_iff.2 ⟨here, by simp [before]⟩)
  next notFit =>
    have same : (plant (putCfg .rooms i v s)).Ok := plant_putCfg_other ok .rooms i v fun q e => by
      have idx : 1 + 8 * q.idx = i := congrArg Prod.snd e
      omega
    split
    · exact plant_freshRoom _ ok.live owned fun _ => same
    · exact same

theorem plant_reportingStored (i : Nat) : (plant (reportingStored i s)).Ok := by
  unfold reportingStored
  split
  · split
    · split
      · exact ok
      · exact ok
    · exact ok
  · split
    · exact ok
    · exact ok

end

end Sys2Proof.Machine
end

section
/-! PROOF. The settings store, the memory jobs, start-up, the link port and the clock keep the rule of R46, and so does every
command (O7). -/

namespace Sys2Proof.Machine

/-! ### SET -/

section
variable {s : State} (ok : (plant s).Ok)
include ok

theorem plant_awningStored (i : Nat) (old : State) : (plant (awningStored i old s)).Ok := by
  unfold awningStored
  split
  · exact ok
  · split
    · exact plant_freshAwning (ok.works (works_signal _))
    · split
      · exact plant_awningAbsent ok
      · exact ok

theorem plant_windStored (i : Nat) (old : State) : (plant (windStored i old s)).Ok := by
  unfold windStored
  split
  · exact ok
  · split
    · exact ok.of_eq rfl
    · split
      · exact ok.of_eq rfl
      · exact ok

theorem plant_expireWaiting : (plant (expireWaiting s)).Ok :=
  plant_foldl _ (fun _ _ k => k.works fun h => works_ite (fun _ => works_cancel _ _ h) fun _ => h) _ ok

/-- The terminal map changes no room's presence. -/
theorem plant_mapped (k : Nat) (v : Int) : (plant (putCfg .terminals k v s)).Ok :=
  plant_putCfg_other ok .terminals k v fun _ => by simp

theorem plant_storeEntry (g : Group) (i : Nat) (v : Int) : (plant (storeEntry g i v s)).Ok := by
  cases g with
  | rooms => exact plant_roomsStored ok i v
  | geometry =>
    have put := plant_putCfg_other ok .geometry i v fun _ => by simp
    have e : storeEntry .geometry i v s = if i = 0 then levelPresence s (putCfg .geometry i v s) else putCfg .geometry i v s := rfl
    rw [e]
    split
    · exact plant_levelPresence put s
    · exact put
  | awning => exact plant_awningStored (plant_putCfg_other ok .awning i v fun _ => by simp) i s
  | wind => exact plant_windStored (plant_putCfg_other ok .wind i v fun _ => by simp) i s
  | interlock =>
    have put := plant_putCfg_other ok .interlock i v fun _ => by simp
    have e : storeEntry .interlock i v s =
      if i = 25 then expireWaiting (putCfg .interlock i v s) else putCfg .interlock i v s := rfl
    rw [e]
    split
    · exact plant_expireWaiting put
    · exact put
  | terminals =>
    unfold storeEntry
    extract_lets s1
    have first : (plant s1).Ok := by
      simp only [s1]
      split
      · exact plant_mapped ok _ _
      · exact ok
    clear_value s1
    exact (plant_mapped first i v).works (works_mapChanged s)
  | reporting => exact plant_reportingStored (plant_putCfg_other ok .reporting i v fun _ => by simp) i
  | level => exact plant_putCfg_other ok .level i v fun _ => by simp
  | supply => exact plant_putCfg_other ok .supply i v fun _ => by simp
  | learned => exact plant_putCfg_other ok .learned i v fun _ => by simp

theorem plant_setRequest (g i : Byte) (v : BitVec 32) : (plant (setRequest g i v s).2).Ok := by
  unfold setRequest
  split
  · exact ok
  split
  · exact ok
  simp only []
  split
  · exact ok
  split
  · exact ok
  · exact plant_storeEntry ok _ _ _

/-! ### LOAD_DEFAULTS (R188) -/

theorem plant_roomAway (old : State) (r : Room) (away : s.present (.room r) = false) : (plant (roomAway old s r)).Ok := by
  unfold roomAway
  split
  · exact plant_roomAbsent ok r away
  · exact plant_modRoom_absent ok r freshRoomRec away

omit ok in
theorem present_of_kept {s t : State} (h : kept t = kept s) (c : Ch) : t.present c = s.present c :=
  of_kept (fun x => x.present c) (fun x => by cases c <;> rfl) h

theorem plant_roomsAway (old : State) (l : List Room) (away : ∀ c, s.present c = false) :
    (plant (l.foldl (roomAway old) s)).Ok := by
  induction l generalizing s with
  | nil => exact ok
  | cons r l ih =>
    exact ih (plant_roomAway ok old r (away _)) fun c => (present_of_kept (kept_roomAway old s r) c).trans (away c)

theorem plant_defaultsTaken : (plant (defaultsTaken s)).Ok := by
  unfold defaultsTaken
  extract_lets s1 s3 s4
  have away : ∀ c, s1.present c = false := fun c => default_present _ rfl rfl c
  have first : (plant s1).Ok := ok.of_closing rfl rfl rfl (fun _ => id) fun r o => by
    have here := (Bool.and_eq_true_iff.1 o).1
    rw [away] at here
    cases here
  have third : (plant s3).Ok := plant_roomsAway (plant_levelPresence first s) s allRooms fun c =>
    (present_of_kept (kept_levelPresence s s1) c).trans (away c)
  clear_value s3
  have fourth : (plant s4).Ok := by
    simp only [s4]
    split
    · exact plant_awningAbsent third
    · exact third
  clear_value s4
  split
  · exact fourth.of_eq rfl
  · exact fourth

theorem plant_loadDefaults : (plant (loadDefaults s)).Ok := by
  rw [loadDefaults_eq]
  refine Plant.Ok.works ?_ (works_signal .store)
  have mapped := (plant_defaultsTaken ok).works (works_mapChanged s)
  generalize mapChanged s (defaultsTaken s) = t at mapped
  exact mapped.of_eq rfl

/-! ### Memory jobs (R187, R189) -/

theorem plant_imageWritten (c : Cfg) (good : Bool) : (plant (imageWritten c good s)).Ok := by
  unfold imageWritten
  split
  · extract_lets s1
    have first : (plant s1).Ok := ok.of_eq rfl
    exact (plant_levelPresence first s).works (works_signal _)
  · exact ok.of_eq ((plant_signal _ _).trans rfl)

theorem plant_snapshotJobFailed : (plant (snapshotJobFailed s)).Ok :=
  ok.of_eq ((plant_signal _ _).trans rfl)

theorem plant_markerCleared (good : Bool) : (plant (markerCleared good s)).Ok := by
  unfold markerCleared
  split
  · exact ok
  · exact plant_snapshotJobFailed ok

theorem plant_snapshotWritten (c : Snapshot) (good : Bool) : (plant (snapshotWritten c good s)).Ok := by
  unfold snapshotWritten
  split
  · exact ok
  · exact plant_snapshotJobFailed ok

/-! ### What ends a step -/

omit ok in
theorem plant_transmit (s : State) : plant (transmit s) = plant s := by
  have chosen : plant (chooseFrame s) = plant s := by
    rw [chooseFrame_frame]
    rfl
  exact chosen

theorem plant_transmitted : (plant (transmit s)).Ok := ok.of_eq (plant_transmit s)

theorem plant_finish : (plant (finish s)).Ok := plant_transmitted (ok.works works_conclude)

/-! ### Requests (R175) -/

theorem plant_reply (tag kind : Byte) (l : List Byte) : (plant (transmit (pushReply tag kind l s))).Ok :=
  plant_transmitted (s := pushReply tag kind l s) ok

omit ok in
theorem plant_answer (tag kind : Byte) (p : Verdict × State) (ok : (plant p.2).Ok) : (plant (answer tag kind p)).Ok := by
  unfold answer
  simp only []
  split
  · exact plant_finish (s := pushReply tag kind p.1.payload p.2) ok
  · exact plant_reply ok _ _ _

theorem plant_serveRest (tag kind : Byte) (p : PowerState) : (plant (serveRest tag kind p s)).Ok := by
  unfold serveRest
  split
  · exact plant_reply ok _ _ _
  · exact plant_finish (plant_enterRest (s := pushReply tag kind (plainReply .ok) s) ok p)

theorem plant_serveSave (tag : Byte) : (plant (serveSave tag s)).Ok := by
  unfold serveSave
  split
  · exact plant_reply ok _ _ _
  · exact plant_transmitted (Plant.Ok.works (s := pushReply tag 0x0A (plainReply .accepted) (beginSave s)) ok works_startJob)

theorem plant_serveSet (tag g i : Byte) (v : BitVec 32) : (plant (serveSet tag g i v s)).Ok := by
  have stored := plant_setRequest ok g i v
  unfold serveSet
  generalize setRequest g i v s = p at stored
  simp only []
  split
  · exact plant_finish (s := pushReply tag 0x09 p.1.payload p.2) stored
  · exact plant_reply stored _ _ _

theorem plant_serve (tag : Byte) (q : Req) : (plant (serve tag q s)).Ok := by
  have bad : ∀ k, (plant (serveBad tag k s)).Ok := fun k => plant_reply ok _ _ _
  unfold serve
  split
  · exact bad _
  cases q with
  | start c o hold v => exact plant_answer _ _ _ (ok.works (works_startMotion _ _ _ _ _ _))
  | hold c => exact plant_reply (ok.works (works_holdMotion c .link)) _ _ _
  | stop c => exact plant_answer _ _ _ (ok.works (works_stopMotion c .link))
  | clear c => exact plant_answer _ _ _ (ok.works (works_clearFault c))
  | readInputs =>
    unfold serveReadInputs
    exact plant_transmitted (ok.of_eq rfl)
  | setLinkOutputs m =>
    unfold serveLinkOutputs
    exact plant_transmitted (ok.of_eq rfl)
  | readSupply => exact plant_reply ok _ _ _
  | get g i =>
    simp only [serveGet]
    split
    · exact plant_reply ok _ _ _
    · exact bad _
  | set g i v => exact plant_serveSet ok tag g i v
  | save => exact plant_serveSave ok tag
  | loadDefaults =>
    simp only [serveLoadDefaults]
    split
    · exact plant_finish (s := pushReply tag 0x0B (plainReply .ok) (loadDefaults s)) (plant_loadDefaults ok)
    · exact plant_reply ok _ _ _
  | enterWatch => exact plant_serveRest ok tag 0x0C .watch
  | enterSleep => exact plant_serveRest ok tag 0x0D .sleep
  | resetPart =>
    unfold serveResetPart
    exact plant_transmitted (ok.of_eq rfl)
  | pauseReports =>
    unfold servePaused
    exact plant_transmitted (ok.of_eq rfl)
  | resumeReports =>
    unfold servePaused
    exact plant_transmitted (ok.of_eq rfl)
  | requestReport x =>
    unfold serveRequestReport
    exact plant_transmitted (ok.of_eq rfl)
  | ackAlert m =>
    unfold serveAck
    exact plant_transmitted (ok.of_eq rfl)
  | getIdentity => exact plant_reply ok _ _ _
  | bad k => exact bad k

/-! ### The receiver (R173, R174) -/

theorem plant_wakeByLink : (plant (wakeByLink s)).Ok := by
  have woken := ok.works (works_wake .link)
  unfold wakeByLink
  generalize wake .link s = t at woken
  exact plant_finish (s := modLink (fun l => { l with rx := .drain }) t) woken

theorem plant_acceptRequest (tag : Byte) (q : Req) : (plant (acceptRequest tag q s)).Ok := by
  unfold acceptRequest
  split
  · exact plant_serve ok tag q
  · exact ok

theorem plant_takeRequest (tag : Byte) (q : Req) : (plant (takeRequest tag q s)).Ok := by
  unfold takeRequest
  split
  · exact ok
  · exact ok
  · exact ok
  · split
    · exact plant_acceptRequest ok tag q
    · exact plant_wakeByLink ok

theorem plant_takeBadFrame (rx : RxState) : (plant (takeBadFrame rx s)).Ok := by
  unfold takeBadFrame
  split
  · exact ok
  · exact ok
  · exact ok
  · split
    · exact ok
    · exact plant_wakeByLink ok

theorem plant_completeFrame (buf : List Byte) : (plant (completeFrame buf s)).Ok := by
  unfold completeFrame
  extract_lets s1
  have first : (plant s1).Ok := ok
  split
  · split
    · exact plant_acceptRequest first _ _
    · exact first
  · exact first

theorem plant_receiveByte (b : Byte) : (plant (receiveByte b s)).Ok := by
  unfold receiveByte assemble
  split
  · exact ok
  · exact ok
  · exact ok
  · simp only []
    split
    · split
      · exact ok
      · split
        · exact plant_completeFrame ok _
        · exact ok
    · exact ok
  · split
    · exact ok
    · split
      · exact ok
      · exact plant_wakeByLink ok

theorem plant_serveHeld : (plant (serveHeld s)).Ok := by
  unfold serveHeld
  split
  · split
    · exact plant_serve (s := modLink _ s) ok _ _
    · exact ok
  · exact ok

theorem plant_frameSent : (plant (frameSent s)).Ok := by
  unfold frameSent
  split
  · exact plant_transmitted (s := modLink _ s) ok
  · exact plant_transmitted (s := modLink _ s) ok
  · exact ok

end

end Sys2Proof.Machine
end

section
/-! PROOF. Start-up, the clock and the arms of `exec` keep the rule of R46 (O7). -/

namespace Sys2Proof.Machine

/-! ### Start-up (R192) -/

theorem man_firstLevels (reads : StartUpReads) (s : State) : (firstLevels reads s).man = s.man := by
  unfold firstLevels
  extract_lets stow rooms
  have first : stow.man = s.man := foldl_keeps (fun t j => modJack j (fun q => { q with stowed := reads.stowed.get j }) t)
    State.man allJacks (fun _ _ _ => rfl) s
  have second : rooms.man = stow.man :=
    foldl_keeps (fun t r => modRoom r (fun q => { q with inSwitch := reads.roomIn.get r }) t) State.man allRooms
      (fun _ _ _ => rfl) stow
  simp only [modMon_man, modScan_man, modTerm_man, modAwn_man]
  exact second.trans first

theorem man_firstPoll (read : Option RawGrad) (s : State) : (firstPoll read s).man = s.man := by
  unfold firstPoll
  split
  · exact foldl_keeps (fun t e => pushRing e t) State.man _ (fun _ _ _ => rfl) _
  · rfl

theorem man_readSettings (answers : Bool) (s : State) : (readSettings answers s).man = s.man := by
  unfold readSettings
  split
  · split <;> rfl
  · rfl

/-- The posture's records are built without a word to the manifold or to power control. -/
theorem restored_keeps (s : State) :
    (restoreAwning (allRooms.foldl restoreRoom (buildLevel (buildJacks s)))).man = s.man ∧
      (restoreAwning (allRooms.foldl restoreRoom (buildLevel (buildJacks s)))).power = s.power := by
  have awning : ∀ u : State, ((restoreAwning u).man, (restoreAwning u).power) = (u.man, u.power) := fun u => by
    unfold restoreAwning
    split <;> rfl
  have room : ∀ (u : State) (r : Room), ((restoreRoom u r).man, (restoreRoom u r).power) = (u.man, u.power) := fun u r => by
    unfold restoreRoom
    split <;> rfl
  have jacks : ((buildJacks s).man, (buildJacks s).power) = (s.man, s.power) := by
    unfold buildJacks
    refine foldl_keeps _ (fun u => (u.man, u.power)) _ (fun _ _ _ => ?_) s
    rfl
  have rooms := foldl_keeps restoreRoom (fun u => (u.man, u.power)) allRooms (fun u r _ => room u r) (buildLevel (buildJacks s))
  exact Prod.mk.inj ((awning _).trans (rooms.trans jacks))

theorem setAlertCond_keeps (a : Alert) (v : Bool) (s : State) :
    (setAlertCond a v s).man = s.man ∧ (setAlertCond a v s).power = s.power := by
  rw [setAlertCond_frame]
  exact ⟨rfl, rfl⟩

theorem works_firstSwitches {b s : State} (r : Room) (h : Works b s) : Works b (firstSwitches s r) :=
  works_ite (fun _ => h) fun _ => works_ite (fun _ => works_applyLimits r _ h) fun _ =>
    works_ite (fun _ => works_roomHome r h) fun _ => works_ite (fun _ => works_setRoomStat r _ _ h) fun _ => h

theorem works_firstAwningSwitch {b s : State} (h : Works b s) : Works b (firstAwningSwitch s) :=
  works_ite (fun _ => h) fun _ => works_ite (fun _ => works_awnHome h) fun _ =>
    works_ite (fun _ => works_setAwnStat _ _ h) fun _ => h

theorem scope_firstSwitches (s : State) (r : Room) : scope (firstSwitches s r) = scope s := by
  unfold firstSwitches
  simp only [apply_ite scope, scope_applyLimits, scope_roomHome, scope_setRoomStat, ite_self]

theorem scope_firstAwningSwitch (s : State) : scope (firstAwningSwitch s) = scope s := by
  unfold firstAwningSwitch
  simp only [apply_ite scope, scope_awnHome, scope_setAwnStat, ite_self]

/-- The posture that start-up builds finds every jack valve closed. -/
theorem plant_buildPosture {s : State} (live : s.power.startingUp = false) (closed : ∀ j, valveOpen s j = false) :
    (plant (buildPosture s)).Ok := by
  obtain ⟨man, power⟩ := restored_keeps s
  unfold buildPosture
  generalize restoreAwning (allRooms.foldl restoreRoom (buildLevel (buildJacks s))) = w at man power
  extract_lets t u v
  obtain ⟨man', power'⟩ := setAlertCond_keeps .positionUncertain (somePositionUncertain t) { t with link := s.link, store := s.store }
  replace man : u.man = s.man := man'.trans man
  replace power : u.power = s.power := power'.trans power
  clear_value u
  have ready : (plant u).Ok := by
    refine .of_closed ((congrArg Power.startingUp power).trans live) fun j => ?_
    have open_ : (plant u).valve j = valveOpen s j := congrArg (fun m : Manifold => m.jackValves.get j) man
    exact open_.trans (closed j)
  have switched : scope v = scope u :=
    (scope_firstAwningSwitch _).trans (scope_foldl _ scope_firstSwitches allRooms u)
  have ok : (plant v).Ok := ready.works fun h =>
    works_firstAwningSwitch (.foldl _ (fun _ r k => works_firstSwitches r k) _ h)
  have same : u.present = v.present := (congrArg View.present (view_of_scope switched)).symm
  clear_value v
  refine ok.of_eq ?_
  have presence : ({ v with link := u.link, store := u.store } : State).present = u.present := rfl
  unfold plant
  rw [presence, same]
  rfl

theorem plant_startUp {s : State} (reads : StartUpReads) (closed : ∀ j, valveOpen s j = false) :
    (plant (startUp reads s)).Ok := by
  unfold startUp
  extract_lets s1 s2 s3 s4 s5 s6
  have first : s1.man = s.man := (man_firstPoll _ _).trans ((man_firstLevels reads _).trans (man_readSettings _ s))
  clear_value s1
  have shut : ∀ j, valveOpen s2 j = false := fun j => by
    have man : s2.man = s.man := first
    rw [valveOpen, man]
    exact closed j
  have third : (plant s3).Ok := plant_buildPosture rfl shut
  clear_value s3
  have fourth : (plant s4).Ok := (plant_scanLine third _).works (works_scanCurrents _)
  clear_value s4
  have fifth : (plant s5).Ok := plant_foldl _ (fun _ v k => k.works (works_supplySample v)) _ fourth
  clear_value s5
  have sixth : (plant s6).Ok := by
    simp only [s6]
    split
    · exact fifth
    · exact fifth
  clear_value s6
  have drive : plant (driveAwayAtStart s6) = plant s6 := by
    unfold driveAwayAtStart
    split <;> rfl
  generalize driveAwayAtStart s6 = s7 at drive
  exact sixth.of_eq drive

theorem manifoldOk_of_closed {s : State} (closed : ∀ j, valveOpen s j = false) : s.ManifoldOk where
  owned j o := by
    rw [closed j] at o
    cases o
  retract _ _ := closed
  start _ := closed

/-- After a reset every valve is closed (R192). -/
theorem manifoldOk_resetPart (cause : ResetCause) (s : State) : (resetPart cause s).ManifoldOk :=
  manifoldOk_of_closed fun j => by cases j <;> rfl

theorem plant_finishStartUp {s : State} (ok : (plant s).Ok) : (plant (finishStartUp s)).Ok := by
  have ended := ok.works works_conclude
  unfold finishStartUp
  generalize conclude s = t at ended
  exact ended

theorem manifoldOk_startUpEnd {s : State} (reads : StartUpReads) (h : s.ManifoldOk) :
    (if s.power.startingUp then finishStartUp (startUp reads s) else s).ManifoldOk := by
  split
  next su => exact manifoldOk_of_plant (plant_finishStartUp (plant_startUp reads (h.start su)))
  next => exact h

theorem manifoldOk_requestReset {s : State} (h : s.ManifoldOk) :
    (if s.link.resetDue then resetPart .request s else s).ManifoldOk := by
  split
  · exact manifoldOk_resetPart _ s
  · exact h

/-! ### The clock -/

theorem plant_renewHold (s : State) (c : Ch) : plant (renewHold s c) = plant s := by
  unfold renewHold
  split <;> rfl

theorem plant_beginWaiting (s : State) : plant (beginWaiting s) = plant s := by
  unfold beginWaiting
  split
  · exact plant_transmit s
  · rfl

theorem manifoldOk_tick {s : State} (h : s.ManifoldOk) : (tick s).ManifoldOk := by
  unfold tick
  extract_lets s1 s2
  split
  · exact ⟨h.owned, h.retract, h.start⟩
  next live =>
    have ok := plant_of_manifoldOk h (by simpa using live)
    have e : plant s2 = plant s :=
      (plant_beginWaiting _).trans ((foldl_keeps _ plant allChs (fun t c _ => plant_renewHold t c) _).trans rfl)
    clear_value s2
    exact manifoldOk_of_plant (ok.of_eq e)

/-! ### Every command -/

/-- The commands that act whenever the part has started up. -/
theorem manifoldOk_live {s t : State} (f : State → State) (h : s.ManifoldOk)
    (e : Host.Outcome.next (whenLive f s) = (Host.Outcome.next t : Host.Outcome State Fault Refusal))
    (hf : (plant s).Ok → (plant (f s)).Ok) : t.ManifoldOk := by
  cases Host.Outcome.next.inj e
  unfold whenLive
  split
  · exact h
  next live => exact manifoldOk_of_plant (hf (plant_of_manifoldOk h (by simpa using live)))

/-- The commands that act when a timer is due. -/
theorem manifoldOk_due {s t : State} (due : Bool) (f : State → State) (h : s.ManifoldOk)
    (e : Host.Outcome.next (onDue due f s) = (Host.Outcome.next t : Host.Outcome State Fault Refusal))
    (hf : (plant s).Ok → (plant (f s)).Ok) : t.ManifoldOk := by
  cases Host.Outcome.next.inj e
  unfold onDue
  split
  next d =>
    have live := (Bool.and_eq_true_iff.1 d).2
    exact manifoldOk_of_plant (plant_finish (hf (plant_of_manifoldOk h (by simpa using live))))
  next => exact h

/-- The commands whose work on motions a timer that is due sets off. -/
theorem manifoldOk_dueWork {s t : State} (due : Bool) (f : State → State) (h : s.ManifoldOk)
    (e : Host.Outcome.next (onDue due f s) = (Host.Outcome.next t : Host.Outcome State Fault Refusal))
    (hf : Works s s → Works s (f s)) : t.ManifoldOk :=
  manifoldOk_due due f h e fun ok => ok.works hf

/-- The commands whose work on motions ends a step. -/
theorem manifoldOk_finish {s t : State} (f : State → State) (h : s.ManifoldOk)
    (e : Host.Outcome.next (whenLive (fun t => finish (f t)) s) = (Host.Outcome.next t : Host.Outcome State Fault Refusal))
    (hf : (plant s).Ok → (plant (f s)).Ok) : t.ManifoldOk :=
  manifoldOk_live _ h e fun ok => plant_finish (hf ok)

theorem plant_ite {s t : State} (p : Prop) [Decidable p] (ok : (plant s).Ok) (k : (plant s).Ok → (plant t).Ok) :
    (plant (if p then t else s)).Ok := by
  split
  · exact k ok
  · exact ok

theorem plant_imageEnd {s : State} (good : Bool) (ok : (plant s).Ok) :
    (plant (match s.store.job with
      | some (.image c) => finish (imageWritten c good s)
      | _ => s)).Ok := by
  split
  · exact plant_finish (plant_imageWritten ok _ good)
  · exact ok

theorem plant_markerEnd {s : State} (good : Bool) (ok : (plant s).Ok) :
    (plant (match s.store.job with
      | some .markerClear => finish (markerCleared good s)
      | _ => s)).Ok := by
  split
  · exact plant_finish (plant_markerCleared ok good)
  · exact ok

theorem plant_snapshotEnd {s : State} (good : Bool) (ok : (plant s).Ok) :
    (plant (match s.store.job with
      | some (.snapshot (some c)) => finish (snapshotWritten c good s)
      | _ => s)).Ok := by
  split
  · exact plant_finish (plant_snapshotWritten ok _ good)
  · exact ok

theorem plant_senseChange {s : State} (d : Driver) (v : Bool) (ok : (plant s).Ok) :
    (plant (let u := modMon (fun m => { m with senseLines := m.senseLines.set d v }) s
     finish (if s.power.state = .run then readSense u d else u))).Ok := by
  extract_lets u
  have line : (plant u).Ok := ok
  clear_value u
  exact plant_finish (line.works fun h => works_ite (fun _ => works_readSense d h) fun _ => h)

theorem works_cooldownEnd {b s : State} (h : Works b s) :
    Works b (modPump (fun p => { p with runState := .none, runTime := 0, hot := false, tripped := false }) s
      |> refreshAlerts |> modSup (fun u => { u with scanDue := true })) :=
  works_modSup _ (works_refreshAlerts (h.trans (.of_view rfl rfl rfl)))

theorem works_pumpDuty {b s : State} (c : Option Ch) (h : Works b s) :
    Works b (match c with
      | some c => fail c .pumpTime .none (modPump (fun p => { p with hot := true }) (pumpStop false s)
        |> modMon (fun m => { m with tripSince := m.tripSince.set .pump none }) |> refreshAlerts)
      | none => modPump (fun p => { p with hot := true }) (pumpStop false s)
        |> modMon (fun m => { m with tripSince := m.tripSince.set .pump none }) |> refreshAlerts) := by
  have hot : Works b (modPump (fun p => { p with hot := true }) (pumpStop false s)) :=
    (works_pumpStop false h).trans (.of_view rfl rfl rfl)
  have off := works_refreshAlerts (works_modMon (fun m => { m with tripSince := m.tripSince.set .pump none }) hot)
  cases c with
  | none => exact off
  | some c => exact works_fail c .pumpTime .none off

theorem manifoldOk_exec {i : Instr} {s t : State} (h : s.ManifoldOk) (e : exec i s = .next t) : t.ManifoldOk := by
  cases i with
  | start | hold | stop | clear | readInputs | setLinkOutputs | readSupply | get | set | save | loadDefaults | enterWatch
  | enterSleep | resetPart | pauseReports | resumeReports | requestReport | ackAlert | getIdentity | badRequest =>
    exact manifoldOk_live _ h e fun ok => plant_takeRequest ok _ _
  | frameBadCheck | frameTooLong => exact manifoldOk_live _ h e fun ok => plant_takeBadFrame ok _
  | linkByte b => exact manifoldOk_live _ h e fun ok => plant_receiveByte ok b
  | syncAtRest => exact manifoldOk_live _ h e fun ok => plant_ite _ ok plant_wakeByLink
  | assemblyGapTimeout | drainQuietTimeout => exact manifoldOk_live _ h e fun ok => plant_ite _ ok id
  | heldRequestServed => exact manifoldOk_live _ h e plant_serveHeld
  | frameSent => exact manifoldOk_live _ h e plant_frameSent
  | telemetryTimerExpiry => exact manifoldOk_due _ _ h e id
  | idleFillSpacingExpiry => exact manifoldOk_live _ h e fun ok => plant_ite _ ok plant_transmitted
  | powerOnReset | pinReset =>
    cases e
    exact manifoldOk_resetPart _ s
  | requestReset =>
    cases e
    exact manifoldOk_requestReset h
  | startUpEnd reads =>
    cases e
    exact manifoldOk_startUpEnd reads h
  | imageWriteEnd good => exact manifoldOk_live _ h e (plant_imageEnd good)
  | markerClearEnd good => exact manifoldOk_live _ h e (plant_markerEnd good)
  | snapshotWriteEnd good => exact manifoldOk_live _ h e (plant_snapshotEnd good)
  | admissionScan => exact manifoldOk_finish _ h e fun ok => ok.works works_scan
  | waitExpired c => exact manifoldOk_dueWork _ _ h e (works_cancel c .waitExpired)
  | holdExpiry c => exact manifoldOk_dueWork _ _ h e (works_releaseMotion c)
  | stoppingEnd c => exact manifoldOk_dueWork _ _ h e (works_stoppingEnd c)
  | inputRawChange t high => exact manifoldOk_live _ h e id
  | inputDebounceExpiry t => exact manifoldOk_dueWork _ _ h e (works_debounced t)
  | speedPulse w => exact manifoldOk_finish _ h e fun ok => ok.works (works_speedPulse w)
  | speedWindowExpiry => exact manifoldOk_dueWork _ _ h e works_speedWindow
  | stowedSwitchChange j v => exact manifoldOk_finish _ h e fun ok => plant_stowedSwitch ok j v
  | roomInSwitchChange r v => exact manifoldOk_finish _ h e fun ok => ok.works (works_roomSwitch r v)
  | awningInSwitchChange v => exact manifoldOk_finish _ h e fun ok => ok.works (works_awningSwitch v)
  | analogScan reads => exact manifoldOk_finish _ h e fun ok => plant_analogScan ok reads
  | sensorFlagClear flag =>
    cases flag with
    | jack j => exact manifoldOk_due _ _ h e fun ok => plant_clearJackFlag ok j
    | line => exact manifoldOk_due _ _ h e plant_clearLineFlag
  | tripTimerExpiry d => exact manifoldOk_dueWork _ _ h e (works_trip d)
  | faultSenseChange d v => exact manifoldOk_live _ h e (plant_senseChange d v)
  | inclinometerPoll read => exact manifoldOk_finish _ h e fun ok => ok.works (works_inclinometerPoll read)
  | settleGiveUp => exact manifoldOk_dueWork _ _ h e (works_settleEnd true)
  | groundTimeLimit | liftTimeLimit | levelStall | trimTimeLimit | stowTimeLimit =>
    exact manifoldOk_dueWork _ _ h e (works_fail _ _ _)
  | trimWaitEnd => exact manifoldOk_dueWork _ _ h e works_trimTest
  | driftTimerExpiry => exact manifoldOk_dueWork _ _ h e (works_setLevelStatus _)
  | cooldownEnd => exact manifoldOk_dueWork _ _ h e works_cooldownEnd
  | pumpDutyLimit => exact manifoldOk_dueWork _ _ h e (works_pumpDuty _)
  | hydraulicDeadheadEnd r => exact manifoldOk_dueWork _ _ h e (works_hydraulicArrive r)
  | hydraulicTravelTime r => exact manifoldOk_dueWork _ _ h e (works_fail _ _ _)
  | roomHallPulse r d => exact manifoldOk_finish _ h e fun ok => ok.works (works_roomPulse r d)
  | roomPulseLateExpiry r d => exact manifoldOk_dueWork _ _ h e (works_roomLateExpiry r d)
  | roomStall r d => exact manifoldOk_dueWork _ _ h e (works_roomStalled r d)
  | learnReversalEnd r => exact manifoldOk_dueWork _ _ h e (works_learnReverse r)
  | awningHallPulse => exact manifoldOk_finish _ h e fun ok => ok.works works_awningPulse
  | awningPulseLateExpiry => exact manifoldOk_dueWork _ _ h e works_awningLateExpiry
  | awningStall => exact manifoldOk_dueWork _ _ h e works_awningStalled
  | anemometerPulse => exact manifoldOk_live _ h e fun ok => plant_ite _ ok id
  | windBinEnd => exact manifoldOk_dueWork _ _ h e works_windBinEnd
  | lockoutEnd => exact manifoldOk_due _ _ h e id

/-- Settles O7: a strengthened invariant, by which open jack valves belong to the holder LEVEL, is kept by each operation on
motions, by what ends a step and by the tick. -/
theorem stepKeepsManifold : Obligations.StepKeepsManifold := by
  intro s t h e
  unfold step at e
  split at e
  · exact Host.Outcome.next.inj e ▸ manifoldOk_tick h
  next c rest _ => exact manifoldOk_exec (s := { s with pending := rest }) ⟨h.owned, h.retract, h.start⟩ e

end Sys2Proof.Machine
end

section
/-! PROOF. The pump's limits (O53): the end of a cooldown, the duty limit, and a termination that finds the pump off. -/

namespace Sys2Proof.Machine

/-! ### A termination that finds the pump off -/

theorem pump_setRoomStat (r : Room) (v : Pos) (c : Conf) (s : State) : (setRoomStat r v c s).man.pump = s.man.pump := by
  unfold setRoomStat
  extract_lets q s1
  have written : s1.man = s.man := by
    simp only [s1]
    rw [snapshotOnRest_frame, signal_frame]
    rfl
  split
  · rfl
  · split
    · rw [closeOnRetract_frame, written]
    · rw [written]

theorem pump_roomHome (r : Room) (s : State) : (roomHome r s).man.pump = s.man.pump :=
  (pump_setRoomStat r .pin .known _).trans rfl

theorem pump_endWrite (c : Ch) (t : Term) (s : State) : (endWrite c t s).man.pump = s.man.pump := by
  cases c with
  | level =>
    unfold endWrite
    rw [setLevelStatus_frame]
  | room r =>
    simp only [endWrite, electricEnd, apply_ite State.man, apply_ite Manifold.pump, pump_setRoomStat, pump_roomHome, ite_self]
  | awning =>
    have away : ∀ v q, (setAwnStat v q s).man.pump = s.man.pump := fun v q => by rw [setAwnStat_frame]
    have home : (awnHome s).man.pump = s.man.pump := by rw [awnHome_frame]
    simp only [endWrite, awningEnd, apply_ite State.man, apply_ite Manifold.pump, away, home, ite_self]

theorem pump_written (c : Ch) (t : Term) (s : State) : (written c t s).man.pump = s.man.pump := by
  have off : (jobOff c t (stop c t s)).man.pump = s.man.pump := by
    cases c with
    | level =>
      simp only [jobOff, apply_ite State.man, apply_ite Manifold.pump]
      exact ite_self _
    | _ => rfl
  exact (pump_endWrite c t _).trans off

theorem pump_lateSwitch {c : Ch} {t : Term} (n : t ≠ .normal) (s : State) : (lateSwitch c t s).man.pump = s.man.pump := by
  cases c with
  | level => rfl
  | room r => simp only [lateSwitch, n, if_false, apply_ite State.man, apply_ite Manifold.pump, pump_roomHome, ite_self]
  | awning =>
    have home : ∀ u : State, (awnHome u).man.pump = u.man.pump := fun u => by rw [awnHome_frame]
    simp only [lateSwitch, apply_ite State.man, apply_ite Manifold.pump, home, modAwn_man, ite_self]

/-- A pump that is off has nothing left to stop (R45). -/
theorem pump_terminate_of_off (c : Ch) {t : Term} (n : t ≠ .normal) {s : State} (off : s.man.pump.on = false) :
    (terminate c t s).man.pump = s.man.pump := by
  by_cases h : isRunning s c = true
  · have before : (lateSwitch c t (written c t s)).man.pump = s.man.pump := (pump_lateSwitch n _).trans (pump_written c t s)
    rw [terminate_of_running t h]
    unfold pumpOffAndReport pumpStop
    rw [signal_frame, before, off]
    simp [before]
  · rw [terminate_of_not_running c t s (by simpa using h)]

theorem alerts_of_outside {s t : State} (h : outside t = outside s) : t.link.alerts = s.link.alerts :=
  of_outside (fun u => u.link.alerts) (fun _ => rfl) h

/-- A termination other than NORMAL raises no alert (R16). -/
theorem alerts_terminate (c : Ch) {t : Term} (n : t ≠ .normal) (s : State) : (terminate c t s).link.alerts = s.link.alerts := by
  by_cases h : isRunning s c = true
  · exact (alerts_of_outside (outside_of_scope (scope_terminate_plain t h fun k => n k.1))).trans rfl
  · rw [terminate_of_not_running c t s (by simpa using h)]

/-! ### The end of a cooldown (R47, R48) -/

/-- The pump's run has ended and its marks with it (R48), PUMP_HOT follows, and a scan is due. -/
def cooled (s : State) : State :=
  modSup (fun u => { u with scanDue := true })
    (refreshAlerts (modPump (fun p => { p with runState := .none, runTime := 0, hot := false, tripped := false }) s))

theorem exec_cooldownEnd (s : State) : exec .cooldownEnd s = .next (onDue (cooldownDue s) cooled s) := rfl

theorem cooldownDue_iff (s : State) :
    cooldownDue s = true ↔ s.man.pump.runState = .resting ∧ s.man.pump.cooldown = 0 ∧
      ¬ (s.mon.latches.pump.isSet = true ∧ (s.man.pump.tripped = true ∨
        s.mon.latches.pump.ch = some .level ∧ (chanOf s .level).state = .faulted)) := by
  have waits : (!levelPumpLatch s) = true ↔ ¬ (s.mon.latches.pump.isSet = true ∧ s.mon.latches.pump.ch = some .level ∧
      (chanOf s .level).state = .faulted) := by
    rw [← levelPumpLatch_iff, Bool.not_eq_true', Bool.not_eq_true]
  have trips : (!(s.man.pump.tripped && s.mon.latches.pump.isSet)) = true ↔
      ¬ (s.man.pump.tripped = true ∧ s.mon.latches.pump.isSet = true) := by
    rw [← Bool.and_eq_true, Bool.not_eq_true', Bool.not_eq_true]
  simp only [cooldownDue, Bool.and_eq_true (s.man.pump.runState == .resting && s.man.pump.cooldown == 0 && _),
    Bool.and_eq_true (s.man.pump.runState == .resting && s.man.pump.cooldown == 0),
    Bool.and_eq_true (s.man.pump.runState == .resting), beq_iff_eq, waits, trips]
  tauto

theorem cooled_frame (s : State) :
    cooled s = { s with
      man := { s.man with pump := { s.man.pump with runState := .none, runTime := 0, hot := false, tripped := false } }
      sup := { s.sup with scanDue := true }
      link := { s.link with alerts := (cooled s).link.alerts, reports := (cooled s).link.reports } } := by
  unfold cooled
  rw [refreshAlerts_frame]
  rfl

theorem cooled_alert (s : State) : ((cooled s).link.alerts.get .pumpHot).cond = false := by
  unfold cooled
  rw [modSup_link, refreshAlerts_get]
  rfl

/-! ### The duty limit (R49, R58) -/

/-- The pump stops at its duty limit, with the hot flag and no trip to follow (R49, R58), and PUMP_HOT follows. -/
def overworked (s : State) : State :=
  refreshAlerts (modMon (fun m => { m with tripSince := m.tripSince.set .pump none })
    (modPump (fun p => { p with hot := true }) (pumpStop false s)))

theorem exec_pumpDutyLimit (s : State) :
    exec .pumpDutyLimit s = .next (onDue (dutyDue s) (fun t => match t.man.pump.holder with
      | some c => fail c .pumpTime .none (overworked t)
      | none => overworked t) s) := rfl

theorem overworked_frame {s : State} (on : s.man.pump.on = true) :
    overworked s = { s with
      man := { s.man with
        deadhead := none
        pump := { s.man.pump with
          on := false, runState := .resting, lastRun := s.man.pump.runTime,
          cooldown := max (s.man.pump.runTime / 2) 10000, tripped := false, hot := true } }
      mon := { s.mon with tripSince := s.mon.tripSince.set .pump none }
      link := { s.link with alerts := (overworked s).link.alerts, reports := (overworked s).link.reports } } := by
  have stops : pumpStop false s = modMan (fun m => { m with
      deadhead := none,
      pump := { m.pump with
        on := false, runState := .resting, lastRun := m.pump.runTime,
        cooldown := max (m.pump.runTime / 2) Config.minCooldownMs, tripped := false } }) s := if_pos on
  unfold overworked
  rw [refreshAlerts_frame, stops]
  rfl

theorem overworked_alert (s : State) : ((overworked s).link.alerts.get .pumpHot).cond = true := by
  unfold overworked
  rw [refreshAlerts_get]
  rfl

theorem dutyDue_of {s : State} {c : Ch} (on : s.man.pump.on = true) (long : 180000 ≤ s.man.pump.runTime)
    (holds : s.man.pump.holder = some c) (runs : (chanOf s c).state = .running) : dutyDue s = true := by
  simp [dutyDue, on, holds, isRunning, runs, Config.dutyLimitMs, long]

/-- Settles O53: the cooldown's end and the duty limit in full, each read off what its expiry does to the pump before the
holder's termination, which finds the pump off. -/
theorem pumpLimits : Obligations.PumpLimits := by
  refine ⟨fun s live => ⟨cooldownDue_iff s, fun h => ?_, fun h => ?_⟩, fun s c live => ⟨fun h => ?_, fun on long holds runs => ?_⟩⟩
  · rw [exec_cooldownEnd, onDue_of_not _ h]
  · have frame := cooled_frame s
    refine ⟨cooled s, by rw [exec_cooldownEnd, onDue_of_due _ h live], ?_, cooled_alert s, ?_⟩
    · rw [frame]
    generalize cooled s = u at frame
    have pump : u.man.pump = _ := congrArg (fun v : State => v.man.pump) frame
    rw [pump]
    exact frame
  · rw [exec_pumpDutyLimit, onDue_of_not _ h]
  · have frame := overworked_frame on
    have hot := overworked_alert s
    refine ⟨fail c .pumpTime .none (overworked s), ?_, ?_⟩
    · rw [exec_pumpDutyLimit, onDue_of_due _ (dutyDue_of on long holds runs) live, holds]
    generalize overworked s = z at frame hot
    have same : ∀ d, chanOf z d = chanOf s d := fun d => by
      rw [frame]
      rfl
    have pump : z.man.pump = _ := congrArg (fun u : State => u.man.pump) frame
    have mon : z.mon = _ := congrArg State.mon frame
    have off : z.man.pump.on = false := by rw [pump]
    obtain ⟨ends, rest, -, keeps⟩ := terminate_plain (w := .abnormal ⟨.pumpTime, .none⟩) ((same c).symm ▸ runs) (by decide)
    refine ⟨(pump_terminate_of_off c (by decide) off).trans pump, ?_, ?_, fun x n => (rest x n).trans (same x), keeps.trans mon⟩
    · exact (congrArg (fun p : PerAlert AlertRec => (p.get .pumpHot).cond) (alerts_terminate c (by decide) z)).trans hot
    · have now : z.now = s.now := by rw [frame]
      have cfg : z.store.cfg = s.store.cfg := by rw [frame]
      exact stopped_of_same now cfg (same c) ends

end Sys2Proof.Machine
end

section
/-! PROOF. Overcurrent latches (O46): what a trip leaves, and what a fault-sense line clears. -/

namespace Sys2Proof.Machine

/-! ### A trip (R154, R155) -/

/-- A driver goes off and its latch sets with its recorded channel, before that channel's termination (R155 steps 1 and 2). -/
def latched (d : Driver) (s : State) : State :=
  modMon (fun m => { m with
    latches := m.latches.set d { isSet := true, ch := tripChannel s d }, tripSince := m.tripSince.set d none }) (driverOff d s)

theorem scope_driverOff (d : Driver) (s : State) : scope (driverOff d s) = scope s := by
  cases d with
  | pump => exact scope_pumpStop true s
  | _ => rfl

theorem driverOff_mon (d : Driver) (s : State) : (driverOff d s).mon = s.mon := by
  cases d with
  | pump =>
    unfold driverOff
    rw [pumpStop_frame]
  | _ => rfl

theorem scope_latched (d : Driver) (s : State) : scope (latched d s) = scope s := scope_driverOff d s

theorem latched_latch (d x : Driver) (s : State) :
    (latched d s).mon.latches.get x = if x = d then { isSet := true, ch := tripChannel s d } else s.mon.latches.get x := by
  have mon : (latched d s).mon.latches = s.mon.latches.set d { isSet := true, ch := tripChannel s d } := by
    unfold latched
    rw [modMon_mon, driverOff_mon]
  rw [mon]
  split
  next e => rw [e, PerDriver_get_set_self]
  next e => rw [PerDriver_get_set_ne _ _ _ _ e]

/-- A pump that a trip stops is marked tripped (R48). -/
theorem latched_pump (s : State) :
    (latched .pump s).man.pump.on = false ∧ (s.man.pump.on = true → (latched .pump s).man.pump.tripped = true) := by
  refine ⟨(pumpStop_pump true s).1, fun on => ?_⟩
  have stops : latched .pump s = modMon _ (modMan _ s) := congrArg (modMon _) (if_pos on)
  rw [stops]
  rfl

theorem trip_eq (d : Driver) (s : State) :
    trip d s = examineLatch d (refreshAlerts (match tripChannel s d with
      | some c => fail c .overcurrent (.driver d) (latched d s)
      | none => latched d s)) := rfl

theorem examineLatch_of_not {d : Driver} {s : State} (h : latchClears s d = false) : examineLatch d s = s := if_neg (by simp [h])

theorem examineLatch_of_clears {d : Driver} {s : State} (h : latchClears s d = true) : examineLatch d s = clearLatch d s := if_pos h

/-- A latch whose recorded channel is present and stops keeps. -/
theorem latchClears_of_stopping {s : State} {d : Driver} {c : Ch} (ch : (s.mon.latches.get d).ch = some c)
    (here : s.present c = true) (stops : (chanOf s c).state = .stopping) : latchClears s d = false := by
  simp [latchClears, ch, here, stops]

theorem chanOf_refreshAlerts (s : State) (c : Ch) : chanOf (refreshAlerts s) c = chanOf s c := by
  rw [refreshAlerts_frame]
  rfl

theorem present_refreshAlerts (s : State) (c : Ch) : (refreshAlerts s).present c = s.present c := by
  rw [refreshAlerts_frame]
  cases c <;> rfl

/-- What the end of its recorded channel leaves of a trip (R155): the latch that has set, the other channels, and a driver
that is off. -/
structure Overcurrent (s t : State) (d : Driver) (c : Ch) : Prop where
  mon : t.mon = (latched d s).mon
  stopped : s.Stopped t c (.abnormal ⟨.overcurrent, .driver d⟩)
  rest : ∀ x, x ≠ c → chanOf t x = chanOf s x
  present : t.present = s.present
  pump : d = .pump → t.man.pump.on = false ∧ (s.man.pump.on = true → t.man.pump.tripped = true)
  ends : ∀ r e, d = .roomEnd r e → (endOf t r e).drive = .brake
  awning : d = .awning → t.awn.drive = .brake

theorem overcurrent_fail {s : State} {d : Driver} {c : Ch} (ch : tripChannel s d = some c)
    (runs : (chanOf s c).state = .running) : Overcurrent s (fail c .overcurrent (.driver d) (latched d s)) d c := by
  have o := outside_of_scope (scope_latched d s)
  have same := chanOf_of_outside o
  have runs' : (chanOf (latched d s) c).state = .running := by rw [same, runs]
  obtain ⟨stopped, rest, -, mon⟩ := terminate_plain (w := .abnormal ⟨.overcurrent, .driver d⟩) runs' (by simp)
  obtain ⟨room, awning, -⟩ := terminate_drives (c := c) (.abnormal ⟨.overcurrent, .driver d⟩) (by simpa [isRunning] using runs')
  refine ⟨mon, stopped_of_same (now_of_outside o) (cfg_of_outside o) (same c) stopped, fun x n => (rest x n).trans (same x),
    (ends_terminate c _ _).present.trans (present_of_outside o), fun e => ?_, fun r e k => ?_, fun k => ?_⟩
  · subst e
    obtain ⟨off, tripped⟩ := latched_pump s
    have keeps := pump_terminate_of_off c (t := .abnormal ⟨.overcurrent, .driver .pump⟩) (by simp) off
    rw [fail, keeps]
    exact ⟨off, tripped⟩
  · subst k
    obtain ⟨a, b⟩ := room r (Option.some.inj ch).symm
    cases e with
    | endA => exact a
    | endB => exact b
  · subst k
    exact awning (Option.some.inj ch).symm

/-- The trip of a driver with a RUNNING recorded channel: its latch keeps, for the channel stops. -/
theorem trip_of_running {s : State} {d : Driver} {c : Ch} (ch : tripChannel s d = some c)
    (runs : (chanOf s c).state = .running) (here : s.present c = true) :
    trip d s = refreshAlerts (fail c .overcurrent (.driver d) (latched d s)) := by
  have ended := overcurrent_fail ch runs
  rw [trip_eq, ch]
  dsimp only
  generalize fail c .overcurrent (.driver d) (latched d s) = t at ended
  refine examineLatch_of_not (latchClears_of_stopping (c := c) ?_ ?_ ?_)
  · rw [refreshAlerts_frame]
    dsimp only
    rw [ended.mon, latched_latch, if_pos rfl, ch]
  · rw [present_refreshAlerts, ended.present, here]
  · rw [chanOf_refreshAlerts]
    exact ended.stopped.1

theorem overcurrent_trip {s : State} {d : Driver} {c : Ch} (ch : tripChannel s d = some c)
    (runs : (chanOf s c).state = .running) (here : s.present c = true) : Overcurrent s (trip d s) d c := by
  have ended := overcurrent_fail ch runs
  rw [trip_of_running ch runs here]
  generalize fail c .overcurrent (.driver d) (latched d s) = t at ended
  rw [refreshAlerts_frame]
  exact ⟨ended.mon, ended.stopped, ended.rest, ended.present, ended.pump, ended.ends, ended.awning⟩

/-- The spare driver has no channel, so that its latch waits for its fault-sense line alone (R156, R172). -/
theorem trip_spare (s : State) :
    (trip .spare s).chans = s.chans ∧ ((trip .spare s).mon.latches.get .spare).isSet = s.mon.faultSense.get .spare := by
  have latch : ((refreshAlerts (latched .spare s)).mon.latches.get .spare) = { isSet := true, ch := none } := by
    rw [refreshAlerts_frame]
    exact latched_latch .spare .spare s
  have line : (refreshAlerts (latched .spare s)).mon.faultSense = s.mon.faultSense := by
    rw [refreshAlerts_frame]
    rfl
  have chans : (refreshAlerts (latched .spare s)).chans = s.chans := by
    rw [refreshAlerts_frame]
    rfl
  have e : trip .spare s = examineLatch .spare (refreshAlerts (latched .spare s)) := rfl
  rw [e]
  generalize refreshAlerts (latched .spare s) = t at latch line chans
  have clears : latchClears t .spare = !s.mon.faultSense.get .spare := by simp [latchClears, latch, line]
  refine ⟨by rw [examineLatch_frame, chans], ?_⟩
  cases active : s.mon.faultSense.get .spare with
  | true => rw [examineLatch_of_not (by rw [clears, active, Bool.not_true]), latch]
  | false =>
    rw [examineLatch_of_clears (by rw [clears, active, Bool.not_false])]
    simp [clearLatch]

theorem exec_tripTimerExpiry (d : Driver) (s : State) : exec (.tripTimerExpiry d) s = .next (onDue (tripDue s d) (trip d) s) := rfl

/-! ### A fault-sense line (R156) -/

/-- No recorded channel holds a latch: there is none, or it is absent, IDLE or PENDING (R156). -/
def latchFree (s : State) (d : Driver) : Prop :=
  (s.mon.latches.get d).ch = none ∨ ∃ c, (s.mon.latches.get d).ch = some c ∧
    (s.present c = false ∨ (chanOf s c).state = .idle ∨ (chanOf s c).state = .pending)

theorem latchClears_iff (s : State) (d : Driver) :
    latchClears s d = true ↔ (s.mon.latches.get d).isSet = true ∧ s.mon.faultSense.get d = false ∧ latchFree s d := by
  cases ch : (s.mon.latches.get d).ch <;> simp [latchClears, latchFree, ch, and_assoc, or_assoc]

theorem exec_faultSenseChange {d : Driver} {active : Bool} {s : State} (live : s.power.startingUp = false) :
    exec (.faultSenseChange d active) s = .next (finish
      (if s.power.state = .run then readSense (modMon (fun m => { m with senseLines := m.senseLines.set d active }) s) d
      else modMon (fun m => { m with senseLines := m.senseLines.set d active }) s)) := by
  have e : exec (.faultSenseChange d active) s = .next (whenLive (fun t => finish
      (if t.power.state = .run then readSense (modMon (fun m => { m with senseLines := m.senseLines.set d active }) t) d
      else modMon (fun m => { m with senseLines := m.senseLines.set d active }) t)) s) := rfl
  rw [e]
  simp [whenLive, live]

/-- The supply monitor with a line's new level, taken at once (R156). -/
def lineTaken (d : Driver) (active : Bool) (s : State) : State :=
  modMon (fun m => { m with senseLines := m.senseLines.set d active, faultSense := m.faultSense.set d active }) s

theorem readSense_of_change (d : Driver) (active : Bool) (s : State) :
    readSense (modMon (fun m => { m with senseLines := m.senseLines.set d active }) s) d = examineLatch d (lineTaken d active s) := by
  have both : readSense (modMon (fun m => { m with senseLines := m.senseLines.set d active }) s) d =
      examineLatch d (modMon (fun m => { m with
        senseLines := m.senseLines.set d active
        faultSense := m.faultSense.set d ((m.senseLines.set d active).get d) }) s) := rfl
  simp only [both, PerDriver_get_set_self]
  rfl

theorem latchClears_lineTaken (d : Driver) (active : Bool) (s : State) :
    latchClears (lineTaken d active s) d = true ↔ (s.mon.latches.get d).isSet = true ∧ active = false ∧ latchFree s d := by
  have line : (lineTaken d active s).mon.faultSense.get d = active := PerDriver_get_set_self _ _ _
  have free : latchFree (lineTaken d active s) d ↔ latchFree s d := Iff.rfl
  rw [latchClears_iff, line, free]
  rfl

/-- Settles O46: a trip leaves its latch set because the recorded channel stops, and a line that changes clears exactly the
latch that no channel holds. -/
theorem overcurrentLatches : Obligations.OvercurrentLatches := by
  refine ⟨fun s d c live => ⟨fun h => ?_, fun due ch runs here => ?_, fun due => ?_⟩, fun s d active live => ?_⟩
  · rw [exec_tripTimerExpiry, onDue_of_not _ h]
  · have ended := overcurrent_trip ch runs here
    refine ⟨trip d s, by rw [exec_tripTimerExpiry, onDue_of_due _ due live], ?_, fun x n => ?_, ended.stopped, ended.rest, ended.pump,
      ended.ends, ended.awning⟩
    · rw [ended.mon, latched_latch, if_pos rfl, ch]
    · rw [ended.mon, latched_latch, if_neg n]
  · exact ⟨trip .spare s, by rw [exec_tripTimerExpiry, onDue_of_due _ due live], trip_spare s⟩
  · intro free
    refine ⟨_, exec_faultSenseChange live, ?_⟩
    by_cases run : s.power.state = .run
    · rw [if_pos run, readSense_of_change]
      have clears := latchClears_lineTaken d active s
      by_cases h : latchClears (lineTaken d active s) d = true
      · obtain ⟨set, low, none⟩ := clears.1 h
        rw [examineLatch_of_clears h]
        refine ⟨rfl, fun n => absurd run n, fun _ => ⟨rfl, fun _ _ _ => ⟨rfl, rfl⟩, fun k => ?_, rfl⟩⟩
        rcases k with high | held | unset
        · exact absurd (low.symm.trans high) (by decide)
        · exact absurd none held
        · exact absurd (set.symm.trans unset) (by decide)
      · rw [examineLatch_of_not (by simpa using h)]
        exact ⟨rfl, fun n => absurd run n, fun _ => ⟨rfl, fun low none set => absurd (clears.2 ⟨set, low, none⟩) h,
          fun _ => ⟨rfl, rfl⟩, rfl⟩⟩
    · rw [if_neg run]
      exact ⟨rfl, fun _ => rfl, fun k => absurd k run⟩

end Sys2Proof.Machine
end

section
/-! PROOF. Scans and sensor flags (O44): what each consumer of a scan leaves of the readings, `sensed`, and of the samples and
lines, `Measured`. -/

namespace Sys2Proof.Machine

/-! ### Samples, currents and lines -/

/-- The supply's samples, the drivers' currents and fault-sense lines, the scanner's records and the settings that a scan reads. -/
structure Measured where
  samples : List Nat
  sample : Nat
  currents : PerDriver Nat
  faultSense : Driver → Bool
  senseLines : PerDriver Bool
  scan : Scanner
  cfg : Cfg
  marking : Marking

/-- What has been measured in a state. -/
def measured (s : State) : Measured where
  samples := s.mon.samples
  sample := s.mon.sample
  currents := s.mon.currents
  faultSense := s.mon.faultSense.get
  senseLines := s.mon.senseLines
  scan := s.scan
  cfg := s.store.cfg
  marking := s.store.marking

theorem measured_of_kept {s t : State} (h : kept t = kept s) : measured t = measured s := of_kept measured (fun _ => rfl) h

theorem measured_of_scope {s t : State} (h : scope t = scope s) : measured t = measured s :=
  measured_of_kept (Steady.of_scope h).kept

theorem Ends.measured {p : Ch → Ending → Prop} {s t : State} (h : Ends p s t) : Machine.measured t = Machine.measured s :=
  measured_of_kept h.steady.kept

theorem measured_refreshAlerts (s : State) : measured (refreshAlerts s) = measured s := by
  rw [refreshAlerts_frame]
  rfl

theorem measured_settle (s : State) : measured (settle s) = measured s := measured_of_kept (steady_settle s).kept

theorem scope_jackSample (reads : Analog) (s : State) (j : Jack) : scope (jackSample reads s j) = scope s := by
  unfold jackSample
  simp only [apply_ite scope, scope_deriveContact, scope_signal, scope_modJack, ite_self]

theorem measured_scanJacks (reads : Analog) (s : State) :
    measured (scanJacks reads s) =
      { measured s with scan := { s.scan with strokes := reads.strokes, pressures := reads.pressures } } := by
  unfold scanJacks
  extract_lets s1 s2 s3
  have second : measured s2 = measured s1 := measured_of_scope (scope_foldl _ (scope_jackSample reads) _ s1)
  have third : measured s3 = measured s2 := by
    simp only [s3]
    split
    · exact (ends_levelSensorLoss _ _).measured.trans (measured_refreshAlerts _)
    · rfl
  exact (ends_levelReact s3).measured.trans (third.trans (second.trans rfl))

theorem measured_lineFaultEnds (s : State) : measured (lineFaultEnds s) = measured s :=
  foldl_keeps _ measured allRooms (fun t r _ => by
    split
    · exact (ends_room_fail r _ _ t).measured
    · rfl) s

theorem measured_scanLine (n : Nat) (s : State) : measured (scanLine n s) = measured s := by
  unfold scanLine
  extract_lets s1 s2
  have first : measured s1 = measured s := by
    simp only [s1]
    split <;> rfl
  have second : measured s2 = measured s1 := rfl
  rw [measured_of_scope (scope_stallSample _), apply_ite measured, measured_lineFaultEnds, measured_refreshAlerts, ite_self]
  exact second.trans first

theorem examineLatch_measured (d : Driver) (s : State) : measured (examineLatch d s) = measured s :=
  measured_of_scope (scope_examineLatch d s)

theorem measured_readSense (s : State) (d : Driver) :
    measured (readSense s d) = { measured s with
      faultSense := fun x => if x = d then s.mon.senseLines.get d else s.mon.faultSense.get x } := by
  have line : (s.mon.faultSense.set d (s.mon.senseLines.get d)).get =
      fun x => if x = d then s.mon.senseLines.get d else s.mon.faultSense.get x := by
    funext x
    split
    next e => rw [e, PerDriver_get_set_self]
    next e => rw [PerDriver_get_set_ne _ _ _ _ e]
  rw [← line]
  exact examineLatch_measured d _

/-- Every line that a sample reads takes its level (R156). -/
theorem measured_readSenses (l : List Driver) (s : State) :
    measured (l.foldl readSense s) = { measured s with
      faultSense := fun x => if x ∈ l then s.mon.senseLines.get x else s.mon.faultSense.get x } := by
  induction l generalizing s with
  | nil => simp [measured]
  | cons d l ih =>
    have one := measured_readSense s d
    have lines : (readSense s d).mon.senseLines = s.mon.senseLines := congrArg Measured.senseLines one
    have level : (readSense s d).mon.faultSense.get = _ := congrArg Measured.faultSense one
    rw [List.foldl_cons, ih, lines, one]
    simp only [level, Measured.mk.injEq, true_and, and_true]
    funext x
    by_cases e : x = d <;> simp [e]

theorem measured_scanCurrents (c : PerDriver Nat) (s : State) :
    measured (scanCurrents c s) = { measured s with currents := c, faultSense := s.mon.senseLines.get } := by
  unfold scanCurrents
  extract_lets s1 s2 s3 s4
  have first : measured s1 = { measured s with currents := c } := rfl
  have second : measured s2 = measured s1 := by
    refine foldl_keeps _ measured allDrivers (fun _ _ _ => ?_) s1
    rfl
  have third : measured s3 = measured s2 := by
    refine foldl_keeps _ measured allRooms (fun _ _ _ => ?_) s2
    rfl
  clear_value s1 s2 s3
  have fourth : measured s4 = measured s3 := rfl
  have all := fourth.trans (third.trans (second.trans first))
  clear_value s4
  have lines : s4.mon.senseLines = s.mon.senseLines := congrArg Measured.senseLines all
  rw [measured_readSenses, all, lines]
  simp only [mem_allDrivers, if_true]
  rfl

theorem measured_brownAborts (s : State) : measured (brownAborts s) = measured s :=
  foldl_keeps _ measured allChs (fun t c _ => by
    split
    · rfl
    · exact (ends_terminate c _ t).measured) s

theorem measured_supplyStep (avg : Nat) (s : State) : measured (supplyStep avg s) = measured s := by
  unfold supplyStep
  split
  · rfl
  next v _ =>
    extract_lets s1
    have first : measured s1 = measured s := (measured_refreshAlerts _).trans rfl
    clear_value s1
    cases v with
    | brown => exact (measured_brownAborts s1).trans first
    | normal => exact first
    | sag => exact first

theorem measured_supplySample (v : Nat) (s : State) :
    measured (supplySample v s) = { measured s with
      samples := (min 2000 v :: s.mon.samples).take 8, sample := min 2000 v } := by
  unfold supplySample
  extract_lets l s1
  split
  · rfl
  · rw [measured_supplyStep, measured_supplyStep]
    rfl

/-! ### The jacks' readings -/

theorem jackPresent_of_measured {s t : State} (h : measured t = measured s) (j : Jack) : t.jackPresent j = s.jackPresent j := by
  have cfg : t.store.cfg = s.store.cfg := congrArg Measured.cfg h
  have marking : t.store.marking = s.store.marking := congrArg Measured.marking h
  simp only [State.jackPresent, State.present, cfg, marking]

/-- The readings after a jack's contact state has been written. -/
theorem sensed_setContact (j : Jack) (v : Contact) (s : State) :
    sensed (setContact j v s) = { sensed s with
      jack := fun k => if k = j then { (jackOf s j).sensed with contact := v } else (jackOf s k).sensed } := by
  unfold setContact
  extract_lets q g s1
  have first : sensed s1 = { sensed s with
      jack := fun k => if k = j then { (jackOf s j).sensed with contact := v } else (jackOf s k).sensed } := by
    have moved : sensed s1 = sensed (modJack j (fun q => { q with contact := v, ground := g }) s) := sensed_signal _ _
    have jacks : ∀ k, (jackOf (modJack j (fun q => { q with contact := v, ground := g }) s) k).sensed =
        if k = j then { (jackOf s j).sensed with contact := v } else (jackOf s k).sensed := fun k => by
      split
      next e =>
        rw [e, jackOf_modJack_self]
        rfl
      next e => rw [jackOf_modJack_ne _ _ _ _ e]
    rw [moved]
    simp only [sensed, jacks]
    rfl
  clear_value s1
  split
  next same =>
    have jacks : ∀ k, (if k = j then { (jackOf s j).sensed with contact := v } else (jackOf s k).sensed) = (jackOf s k).sensed :=
      fun k => by
        split
        next e =>
          subst e
          rw [← same]
          rfl
        next => rfl
    exact (congrArg (fun f : Jack → JackRec => ({ sensed s with jack := f } : Sensed)) (funext jacks)).symm
  next =>
    split
    · exact (works_setLevelStatus .disturbed (.refl s1)).sensed.trans first
    · exact first

/-- A jack's record with its contact state derived. -/
def JackRec.derived (q : JackRec) : JackRec := { q.sensed with contact := derivedContact q }

theorem sensed_deriveContact (j : Jack) (s : State) :
    sensed (deriveContact j s) = { sensed s with
      jack := fun k => if k = j ∧ s.jackPresent j = true then (jackOf s j).derived else (jackOf s k).sensed } := by
  unfold deriveContact
  split
  next here =>
    rw [sensed_setContact]
    simp only [here, and_true]
    rfl
  next away =>
    simp only [away, Bool.false_eq_true, and_false, if_false]
    rfl

/-! ### A jack's sample (R61, R170) -/

/-- A jack's record after a sample, with its contact state derived. -/
def JackRec.sampled (q : JackRec) (threshold now stroke pressure : Nat) : JackRec :=
  (jackScanRec threshold now stroke pressure q).derived

theorem JackRec.sampled_sensed (q : JackRec) (a b c d : Nat) : q.sensed.sampled a b c d = q.sampled a b c d := by
  unfold JackRec.sampled jackScanRec
  have fault : q.sensed.fault = q.fault := rfl
  rw [fault]
  split
  · split <;> rfl
  · split <;> rfl

theorem sensed_jackSample (reads : Analog) (s : State) (j : Jack) :
    sensed (jackSample reads s j) = { sensed s with
      jack := fun k => if k = j ∧ s.jackPresent j = true then
        (jackOf s j).sampled s.store.cfg.groundContact s.now (reads.strokes.get j) (reads.pressures.get j)
        else (jackOf s k).sensed } := by
  unfold jackSample
  split
  next here =>
    extract_lets s1 s2
    have first : sensed s2 = sensed s1 := by
      simp only [s2]
      split
      · exact sensed_signal _ _
      · rfl
    have here2 : s2.jackPresent j = true := by
      have e : measured s2 = measured s := by
        simp only [s2, apply_ite measured]
        rw [measured_of_scope (scope_signal _ _), ite_self]
        rfl
      rw [jackPresent_of_measured e, here]
    have jack : ∀ k, (jackOf s2 k).sensed = (jackOf s1 k).sensed := fun k => congrFun (congrArg Sensed.jack first) k
    clear_value s2
    have jacks : ∀ k, (if k = j ∧ s2.jackPresent j = true then (jackOf s2 j).derived else (jackOf s2 k).sensed) =
        if k = j ∧ s.jackPresent j = true then
          (jackOf s j).sampled s.store.cfg.groundContact s.now (reads.strokes.get j) (reads.pressures.get j)
        else (jackOf s k).sensed := fun k => by
      by_cases e : k = j
      · have own : (jackOf s2 j).derived = (jackOf s2 j).sensed.derived := rfl
        simp only [e, here, here2, and_self, if_true, own, jack]
        simp only [s1, jackOf_modJack_self]
        rfl
      · simp only [e, false_and, if_false, jack]
        simp only [s1, jackOf_modJack_ne _ _ _ _ e]
    rw [sensed_deriveContact, first, funext jacks]
    rfl
  next away =>
    simp only [away, Bool.false_eq_true, and_false, if_false]
    rfl

theorem sensed_jackSamples (reads : Analog) (l : List Jack) (nodup : l.Nodup) (s : State) :
    sensed (l.foldl (jackSample reads) s) = { sensed s with
      jack := fun k => if k ∈ l ∧ s.jackPresent k = true then
        (jackOf s k).sampled s.store.cfg.groundContact s.now (reads.strokes.get k) (reads.pressures.get k)
        else (jackOf s k).sensed } := by
  induction l generalizing s with
  | nil => simp [sensed]
  | cons j l ih =>
    obtain ⟨out, nodup⟩ := List.nodup_cons.1 nodup
    have o := scope_jackSample reads s j
    have one := sensed_jackSample reads s j
    have here : ∀ k, (jackSample reads s j).jackPresent k = s.jackPresent k := jackPresent_of_measured (measured_of_scope o)
    have cfg : (jackSample reads s j).store.cfg = s.store.cfg := cfg_of_outside (outside_of_scope o)
    have now : (jackSample reads s j).now = s.now := now_of_outside (outside_of_scope o)
    rw [List.foldl_cons, ih nodup, one]
    generalize jackSample reads s j = t at one here cfg now
    have jack : ∀ k, (jackOf t k).sensed = _ := fun k => congrFun (congrArg Sensed.jack one) k
    have jacks : ∀ k, (if k ∈ l ∧ t.jackPresent k = true then
          (jackOf t k).sampled t.store.cfg.groundContact t.now (reads.strokes.get k) (reads.pressures.get k)
        else (jackOf t k).sensed) =
        if k ∈ j :: l ∧ s.jackPresent k = true then
          (jackOf s k).sampled s.store.cfg.groundContact s.now (reads.strokes.get k) (reads.pressures.get k)
        else (jackOf s k).sensed := fun k => by
      rw [here, cfg, now, ← JackRec.sampled_sensed (jackOf t k), jack]
      by_cases e : k = j
      · subst e
        simp [out]
      · simp [e, JackRec.sampled_sensed]
    rw [funext jacks]

theorem mem_allJacks (j : Jack) : j ∈ allJacks := by cases j <;> decide

/-- What a scan's transducers give: every present jack takes its sample (R169, R170). -/
theorem sensed_scanJacks (reads : Analog) (s : State) :
    sensed (scanJacks reads s) = { sensed s with
      jack := fun k => if s.jackPresent k = true then
        (jackOf s k).sampled s.store.cfg.groundContact s.now (reads.strokes.get k) (reads.pressures.get k)
        else (jackOf s k).sensed } := by
  unfold scanJacks
  extract_lets s1 s2 s3
  have second := sensed_jackSamples reads allJacks (by decide) s1
  have third : sensed s3 = sensed s2 := by
    simp only [s3]
    split
    · exact (works_levelSensorLoss _ (works_refreshAlerts (.refl s2))).sensed
    · rfl
  have react := (works_levelReact (.refl s3)).sensed
  simp only [mem_allJacks, true_and] at second
  exact react.trans (third.trans second)

/-! ### The line pressure (R52) -/

/-- What a sample of the line pressure gives (R52, R170). -/
def Sensed.lineTaken (q : Sensed) (now reading : Nat) : Sensed :=
  if inBand reading then
    { q with
      line := scaleReading pressureSpan reading
      lineBandSince := if q.lineFault then some (q.lineBandSince.getD now) else none }
  else { q with lineFault := true, lineBandSince := none }

theorem sensed_scanLine (reading : Nat) (s : State) : sensed (scanLine reading s) = (sensed s).lineTaken s.now reading := by
  unfold scanLine
  extract_lets s1 s2
  have first : sensed s1 = (sensed s).lineTaken s.now reading := by
    simp only [s1, Sensed.lineTaken, apply_ite sensed]
    rfl
  have second : sensed s2 = sensed s1 := (works_judgeDeadhead (.refl s1)).sensed
  clear_value s2
  have ends := (works_stallSample (works_ite (p := s2.man.lineFault = true)
    (fun _ => works_lineFaultEnds (works_refreshAlerts (.refl s2))) fun _ => .refl s2)).sensed
  exact ends.trans (second.trans first)

/-! ### A whole scan (R169) -/

theorem inBand_iff (x : Nat) : inBand x = true ↔ 200 ≤ x ∧ x ≤ 9800 := by simp [inBand]

theorem sampled_of_inBand {q : JackRec} (sound : q.fault = false) {st pr : Nat} (a : inBand st = true) (b : inBand pr = true)
    (gc now : Nat) :
    q.sampled gc now st pr = { q.sensed with
      stroke := scaleReading strokeSpan st, pressure := scaleReading pressureSpan pr, threshold := gc
      contact := if q.stowed = true then .stowed else if gc ≤ scaleReading pressureSpan pr then .ground else .air } := by
  simp [JackRec.sampled, jackScanRec, JackRec.derived, derivedContact, JackRec.sensed, sound, a, b]

theorem sampled_of_outOfBand {q : JackRec} (sound : q.fault = false) {st pr : Nat} (out : ¬ (inBand st = true ∧ inBand pr = true))
    (gc now : Nat) :
    (q.sampled gc now st pr).fault = true ∧ (q.sampled gc now st pr).stroke = q.stroke ∧
      (q.sampled gc now st pr).pressure = q.pressure ∧ (q.sampled gc now st pr).threshold = q.threshold := by
  have no : (inBand st && inBand pr) = false := by simpa using out
  simp [JackRec.sampled, jackScanRec, JackRec.derived, JackRec.sensed, sound, no]

/-- What a scan in RUN gives of the readings. -/
theorem sensed_analogScan {s : State} (reads : Analog) (run : s.power.state = .run) :
    ∃ n, sensed (analogScan reads s) = (sensed (scanJacks reads s)).lineTaken n reads.line := by
  have e : analogScan reads s = supplySample reads.supply (scanCurrents reads.currents
      (settle (scanLine reads.line (settle (scanJacks reads s))))) := by
    unfold analogScan
    rw [run]
  refine ⟨(settle (scanJacks reads s)).now, ?_⟩
  rw [e]
  have jacks := (works_settle (.refl (scanJacks reads s))).sensed
  generalize settle (scanJacks reads s) = t at jacks
  have line := (works_settle (.refl (scanLine reads.line t))).sensed
  generalize settle (scanLine reads.line t) = w at line
  have rest := (works_supplySample reads.supply (works_scanCurrents reads.currents (.refl w))).sensed
  rw [rest, line, sensed_scanLine, jacks]

theorem lineTaken_jack (q : Sensed) (now reading : Nat) : (q.lineTaken now reading).jack = q.jack := by
  unfold Sensed.lineTaken
  split <;> rfl

theorem lineTaken_inBand (q : Sensed) (now : Nat) {reading : Nat} (h : inBand reading = true) :
    (q.lineTaken now reading).line = scaleReading pressureSpan reading ∧ (q.lineTaken now reading).lineFault = q.lineFault := by
  unfold Sensed.lineTaken
  rw [if_pos h]
  exact ⟨rfl, rfl⟩

theorem lineTaken_outOfBand (q : Sensed) (now : Nat) {reading : Nat} (h : ¬ inBand reading = true) :
    (q.lineTaken now reading).line = q.line ∧ (q.lineTaken now reading).lineFault = true := by
  unfold Sensed.lineTaken
  rw [if_neg h]
  exact ⟨rfl, rfl⟩

/-- A present jack takes its sample in a scan in RUN. -/
theorem jack_analogScan {s : State} (reads : Analog) (run : s.power.state = .run) {j : Jack} (here : s.jackPresent j = true) :
    (jackOf (analogScan reads s) j).sensed =
      (jackOf s j).sampled s.store.cfg.groundContact s.now (reads.strokes.get j) (reads.pressures.get j) := by
  obtain ⟨n, all⟩ := sensed_analogScan reads run
  have jacks := congrFun (congrArg Sensed.jack all) j
  rw [lineTaken_jack, sensed_scanJacks] at jacks
  exact jacks.trans (if_pos here)

/-- The line pressure that a scan in RUN takes. -/
theorem line_analogScan {s : State} (reads : Analog) (run : s.power.state = .run) :
    (inBand reads.line = true → (analogScan reads s).man.line = scaleReading pressureSpan reads.line ∧
      (analogScan reads s).man.lineFault = s.man.lineFault) ∧
    (¬ inBand reads.line = true → (analogScan reads s).man.line = s.man.line ∧ (analogScan reads s).man.lineFault = true) := by
  obtain ⟨n, all⟩ := sensed_analogScan reads run
  have line : (analogScan reads s).man.line = _ := congrArg Sensed.line all
  have fault : (analogScan reads s).man.lineFault = _ := congrArg Sensed.lineFault all
  have before := sensed_scanJacks reads s
  rw [line, fault, before]
  exact ⟨lineTaken_inBand _ n, lineTaken_outOfBand _ n⟩

theorem measured_analogScan {s : State} (reads : Analog) (run : s.power.state = .run) :
    measured (analogScan reads s) = { measured s with
      scan := { s.scan with strokes := reads.strokes, pressures := reads.pressures }
      currents := reads.currents, faultSense := s.mon.senseLines.get
      samples := (min 2000 reads.supply :: s.mon.samples).take 8, sample := min 2000 reads.supply } := by
  have e : analogScan reads s = supplySample reads.supply (scanCurrents reads.currents
      (settle (scanLine reads.line (settle (scanJacks reads s))))) := by
    unfold analogScan
    rw [run]
  have before : measured (settle (scanLine reads.line (settle (scanJacks reads s)))) = _ :=
    (measured_settle _).trans ((measured_scanLine _ _).trans ((measured_settle _).trans (measured_scanJacks reads s)))
  rw [e]
  generalize settle (scanLine reads.line (settle (scanJacks reads s))) = t at before
  have lines : t.mon.senseLines = s.mon.senseLines := congrArg Measured.senseLines before
  have samples : t.mon.samples = s.mon.samples := congrArg Measured.samples before
  have currents := measured_scanCurrents reads.currents t
  rw [lines, before] at currents
  generalize scanCurrents reads.currents t = w at currents
  have kept : w.mon.samples = s.mon.samples := congrArg Measured.samples currents
  rw [measured_supplySample, kept, currents]

theorem exec_analogScan {s : State} (reads : Analog) (live : s.power.startingUp = false) :
    exec (.analogScan reads) s = .next (finish (analogScan reads s)) := by
  have e : exec (.analogScan reads) s = .next (whenLive (fun t => finish (analogScan reads t)) s) := rfl
  rw [e]
  simp [whenLive, live]

theorem analogScan_watch {s : State} (reads : Analog) (h : s.power.state = .watch) :
    analogScan reads s = supplySample reads.supply s := by
  unfold analogScan
  rw [h]

theorem analogScan_sleep {s : State} (reads : Analog) (h : s.power.state = .sleep) : analogScan reads s = s := by
  unfold analogScan
  rw [h]

/-- A scan leaves the gradient and the settings in every power state. -/
theorem analogScan_keeps (reads : Analog) (s : State) :
    (analogScan reads s).scan.grad = s.scan.grad ∧ (analogScan reads s).store.cfg = s.store.cfg := by
  cases h : s.power.state with
  | run =>
    have e := measured_analogScan reads h
    exact ⟨congrArg (fun m : Measured => m.scan.grad) e, congrArg Measured.cfg e⟩
  | watch =>
    have e := measured_supplySample reads.supply s
    rw [analogScan_watch reads h]
    exact ⟨congrArg (fun m : Measured => m.scan.grad) e, congrArg Measured.cfg e⟩
  | sleep =>
    rw [analogScan_sleep reads h]
    exact ⟨rfl, rfl⟩

/-! ### Flags that clear (R170) -/

theorem exec_jackFlagClear (j : Jack) (s : State) :
    exec (.sensorFlagClear (.jack j)) s = .next (onDue (jackFlagDue s j) (clearJackFlag j) s) := rfl

theorem exec_lineFlagClear (s : State) :
    exec (.sensorFlagClear .line) s = .next (onDue (lineFlagDue s) clearLineFlag s) := rfl

/-- The live values of a jack whose flag clears (R61, R170). -/
def JackRec.live (q : JackRec) (s : State) (j : Jack) : JackRec :=
  { q with
    fault := false, bandSince := none, stroke := scaleReading strokeSpan (s.scan.strokes.get j)
    pressure := scaleReading pressureSpan (s.scan.pressures.get j), threshold := s.store.cfg.groundContact }

theorem sensed_clearJackFlag {s : State} {j : Jack} (here : s.jackPresent j = true) :
    sensed (clearJackFlag j s) = { sensed s with
      jack := fun k => if k = j then ((jackOf s j).live s j).derived else (jackOf s k).sensed } := by
  have fresh : clearJackFlag j s = levelReact (deriveContact j (signal .posture (modJack j (fun q => q.live s j) s))) := rfl
  have moved := sensed_signal .posture (modJack j (fun q => q.live s j) s)
  have here' : (signal .posture (modJack j (fun q => q.live s j) s)).jackPresent j = true :=
    (jackPresent_of_measured (measured_of_scope (scope_signal _ _)) j).trans here
  rw [fresh, (works_levelReact (.refl _)).sensed]
  generalize signal .posture (modJack j (fun q => q.live s j) s) = t at moved here'
  have jack : ∀ k, (jackOf t k).sensed = (jackOf (modJack j (fun q => q.live s j) s) k).sensed := fun k =>
    congrFun (congrArg Sensed.jack moved) k
  have own : (jackOf t j).derived = (jackOf t j).sensed.derived := rfl
  have jacks : ∀ k, (if k = j ∧ t.jackPresent j = true then (jackOf t j).derived else (jackOf t k).sensed) =
      if k = j then ((jackOf s j).live s j).derived else (jackOf s k).sensed := fun k => by
    by_cases e : k = j
    · simp only [e, here', and_self, if_true, own, jack, jackOf_modJack_self]
      rfl
    · simp only [e, false_and, if_false, jack, jackOf_modJack_ne _ _ _ _ e]
  rw [sensed_deriveContact, moved, funext jacks]
  rfl

theorem clearLineFlag_frame (s : State) :
    clearLineFlag s = { s with man := (clearLineFlag s).man, lev := (clearLineFlag s).lev } ∧
      (clearLineFlag s).man.lineFault = false ∧ (clearLineFlag s).man.lineBandSince = none ∧
      (clearLineFlag s).man.line = s.man.line := by
  have stall : ∀ u : State, stallSample u = { u with lev := (stallSample u).lev } := fun u => by
    unfold stallSample
    split
    · extract_lets refs
      split
      · rfl
      · extract_lets risen
        split <;> rfl
    · rfl
  unfold clearLineFlag
  rw [stall]
  exact ⟨rfl, rfl, rfl, rfl⟩

/-- The fields of a jack's record that its readings give. -/
theorem fields_of_sensed {q r : JackRec} (h : q.sensed = r) :
    q.fault = r.fault ∧ q.bandSince = r.bandSince ∧ q.stroke = r.stroke ∧ q.pressure = r.pressure ∧
      q.threshold = r.threshold ∧ q.contact = r.contact := by
  subst h
  exact ⟨rfl, rfl, rfl, rfl, rfl, rfl⟩

/-- Settles O44: a scan's readings and samples are followed through each of its consumers, none of which writes them again; a flag
that clears hands on the live values. -/
theorem scansTakeReadings : Obligations.ScansTakeReadings := by
  refine ⟨fun s reads live => ?_, fun s j live => ⟨fun due => ?_, fun h => ?_, fun due => ?_, fun h => ?_⟩⟩
  · intro band
    refine ⟨analogScan reads s, exec_analogScan reads live, fun run => ?_, fun watch => ?_, analogScan_sleep reads,
      analogScan_keeps reads s⟩
    · have all := measured_analogScan reads run
      obtain ⟨taken, kept⟩ := line_analogScan reads run
      refine ⟨fun j here sound => ⟨fun a b => ?_, fun out => ?_⟩, fun h => taken ((inBand_iff _).2 h),
        fun h => kept fun k => h ((inBand_iff _).1 k), congrArg Measured.currents all, congrFun (congrArg Measured.faultSense all),
        congrArg Measured.sample all⟩
      · have live := sampled_of_inBand sound ((inBand_iff _).2 a) ((inBand_iff _).2 b) s.store.cfg.groundContact s.now
        obtain ⟨fault, -, stroke, pressure, threshold, contact⟩ := fields_of_sensed ((jack_analogScan reads run here).trans live)
        exact ⟨fault.trans sound, stroke, pressure, threshold, contact⟩
      · obtain ⟨fault, -, stroke, pressure, threshold, -⟩ := fields_of_sensed (jack_analogScan reads run here)
        rw [fault, stroke, pressure, threshold]
        exact sampled_of_outOfBand sound (fun k => out ⟨(inBand_iff _).1 k.1, (inBand_iff _).1 k.2⟩) _ _
    · have all := measured_supplySample reads.supply s
      have readings := (works_supplySample reads.supply (.refl s)).sensed
      rw [analogScan_watch reads watch]
      refine ⟨congrArg Measured.samples all, fun j => ?_, congrArg Sensed.line readings, congrArg Measured.currents all⟩
      obtain ⟨fault, -, stroke, pressure, -, -⟩ := fields_of_sensed (congrFun (congrArg Sensed.jack readings) j)
      exact ⟨stroke, pressure, fault⟩
  · have here : s.jackPresent j = true := (Bool.and_eq_true_iff.1 (Bool.and_eq_true_iff.1 due).1).1
    have jack := congrFun (congrArg Sensed.jack (sensed_clearJackFlag here))
    refine ⟨clearJackFlag j s, by rw [exec_jackFlagClear, onDue_of_due _ due live], ?_⟩
    obtain ⟨fault, since, stroke, pressure, threshold, contact⟩ := fields_of_sensed ((jack j).trans (if_pos rfl))
    refine ⟨fault, since, stroke, pressure, threshold, contact, fun k n => ?_⟩
    obtain ⟨fault, -, -, -, -, contact⟩ := fields_of_sensed ((jack k).trans (if_neg n))
    exact ⟨fault, contact⟩
  · rw [exec_jackFlagClear, onDue_of_not _ h]
  · obtain ⟨frame, fault, since, line⟩ := clearLineFlag_frame s
    exact ⟨clearLineFlag s, by rw [exec_lineFlagClear, onDue_of_due _ due live], fault, since, line, frame⟩
  · rw [exec_lineFlagClear, onDue_of_not _ h]

end Sys2Proof.Machine
end

section
/-! PROOF. The tick of an empty queue (O2): the pendant renews its holds one channel after another, and nothing else of a channel
moves. -/

namespace Sys2Proof.Machine

/-- A channel's record after the pendant has renewed its hold or not (R166). -/
def renewed (s : State) (c : Ch) (q : ChanRec) : ChanRec :=
  { q with deadline := if pendantRenews s c then s.now + s.store.cfg.holdWindow else q.deadline }

theorem renewHold_frame (s : State) (c : Ch) : renewHold s c = { s with chans := (renewHold s c).chans } := by
  unfold renewHold
  split <;> rfl

theorem chanOf_renewHold_self (s : State) (c : Ch) : chanOf (renewHold s c) c = renewed s c (chanOf s c) := by
  unfold renewHold renewed
  split
  · rw [chanOf_modChan_self]
  · rfl

theorem chanOf_renewHold_ne {c d : Ch} (n : d ≠ c) (s : State) : chanOf (renewHold s c) d = chanOf s d := by
  unfold renewHold
  split
  · exact chanOf_modChan_ne _ _ _ _ n
  · rfl

/-- The renewal of one channel's hold decides on no other's. -/
theorem renewed_renewHold {c d : Ch} (n : d ≠ c) (s : State) : renewed (renewHold s c) d = renewed s d := by
  have same := chanOf_renewHold_ne n s
  have frame := renewHold_frame s c
  generalize renewHold s c = t at same frame
  have reads : pendantRenews t d = pendantRenews s d := by
    simp only [pendantRenews, same]
    rw [frame]
    rfl
  have now : t.now = s.now := by rw [frame]
  have store : t.store = s.store := by rw [frame]
  funext q
  simp only [renewed, reads, now, store]

theorem renewHolds_frame (l : List Ch) (s : State) :
    l.foldl renewHold s = { s with chans := (l.foldl renewHold s).chans } := by
  induction l generalizing s with
  | nil => rfl
  | cons c l ih =>
    rw [List.foldl_cons, ih, renewHold_frame]

theorem chanOf_renewHolds (l : List Ch) (nodup : l.Nodup) (s : State) (c : Ch) :
    chanOf (l.foldl renewHold s) c = if c ∈ l then renewed s c (chanOf s c) else chanOf s c := by
  induction l generalizing s with
  | nil => simp
  | cons d l ih =>
    obtain ⟨out, nodup⟩ := List.nodup_cons.1 nodup
    rw [List.foldl_cons, ih nodup]
    by_cases e : c = d
    · subst e
      simp [out, chanOf_renewHold_self]
    · simp [e, chanOf_renewHold_ne e, renewed_renewHold e]

/-- A part that has started up, one millisecond later and before a waiting report begins. -/
def elapsed (s : State) : State := allChs.foldl renewHold (modPump tickPump { s with now := s.now + 1 })

theorem elapsed_frame (s : State) :
    elapsed s = { s with
      now := s.now + 1, chans := (elapsed s).chans, man := { s.man with pump := tickPump s.man.pump } } := by
  have frame := renewHolds_frame allChs (modPump tickPump { s with now := s.now + 1 })
  exact frame

theorem chanOf_elapsed (s : State) (c : Ch) :
    chanOf (elapsed s) c = { chanOf s c with
      deadline := if pendantRenews s c then s.now + 1 + s.store.cfg.holdWindow else (chanOf s c).deadline } :=
  (chanOf_renewHolds allChs (by decide) _ c).trans (if_pos (mem_allChs c))

theorem beginWaiting_eq (s : State) :
    beginWaiting s = if s.link.tx = none ∧ s.link.reports ≠ [] then transmit s else s := by
  split
  next h => exact beginWaiting_of_idle s h.1 h.2
  next h => exact beginWaiting_of_busy s (by tauto)

theorem tick_of_live {s : State} (live : s.power.startingUp = false) :
    tick s = { beginWaiting (elapsed s) with
      pending := (beginWaiting (elapsed s)).pending ++ dueCommands (beginWaiting (elapsed s)) } := by
  unfold tick
  rw [if_neg (by simp [live])]
  rfl

theorem beginWaiting_pending (s : State) : (beginWaiting s).pending = s.pending := by
  unfold beginWaiting
  split
  · have chosen : (chooseFrame s).pending = s.pending := by rw [chooseFrame_frame]
    exact chosen
  · rfl

theorem step_of_empty {s : State} (h : s.pending = []) : step s = .next (tick s) := by
  unfold step
  rw [h]

/-- Settles O2: the tick is the renewals, the pump's times and a report that begins, before the commands that are due. -/
theorem emptyQueueTicks : Obligations.EmptyQueueTicks := by
  intro s empty
  rw [step_of_empty empty]
  refine ⟨fun su => ?_, fun live => ⟨elapsed s, elapsed_frame s, chanOf_elapsed s, ?_⟩⟩
  · unfold tick
    rw [if_pos su]
  · have frame := elapsed_frame s
    rw [tick_of_live live, beginWaiting_pending]
    generalize elapsed s = v at frame
    have link : v.link = s.link := by rw [frame]
    have pending : v.pending = [] := by rw [frame, ← empty]
    intro w
    have begun : w = beginWaiting v := by rw [beginWaiting_eq, link]
    rw [begun, pending, List.nil_append]

end Sys2Proof.Machine
end

section
/-! PROOF. The end of start-up (O31): what the reads of its first steps give, what building the posture keeps, and what the first
evaluations leave of a part whose channels are IDLE. -/

namespace Sys2Proof.Machine

/-! ### The first evaluations -/

/-- What the first evaluations of an idle part leave as it was. -/
structure Standing where
  now : Nat
  pending : List Instr
  chans : PerCh ChanRec
  power : Power
  term : Terminals
  store : Store
  cause : Option PostureCause
  roomIn : Room → Bool
  awnIn : Bool

/-- The standing part of a state. -/
def standing (s : State) : Standing where
  now := s.now
  pending := s.pending
  chans := s.chans
  power := s.power
  term := s.term
  store := s.store
  cause := s.link.postureCause
  roomIn := fun r => (roomOf s r).inSwitch
  awnIn := s.awn.inSwitch

/-- From `s` to `t` only evaluations have been made: the standing part stands, no report has left the queue, and no alert's latch
has been cleared. -/
structure Evaluates (s t : State) : Prop where
  same : standing t = standing s
  reports : Grows s t
  latch : ∀ a, (s.link.alerts.get a).latch = true → (t.link.alerts.get a).latch = true

theorem Evaluates.refl (s : State) : Evaluates s s := ⟨rfl, .of_link rfl, fun _ => id⟩

theorem Evaluates.trans {s t u : State} (h : Evaluates s t) (k : Evaluates t u) : Evaluates s u :=
  ⟨k.same.trans h.same, h.reports.trans k.reports, fun a l => k.latch a (h.latch a l)⟩

theorem Evaluates.of_link {s t : State} (same : standing t = standing s) (link : t.link = s.link) : Evaluates s t :=
  ⟨same, .of_link link, fun a l => by rwa [link]⟩

theorem Evaluates.foldl {α : Type} (f : State → α → State) (h : ∀ t a, Evaluates t (f t a)) (l : List α) (s : State) :
    Evaluates s (l.foldl f s) := by
  induction l generalizing s with
  | nil => exact .refl s
  | cons a l ih => exact (h s a).trans (ih _)

/-- Every channel is IDLE. -/
def AllIdle (s : State) : Prop := ∀ c, (chanOf s c).state = .idle

theorem AllIdle.not_running {s : State} (h : AllIdle s) (c : Ch) : isRunning s c = false := by simp [isRunning, h c]

theorem Evaluates.idle {s t : State} (h : Evaluates s t) (k : AllIdle s) : AllIdle t := fun c => by
  have chans : t.chans = s.chans := congrArg Standing.chans h.same
  rw [show chanOf t c = chanOf s c from congrArg (fun p : PerCh ChanRec => p.get c) chans]
  exact k c

theorem evaluates_refreshAlerts (s : State) : Evaluates s (refreshAlerts s) := by
  refine ⟨?_, (works_refreshAlerts (.refl s)).reports, fun a l => ?_⟩
  · rw [refreshAlerts_frame]
    rfl
  · rw [refreshAlerts_get, AlertRec.given, l, Bool.true_or]

theorem lineFaultEnds_of_idle {s : State} (h : AllIdle s) : lineFaultEnds s = s := by
  refine List.foldl_fixed' (fun r => ?_) allRooms
  split
  · exact terminate_of_not_running _ _ s (h.not_running _)
  · rfl

theorem brownAborts_of_idle {s : State} (h : AllIdle s) : brownAborts s = s := by
  refine List.foldl_fixed' (fun c => ?_) allChs
  split
  · rfl
  · exact terminate_of_not_running c _ s (h.not_running c)

theorem evaluates_stallSample (s : State) : Evaluates s (stallSample s) := by
  unfold stallSample
  split
  · extract_lets refs
    split
    · exact .of_link rfl rfl
    · extract_lets risen
      split
      · exact .of_link rfl rfl
      · exact .refl s
  · exact .of_link rfl rfl

theorem evaluates_scanLine {s : State} (h : AllIdle s) (reading : Nat) : Evaluates s (scanLine reading s) := by
  unfold scanLine
  extract_lets s1 s2
  have first : Evaluates s s1 := by
    simp only [s1]
    split <;> exact .of_link rfl rfl
  have second : Evaluates s s2 := first.trans (.of_link rfl rfl)
  clear_value s2
  refine Evaluates.trans ?_ (evaluates_stallSample _)
  split
  · have alerts := second.trans (evaluates_refreshAlerts s2)
    rw [lineFaultEnds_of_idle (alerts.idle h)]
    exact alerts
  · exact second

theorem evaluates_readSense (s : State) (d : Driver) : Evaluates s (readSense s d) := by
  rw [readSense_frame]
  exact .of_link rfl rfl

theorem evaluates_endStall (s : State) (r : Room) (e : Side) : Evaluates s (endStall s r e) := by
  refine .of_link ?_ rfl
  have rooms : ∀ q, (roomOf (endStall s r e) q).inSwitch = (roomOf s q).inSwitch := fun q => by
    unfold endStall modEnd
    by_cases n : q = r
    · rw [n, roomOf_modRoom_self]
    · rw [roomOf_modRoom_ne _ _ _ _ n]
  simp only [standing, rooms]
  rfl

theorem evaluates_scanCurrents (c : PerDriver Nat) (s : State) : Evaluates s (scanCurrents c s) := by
  unfold scanCurrents
  extract_lets s1 s2 s3 s4
  have second : Evaluates s s2 := by
    refine Evaluates.trans (t := s1) (.of_link rfl rfl) (.foldl _ (fun _ _ => ?_) allDrivers s1)
    exact .of_link rfl rfl
  have third : Evaluates s2 s3 :=
    .foldl _ (fun t r => (evaluates_endStall t r .endA).trans (evaluates_endStall _ r .endB)) allRooms s2
  clear_value s1 s2 s3
  have fourth : Evaluates s3 s4 := .of_link rfl rfl
  exact second.trans (third.trans (fourth.trans (.foldl _ evaluates_readSense allDrivers s4)))

theorem evaluates_supplyStep {s : State} (h : AllIdle s) (avg : Nat) : Evaluates s (supplyStep avg s) := by
  unfold supplyStep
  split
  · exact .refl s
  next v _ =>
    extract_lets s1
    have first : Evaluates s s1 := 
      Evaluates.trans (t := modMon (fun m => { m with supply := v }) s) (.of_link rfl rfl) (evaluates_refreshAlerts _)
    clear_value s1
    cases v with
    | brown =>
      have calm := brownAborts_of_idle (first.idle h)
      dsimp only
      rw [calm]
      exact first
    | normal => exact first.trans (.of_link rfl rfl)
    | sag => exact first

theorem evaluates_supplySample {s : State} (h : AllIdle s) (v : Nat) : Evaluates s (supplySample v s) := by
  unfold supplySample
  extract_lets l s1
  have first : Evaluates s s1 := .of_link rfl rfl
  split
  · exact first
  · have taken : Evaluates s (modMon (fun m => { m with avg := some (l.sum / 8) }) s1) := .of_link rfl rfl
    generalize modMon (fun m => { m with avg := some (l.sum / 8) }) s1 = t at taken
    have once := taken.trans (evaluates_supplyStep (taken.idle h) (l.sum / 8))
    exact once.trans (evaluates_supplyStep (once.idle h) (l.sum / 8))

theorem evaluates_supplySamples (l : List Nat) {s : State} (h : AllIdle s) :
    Evaluates s (l.foldl (fun t v => supplySample v t) s) := by
  induction l generalizing s with
  | nil => exact .refl s
  | cons v l ih =>
    have one := evaluates_supplySample h v
    exact one.trans (ih (one.idle h))

theorem evaluates_driveAwayAtStart (s : State) : Evaluates s (driveAwayAtStart s) := by
  unfold driveAwayAtStart
  split
  · exact .of_link rfl rfl
  · exact .refl s

theorem evaluates_startTelemetryTimer (s : State) : Evaluates s (startTelemetryTimer s) := ⟨rfl, fun _ => id, fun _ => id⟩

/-- The first evaluations of start-up, from the posture that has been built (R192 steps 5 and 6). -/
def firstEvaluations (reads : StartUpReads) (s : State) : State :=
  let s4 := scanLine reads.scan.line s |> scanCurrents reads.scan.currents
  let s5 := (startUpSamples reads).foldl (fun t v => supplySample v t) s4
  let s6 := if s5.store.cfg.windFitted then startBinClock s5 else s5
  startTelemetryTimer (driveAwayAtStart s6)

theorem evaluates_firstEvaluations (reads : StartUpReads) {s : State} (h : AllIdle s) : Evaluates s (firstEvaluations reads s) := by
  unfold firstEvaluations
  extract_lets s4 s5 s6
  have fourth : Evaluates s s4 := (evaluates_scanLine h _).trans (evaluates_scanCurrents _ _)
  clear_value s4
  have fifth : Evaluates s s5 := fourth.trans (evaluates_supplySamples _ (fourth.idle h))
  clear_value s5
  have sixth : Evaluates s s6 := by
    simp only [s6]
    split
    · exact fifth.trans (.of_link rfl rfl)
    · exact fifth
  exact sixth.trans ((evaluates_driveAwayAtStart s6).trans (evaluates_startTelemetryTimer _))

/-- The drivers' currents, their fault-sense lines and the jacks' switches. -/
structure Lines where
  currents : PerDriver Nat
  faultSense : Driver → Bool
  senseLines : PerDriver Bool
  stowed : Jack → Bool

/-- The lines of a state. -/
def linesOf (s : State) : Lines := ⟨s.mon.currents, s.mon.faultSense.get, s.mon.senseLines, fun j => (jackOf s j).stowed⟩

/-- The lines are part of what has been measured and sensed. -/
theorem linesOf_eq (s : State) :
    linesOf s = ⟨(measured s).currents, (measured s).faultSense, (measured s).senseLines, fun j => ((sensed s).jack j).stowed⟩ := rfl

theorem linesOf_supplySample (v : Nat) (s : State) : linesOf (supplySample v s) = linesOf s := by
  rw [linesOf_eq, measured_supplySample, (works_supplySample v (.refl s)).sensed]
  rfl

/-- The lines and currents that the first evaluations leave. -/
theorem linesOf_firstEvaluations (reads : StartUpReads) (s : State) :
    linesOf (firstEvaluations reads s) = { linesOf s with
      currents := reads.scan.currents, faultSense := s.mon.senseLines.get } := by
  unfold firstEvaluations
  extract_lets s4 s5 s6
  have fourth : linesOf s4 = { linesOf s with currents := reads.scan.currents, faultSense := s.mon.senseLines.get } := by
    have line := measured_scanLine reads.scan.line s
    have lines : (scanLine reads.scan.line s).mon.senseLines = s.mon.senseLines := congrArg Measured.senseLines line
    have jacks := congrArg Sensed.jack (sensed_scanLine reads.scan.line s)
    rw [lineTaken_jack] at jacks
    simp only [s4]
    rw [linesOf_eq, measured_scanCurrents, (works_scanCurrents _ (.refl _)).sensed, jacks, lines, line]
    rfl
  clear_value s4
  have fifth : linesOf s5 = linesOf s4 := foldl_keeps _ linesOf _ (fun t v _ => linesOf_supplySample v t) s4
  clear_value s5
  have sixth : linesOf s6 = linesOf s5 := by
    simp only [s6]
    split <;> rfl
  clear_value s6
  have drive : linesOf (driveAwayAtStart s6) = linesOf s6 := by
    unfold driveAwayAtStart
    split <;> rfl
  generalize driveAwayAtStart s6 = s7 at drive
  exact (rfl : linesOf (startTelemetryTimer s7) = linesOf s7).trans (drive.trans (sixth.trans (fifth.trans fourth)))

theorem PerDriver_get_ext {α : Type} {p q : PerDriver α} (h : p.get = q.get) : p = q := by
  have pump := congrFun h .pump
  have awning := congrFun h .awning
  have spare := congrFun h .spare
  have ends : ∀ r e, (p.ends.get r).get e = (q.ends.get r).get e := fun r e => congrFun h (.roomEnd r e)
  have sides : ∀ a b : PerSide α, a.get .endA = b.get .endA → a.get .endB = b.get .endB → a = b := fun a b ha hb => by
    cases a
    cases b
    cases ha
    cases hb
    rfl
  obtain ⟨pp, ⟨a, b, c, d⟩, pa, ps⟩ := p
  obtain ⟨qp, ⟨a', b', c', d'⟩, qa, qs⟩ := q
  obtain rfl : a = a' := sides _ _ (ends .a .endA) (ends .a .endB)
  obtain rfl : b = b' := sides _ _ (ends .b .endA) (ends .b .endB)
  obtain rfl : c = c' := sides _ _ (ends .c .endA) (ends .c .endB)
  obtain rfl : d = d' := sides _ _ (ends .d .endA) (ends .d .endB)
  obtain rfl : pp = qp := pump
  obtain rfl : pa = qa := awning
  obtain rfl : ps = qs := spare
  rfl

/-! ### The reads of start-up (R192 steps 1 to 3) -/

/-- What start-up reads, before it opens the receiver and builds the posture. -/
def firstReads (reads : StartUpReads) (s : State) : State :=
  readSettings reads.settingsAnswer s |> readMarker reads.snapshotAnswer |> firstLevels reads |> firstPoll reads.poll

theorem readSettings_frame (answers : Bool) (s : State) :
    readSettings answers s = { s with store := (readSettings answers s).store } := by
  unfold readSettings
  split
  · split <;> rfl
  · rfl

/-- The table that start-up loads (R185, R192). -/
theorem readSettings_store (answers : Bool) (s : State) :
    (∀ c, answers = true → s.store.image = some c → (readSettings answers s).store.cfg = c ∧
      (readSettings answers s).store.marking = .stored ∧ (readSettings answers s).store.storeFault = s.store.storeFault) ∧
    (answers = true → s.store.image = none → (readSettings answers s).store.cfg = Cfg.default ∧
      (readSettings answers s).store.marking = .default ∧ (readSettings answers s).store.storeFault = true) ∧
    (answers = false → (readSettings answers s).store.cfg = Cfg.default ∧
      (readSettings answers s).store.marking = .default ∧
      (readSettings answers s).store.storeFault = s.store.storeFault) := by
  refine ⟨fun c a e => ?_, fun a e => ?_, fun a => ?_⟩
  · subst a
    simp only [readSettings, e, if_true]
    exact ⟨rfl, rfl, rfl⟩
  · subst a
    simp only [readSettings, e, if_true]
    exact ⟨rfl, rfl, rfl⟩
  · subst a
    exact ⟨rfl, rfl, rfl⟩

theorem readSettings_snapMark (answers : Bool) (s : State) : (readSettings answers s).store.snapMark = s.store.snapMark := by
  unfold readSettings
  split
  · split <;> rfl
  · rfl

theorem firstPoll_frame (read : Option RawGrad) (s : State) :
    firstPoll read s = { s with lev := { s.lev with ring := (firstPoll read s).lev.ring }, scan := (firstPoll read s).scan } := by
  cases read <;> rfl

/-- Switches whose level is written one after another. -/
theorem stowedLevels (v : PerJack Bool) (l : List Jack) (s : State) :
    l.foldl (fun t j => modJack j (fun q => { q with stowed := v.get j }) t) s =
      { s with lev := (l.foldl (fun t j => modJack j (fun q => { q with stowed := v.get j }) t) s).lev } ∧
    ∀ j, (jackOf (l.foldl (fun t j => modJack j (fun q => { q with stowed := v.get j }) t) s) j).stowed =
      if j ∈ l then v.get j else (jackOf s j).stowed := by
  induction l generalizing s with
  | nil => simp
  | cons k l ih =>
    obtain ⟨frame, levels⟩ := ih (modJack k (fun q => { q with stowed := v.get k }) s)
    refine ⟨?_, fun j => ?_⟩
    · rw [List.foldl_cons, frame]
      rfl
    · rw [List.foldl_cons, levels]
      by_cases e : j = k
      · subst e
        simp
      · simp [e, jackOf_modJack_ne _ _ _ _ e]

theorem inSwitchLevels (v : PerRoom Bool) (l : List Room) (s : State) :
    l.foldl (fun t r => modRoom r (fun q => { q with inSwitch := v.get r }) t) s =
      { s with rooms := (l.foldl (fun t r => modRoom r (fun q => { q with inSwitch := v.get r }) t) s).rooms } ∧
    ∀ r, (roomOf (l.foldl (fun t r => modRoom r (fun q => { q with inSwitch := v.get r }) t) s) r).inSwitch =
      if r ∈ l then v.get r else (roomOf s r).inSwitch := by
  induction l generalizing s with
  | nil => simp
  | cons k l ih =>
    obtain ⟨frame, levels⟩ := ih (modRoom k (fun q => { q with inSwitch := v.get k }) s)
    refine ⟨?_, fun r => ?_⟩
    · rw [List.foldl_cons, frame]
      rfl
    · rw [List.foldl_cons, levels]
      by_cases e : r = k
      · subst e
        simp
      · simp [e, roomOf_modRoom_ne _ _ _ _ e]

/-- What the reads of start-up leave and what they take. -/
structure StartRead (reads : StartUpReads) (s t : State) : Prop where
  now : t.now = s.now
  pending : t.pending = s.pending
  chans : t.chans = s.chans
  power : t.power = s.power
  link : t.link = s.link
  store : t.store = { (readSettings reads.settingsAnswer s).store with markerClean := reads.snapshotAnswer && s.store.snapMark }
  raw : t.term.raw = reads.inputs
  deb : t.term.deb = reads.inputs
  faultSense : t.mon.faultSense = reads.faultSense
  senseLines : t.mon.senseLines = reads.faultSense
  awnIn : t.awn.inSwitch = reads.awningIn
  roomIn : ∀ r, (roomOf t r).inSwitch = reads.roomIn.get r
  stowed : ∀ j, (jackOf t j).stowed = reads.stowed.get j

theorem startRead_levels {reads : StartUpReads} {s t : State} (frame : t = { s with store := t.store })
    (store : t.store = { (readSettings reads.settingsAnswer s).store with
      markerClean := reads.snapshotAnswer && s.store.snapMark }) : StartRead reads s (firstLevels reads t) := by
  have mem : ∀ r : Room, r ∈ allRooms := fun r => by cases r <;> decide
  unfold firstLevels
  extract_lets a b
  obtain ⟨stowFrame, stow⟩ : a = { t with lev := a.lev } ∧ _ := stowedLevels reads.stowed allJacks t
  obtain ⟨roomFrame, rooms⟩ : b = { a with rooms := b.rooms } ∧ _ := inSwitchLevels reads.roomIn allRooms a
  have level : ∀ r, (roomOf b r).inSwitch = reads.roomIn.get r := fun r => (rooms r).trans (if_pos (mem r))
  have jack : ∀ j, (jackOf b j).stowed = reads.stowed.get j := fun j => by
    have same : b.lev = a.lev := by rw [roomFrame]
    exact (congrArg (fun l : Levelling => (l.jacks.get j).stowed) same).trans ((stow j).trans (if_pos (mem_allJacks j)))
  have all : b = { s with store := t.store, lev := b.lev, rooms := b.rooms } := by
    rw [roomFrame, stowFrame, frame]
  clear_value b a
  obtain ⟨now, pending, chans, power, link, kept⟩ : b.now = s.now ∧ b.pending = s.pending ∧ b.chans = s.chans ∧
      b.power = s.power ∧ b.link = s.link ∧ b.store = t.store := by
    rw [all]
    exact ⟨rfl, rfl, rfl, rfl, rfl, rfl⟩
  exact ⟨now, pending, chans, power, link, kept.trans store, rfl, rfl, rfl, rfl, rfl, level, jack⟩

theorem startRead_firstReads (reads : StartUpReads) (s : State) : StartRead reads s (firstReads reads s) := by
  have store : (readMarker reads.snapshotAnswer (readSettings reads.settingsAnswer s)).store =
      { (readSettings reads.settingsAnswer s).store with markerClean := reads.snapshotAnswer && s.store.snapMark } := by
    have e : (readMarker reads.snapshotAnswer (readSettings reads.settingsAnswer s)).store =
        { (readSettings reads.settingsAnswer s).store with
          markerClean := reads.snapshotAnswer && (readSettings reads.settingsAnswer s).store.snapMark } := rfl
    rw [e, readSettings_snapMark]
  have read : readMarker reads.snapshotAnswer (readSettings reads.settingsAnswer s) =
      { s with store := (readMarker reads.snapshotAnswer (readSettings reads.settingsAnswer s)).store } := by
    have e : readMarker reads.snapshotAnswer (readSettings reads.settingsAnswer s) =
        { readSettings reads.settingsAnswer s with
          store := (readMarker reads.snapshotAnswer (readSettings reads.settingsAnswer s)).store } := rfl
    rw [e, readSettings_frame]
  unfold firstReads
  generalize readMarker reads.snapshotAnswer (readSettings reads.settingsAnswer s) = t at store read
  have levels := startRead_levels read store
  generalize firstLevels reads t = w at levels
  obtain ⟨now, pending, chans, power, link, store, raw, deb, faultSense, senseLines, awnIn, roomIn, stowed⟩ := levels
  rw [firstPoll_frame]
  exact ⟨now, pending, chans, power, link, store, raw, deb, faultSense, senseLines, awnIn, roomIn, stowed⟩

end Sys2Proof.Machine
end

section
/-! PROOF. Building the posture (O31): what start-up's records take from the snapshot and what they leave. -/

namespace Sys2Proof.Machine

/-! ### The records before their switches are applied (R57, R60, R106, R127) -/

/-- The records that start-up builds, before POSITION_UNCERTAIN and the switches. -/
def restored (s : State) : State := restoreAwning (allRooms.foldl restoreRoom (buildLevel (buildJacks s)))

theorem restoreRoom_frame (s : State) (r : Room) : restoreRoom s r = { s with rooms := (restoreRoom s r).rooms } := by
  unfold restoreRoom
  split <;> rfl

theorem restoreAwning_frame (s : State) : restoreAwning s = { s with awn := (restoreAwning s).awn } := by
  unfold restoreAwning
  split <;> rfl

theorem roomOf_restoreAwning (s : State) (r : Room) : roomOf (restoreAwning s) r = roomOf s r := by
  unfold restoreAwning
  split <;> rfl

theorem buildJacks_frame (s : State) : buildJacks s = { s with lev := (buildJacks s).lev } := by
  have keeps : ∀ (l : List Jack) (f : State → Jack → JackRec → JackRec) (t : State),
      l.foldl (fun u j => modJack j (f u j) u) t = { t with lev := (l.foldl (fun u j => modJack j (f u j) u) t).lev } := by
    intro l f
    induction l with
    | nil => exact fun _ => rfl
    | cons j l ih =>
      intro t
      rw [List.foldl_cons, ih]
      rfl
  exact keeps (presentJacks s) (fun t j _ => { freshJackRec t j with contact := derivedContact (freshJackRec t j) }) s

theorem restoreRooms_frame (l : List Room) (s : State) :
    l.foldl restoreRoom s = { s with rooms := (l.foldl restoreRoom s).rooms } := by
  induction l generalizing s with
  | nil => rfl
  | cons r l ih =>
    rw [List.foldl_cons, ih, restoreRoom_frame]

theorem restoreRooms_keeps (l : List Room) (s : State) :
    (l.foldl restoreRoom s).present = s.present ∧ (l.foldl restoreRoom s).store = s.store := by
  have frame := restoreRooms_frame l s
  generalize l.foldl restoreRoom s = t at frame
  rw [frame]
  exact ⟨rfl, rfl⟩

theorem restored_frame (s : State) :
    restored s = { s with lev := (restored s).lev, rooms := (restored s).rooms, awn := (restored s).awn } := by
  unfold restored
  rw [restoreAwning_frame, restoreRooms_frame]
  have level : ∀ u : State, buildLevel u = { u with lev := (buildLevel u).lev } := fun _ => rfl
  rw [level, buildJacks_frame]

theorem restoreRoom_inSwitch (s : State) (q r : Room) : (roomOf (restoreRoom s q) r).inSwitch = (roomOf s r).inSwitch := by
  have own : (restoredRoom s q).inSwitch = (roomOf s q).inSwitch := by
    unfold restoredRoom
    extract_lets p z elec known e
    split <;> rfl
  unfold restoreRoom
  split
  · by_cases e : r = q
    · subst e
      rw [roomOf_modRoom_self, own]
    · rw [roomOf_modRoom_ne _ _ _ _ e]
  · rfl

theorem restoreAwning_inSwitch (s : State) : (restoreAwning s).awn.inSwitch = s.awn.inSwitch := by
  unfold restoreAwning
  split
  · extract_lets p known
    rw [modAwn_awn]
    split <;> rfl
  · rfl

theorem buildJacks_stowed (s : State) (j : Jack) : (jackOf (buildJacks s) j).stowed = (jackOf s j).stowed := by
  have fresh : ∀ (t : State) (k : Jack), (freshJackRec t k).stowed = (jackOf t k).stowed := fun t k => by
    unfold freshJackRec jackScanRec
    split
    · split <;> rfl
    · split <;> rfl
  unfold buildJacks
  refine foldl_keeps _ (fun t => (jackOf t j).stowed) (presentJacks s) (fun t k _ => ?_) s
  by_cases e : j = k
  · subst e
    exact (congrArg JackRec.stowed (jackOf_modJack_self j _ t)).trans (fresh t j)
  · exact congrArg JackRec.stowed (jackOf_modJack_ne k j _ t e)

/-- The switches' levels stand as the records are built. -/
theorem restored_levels (s : State) :
    (restored s).awn.inSwitch = s.awn.inSwitch ∧ (∀ r, (roomOf (restored s) r).inSwitch = (roomOf s r).inSwitch) ∧
      ∀ j, (jackOf (restored s) j).stowed = (jackOf s j).stowed := by
  have level : ∀ u : State, buildLevel u = { u with lev := { u.lev with status := (buildLevel u).lev.status } } := fun _ => rfl
  have jacks : ∀ u : State, (jackOf (restoreAwning (allRooms.foldl restoreRoom (buildLevel u)))) = jackOf u := fun u => by
    rw [restoreAwning_frame, restoreRooms_frame, level]
    rfl
  unfold restored
  refine ⟨?_, fun r => ?_, fun j => ?_⟩
  · rw [restoreAwning_inSwitch, restoreRooms_frame, level, buildJacks_frame]
  · have fold := foldl_keeps restoreRoom (fun u => (roomOf u r).inSwitch) allRooms (fun u q _ => restoreRoom_inSwitch u q r)
      (buildLevel (buildJacks s))
    rw [roomOf_restoreAwning, fold, level, buildJacks_frame]
    rfl
  · rw [jacks, buildJacks_stowed]

/-- Without a clean marker a present room's record is UNCERTAIN (R57, R106). -/
theorem restoreRooms_uncertain {r : Room} (l : List Room) (s : State) (marker : s.store.markerClean = false)
    (here : s.present (.room r) = true) (known : r ∈ l ∨ (roomOf s r).conf = .uncertain) :
    (roomOf (l.foldl restoreRoom s) r).conf = .uncertain := by
  induction l generalizing s with
  | nil => simpa using known
  | cons q l ih =>
    have frame := restoreRoom_frame s q
    have own : (roomOf (restoreRoom s r) r).conf = .uncertain := by
      simp [restoreRoom, here, restoredRoom, marker]
    have other : q ≠ r → (roomOf (restoreRoom s q) r) = roomOf s r := fun n => by
      unfold restoreRoom
      split
      · exact roomOf_modRoom_ne _ _ _ _ (Ne.symm n)
      · rfl
    rw [List.foldl_cons]
    refine ih (restoreRoom s q) ?_ ?_ ?_
    · rw [frame]
      exact marker
    · rw [frame]
      exact here
    · by_cases e : q = r
      · subst e
        exact .inr own
      · rw [other e]
        simpa [Ne.symm e] using known

theorem restoreAwning_uncertain {s : State} (marker : s.store.markerClean = false) (here : s.present .awning = true) :
    (restoreAwning s).awn.conf = .uncertain := by
  simp [restoreAwning, here, marker]

theorem somePositionUncertain_of_room {s : State} {r : Room} (here : s.present (.room r) = true)
    (known : (roomOf s r).conf = .uncertain) : somePositionUncertain s = true := by
  have mem : r ∈ presentRooms s := List.mem_filter.2 ⟨by cases r <;> decide, here⟩
  exact Bool.or_eq_true_iff.2 (.inl (List.any_eq_true.2 ⟨r, mem, by simp [known]⟩))

theorem somePositionUncertain_of_awning {s : State} (here : s.present .awning = true) (known : s.awn.conf = .uncertain) :
    somePositionUncertain s = true := Bool.or_eq_true_iff.2 (.inr (by simp [here, known]))

/-- Without a clean marker a present room or awning leaves the position uncertain (R105, R192). -/
theorem restored_uncertain {s : State} (marker : s.store.markerClean = false)
    (here : s.present .awning = true ∨ ∃ r, s.present (.room r) = true) : somePositionUncertain (restored s) = true := by
  have presence : (restored s).present = s.present := by
    have frame := restored_frame s
    generalize restored s = w at frame
    rw [frame]
    rfl
  have built : buildLevel (buildJacks s) = { s with lev := (buildLevel (buildJacks s)).lev } := by
    have level : ∀ u : State, buildLevel u = { u with lev := (buildLevel u).lev } := fun _ => rfl
    rw [level, buildJacks_frame]
  obtain ⟨cleared, same⟩ : (buildLevel (buildJacks s)).store.markerClean = false ∧
      (buildLevel (buildJacks s)).present = s.present := by
    rw [built]
    exact ⟨marker, rfl⟩
  generalize hx : buildLevel (buildJacks s) = x at cleared same
  obtain ⟨presence', store⟩ := restoreRooms_keeps allRooms x
  rcases here with awning | ⟨r, room⟩
  · have known := restoreAwning_uncertain (s := allRooms.foldl restoreRoom x) (by rw [store, cleared])
      (by rw [presence', same, awning])
    refine somePositionUncertain_of_awning (by rw [presence, awning]) ?_
    rw [restored, hx, known]
  · have known := restoreRooms_uncertain (r := r) allRooms x cleared (by rw [same, room]) (.inl (by cases r <;> decide))
    refine somePositionUncertain_of_room (r := r) (by rw [presence, room]) ?_
    rw [restored, hx, roomOf_restoreAwning, known]

/-! ### The posture (R192 step 4) -/

theorem gear_firstSwitches (s : State) (r : Room) : gear (firstSwitches s r) = gear s := by
  unfold firstSwitches applyLimits
  simp only [apply_ite gear, gear_setRoomStat, gear_roomHome, ite_self]

theorem gear_firstAwningSwitch (s : State) : gear (firstAwningSwitch s) = gear s := by
  unfold firstAwningSwitch
  simp only [apply_ite gear, gear_setAwnStat, gear_awnHome, ite_self]

/-- What building the posture leaves, and the alert that it raises. -/
structure Built (s t : State) : Prop where
  now : t.now = s.now
  pending : t.pending = s.pending
  chans : t.chans = s.chans
  power : t.power = s.power
  term : t.term = s.term
  mon : t.mon = s.mon
  store : t.store = s.store
  rx : t.link.rx = s.link.rx
  cause : t.link.postureCause = s.link.postureCause
  reports : Grows s t
  awnIn : t.awn.inSwitch = s.awn.inSwitch
  roomIn : ∀ r, (roomOf t r).inSwitch = (roomOf s r).inSwitch
  stowed : ∀ j, (jackOf t j).stowed = (jackOf s j).stowed
  uncertain : s.store.markerClean = false → (s.present .awning = true ∨ ∃ r, s.present (.room r) = true) →
    (s.link.alerts.get .positionUncertain).cond = false →
    (t.link.alerts.get .positionUncertain).latch = true ∧
      (s.store.cfg.alertEnabled .positionUncertain = true → s.store.cfg.sourceEnabled .alerts = true →
        Source.alerts ∈ t.link.reports)

/-- The records are built and POSITION_UNCERTAIN has its condition, before the switches. -/
theorem built_restored (s : State) : Built s (setAlertCond .positionUncertain (somePositionUncertain (restored s))
    { restored s with link := s.link, store := s.store }) := by
  have frame := restored_frame s
  obtain ⟨awnIn, roomIn, stowed⟩ := restored_levels s
  have alert : s.store.markerClean = false → (s.present .awning = true ∨ ∃ r, s.present (.room r) = true) →
      somePositionUncertain (restored s) = true := restored_uncertain
  generalize restored s = w at frame awnIn roomIn stowed alert
  have grows := grows_setAlertCond .positionUncertain (somePositionUncertain w) { w with link := s.link, store := s.store }
  have rise : s.store.markerClean = false → (s.present .awning = true ∨ ∃ r, s.present (.room r) = true) →
      (s.link.alerts.get .positionUncertain).cond = false →
      ((setAlertCond .positionUncertain (somePositionUncertain w) { w with link := s.link, store := s.store }).link.alerts.get
        .positionUncertain).latch = true ∧
      (s.store.cfg.alertEnabled .positionUncertain = true → s.store.cfg.sourceEnabled .alerts = true → Source.alerts ∈
        (setAlertCond .positionUncertain (somePositionUncertain w) { w with link := s.link, store := s.store }).link.reports) :=
    fun marker here calm => by
      obtain ⟨up, joins⟩ := setAlertCond_rise .positionUncertain { w with link := s.link, store := s.store } calm
      rw [alert marker here]
      exact ⟨congrArg AlertRec.latch up, joins⟩
  have all : setAlertCond .positionUncertain (somePositionUncertain w) { w with link := s.link, store := s.store } = _ :=
    setAlertCond_frame _ _ _
  generalize setAlertCond .positionUncertain (somePositionUncertain w) { w with link := s.link, store := s.store } = x
    at all grows rise
  obtain ⟨now, pending, chans, power, term, mon⟩ : w.now = s.now ∧ w.pending = s.pending ∧ w.chans = s.chans ∧
      w.power = s.power ∧ w.term = s.term ∧ w.mon = s.mon := by
    rw [frame]
    exact ⟨rfl, rfl, rfl, rfl, rfl, rfl⟩
  have same : x.now = w.now ∧ x.pending = w.pending ∧ x.chans = w.chans ∧ x.power = w.power ∧ x.term = w.term ∧ x.mon = w.mon ∧
      x.store = s.store ∧ x.link.rx = s.link.rx ∧ x.link.postureCause = s.link.postureCause ∧ x.awn = w.awn ∧
      x.rooms = w.rooms ∧ x.lev = w.lev := by
    rw [all]
    exact ⟨rfl, rfl, rfl, rfl, rfl, rfl, rfl, rfl, rfl, rfl, rfl, rfl⟩
  obtain ⟨now', pending', chans', power', term', mon', store, rx, cause, awn, rooms, lev⟩ := same
  exact ⟨now'.trans now, pending'.trans pending, chans'.trans chans, power'.trans power, term'.trans term, mon'.trans mon, store,
    rx, cause, grows, (congrArg AwnRec.inSwitch awn).trans awnIn,
    fun r => (congrArg (fun q : PerRoom RoomRec => (q.get r).inSwitch) rooms).trans (roomIn r),
    fun j => (congrArg (fun l : Levelling => (l.jacks.get j).stowed) lev).trans (stowed j),
    rise⟩

/-- The switches are applied to the records, and nothing of it is a change of the posture. -/
theorem built_switches {s u : State} (h : Built s u) :
    Built s { firstAwningSwitch (allRooms.foldl firstSwitches u) with link := u.link, store := u.store } := by
  have o := outside_of_scope ((scope_firstAwningSwitch _).trans (scope_foldl _ scope_firstSwitches allRooms u))
  have g : gear (firstAwningSwitch (allRooms.foldl firstSwitches u)) = gear u :=
    (gear_firstAwningSwitch _).trans (foldl_keeps _ gear allRooms (fun t r _ => gear_firstSwitches t r) u)
  have jacks := (works_firstAwningSwitch (.foldl _ (fun _ r k => works_firstSwitches r k) allRooms (.refl u))).sensed
  generalize firstAwningSwitch (allRooms.foldl firstSwitches u) = v at o g jacks
  exact {
    now := (now_of_outside o).trans h.now
    pending := (of_outside State.pending (fun _ => rfl) o).trans h.pending
    chans := (of_outside State.chans (fun _ => rfl) o).trans h.chans
    power := (power_of_outside o).trans h.power
    term := (term_of_outside o).trans h.term
    mon := (congrArg Gear.mon g).trans h.mon
    store := h.store
    rx := h.rx
    cause := h.cause
    reports := h.reports
    awnIn := (congrArg (fun x : Gear => x.awn.inSwitch) g).trans h.awnIn
    roomIn := fun r => (leg_of_gear g r).2.trans (h.roomIn r)
    stowed := fun j => (congrArg (fun x : Sensed => (x.jack j).stowed) jacks).trans (h.stowed j)
    uncertain := h.uncertain }

theorem built_buildPosture (s : State) : Built s (buildPosture s) := built_switches (built_restored s)

end Sys2Proof.Machine
end

section
/-! PROOF. START_UP_END in full (O31). -/

namespace Sys2Proof.Machine

/-! ### The receiver, the report and the attention line (R173, R177, R178) -/

/-- Start-up is over and POSTURE waits with the reset cause (R177, R192). -/
def opened (reads : StartUpReads) (s : State) : State :=
  queuePosture (resetPosture s.power.resetCause) (modPower (fun p => { p with startingUp := false })
    (modTerm (fun u => { u with mask := pendantRoles.filter (fun r => roleActive (firstReads reads s) r) }) (firstReads reads s)))

theorem startUp_eq (reads : StartUpReads) (s : State) :
    startUp reads s = modLink (fun l => { l with rx := .hunt }) (firstEvaluations reads (buildPosture (opened reads s))) := rfl

theorem mem_queuePosture (cause : PostureCause) (s : State) : Source.posture ∈ (queuePosture cause s).link.reports := by
  simp only [queuePosture, queueSource, modLink_link]
  split
  next h => exact h
  next => exact List.mem_append_right _ (List.mem_singleton_self _)

theorem power_of_untouched {s t : State} (h : untouched t = untouched s) : t.power = s.power := by
  have e : (untouched t).power = (untouched s).power := congrArg State.power h
  exact e

theorem conclude_power (s : State) : (conclude s).power = s.power := by
  have e : untouched (conclude s) = untouched s := by
    unfold conclude
    rw [untouched_startJob, untouched_refreshOutputs, untouched_refreshAlerts, untouched_settle]
  exact power_of_untouched e

/-- What ends start-up keeps a waiting report and asserts the attention line for it (R178). -/
theorem finishStartUp_attention {s : State} (live : s.power.startingUp = false) {x : Source} (h : x ∈ s.link.reports) :
    (finishStartUp s).link.attention = true ∧ x ∈ (finishStartUp s).link.reports := by
  have waits := (works_conclude (.refl s)).reports x h
  have power := conclude_power s
  unfold finishStartUp setAttention
  generalize conclude s = t at waits power
  have some_ : t.link.reports.isEmpty = false := by
    cases e : t.link.reports with
    | nil => simp [e] at waits
    | cons => rfl
  simp [power, live, some_, waits]

/-! ### From the reads to the end -/

/-- The state before the posture is built: start-up's reads, with the receiver's report waiting. -/
theorem opened_keeps (reads : StartUpReads) (s : State) :
    (opened reads s).now = s.now ∧ (opened reads s).pending = s.pending ∧ (opened reads s).chans = s.chans ∧
      (opened reads s).power = { s.power with startingUp := false } ∧
      (opened reads s).link.postureCause = some (resetPosture s.power.resetCause) ∧
      (opened reads s).link.alerts = s.link.alerts ∧ Source.posture ∈ (opened reads s).link.reports := by
  have read := startRead_firstReads reads s
  unfold opened
  generalize firstReads reads s = t at read
  refine ⟨read.now, read.pending, read.chans, ?_, rfl, ?_, mem_queuePosture _ _⟩
  · exact congrArg (fun p : Power => { p with startingUp := false }) read.power
  · have same : t.link.alerts = s.link.alerts := congrArg Link.alerts read.link
    exact same

theorem opened_read (reads : StartUpReads) (s : State) :
    (opened reads s).store = { (readSettings reads.settingsAnswer s).store with
      markerClean := reads.snapshotAnswer && s.store.snapMark } ∧
    (opened reads s).term.raw = reads.inputs ∧ (opened reads s).term.deb = reads.inputs ∧
    (opened reads s).mon.senseLines = reads.faultSense ∧ (opened reads s).awn.inSwitch = reads.awningIn ∧
    (∀ r, (roomOf (opened reads s) r).inSwitch = reads.roomIn.get r) ∧
    ∀ j, (jackOf (opened reads s) j).stowed = reads.stowed.get j := by
  have read := startRead_firstReads reads s
  unfold opened
  generalize firstReads reads s = t at read
  exact ⟨read.store, read.raw, read.deb, read.senseLines, read.awnIn, read.roomIn, read.stowed⟩

/-- What the posture and the first evaluations leave of the state that start-up has opened, and what they add to it. -/
structure Evaluated (reads : StartUpReads) (z u : State) : Prop where
  standing : standing u = standing z
  lines : linesOf u = { linesOf z with currents := reads.scan.currents, faultSense := z.mon.senseLines.get }
  reports : Grows z u
  uncertain : z.store.markerClean = false → (z.present .awning = true ∨ ∃ r, z.present (.room r) = true) →
    (z.link.alerts.get .positionUncertain).cond = false →
    (u.link.alerts.get .positionUncertain).latch = true ∧
      (z.store.cfg.alertEnabled .positionUncertain = true → z.store.cfg.sourceEnabled .alerts = true →
        Source.alerts ∈ u.link.reports)

theorem evaluated_posture (reads : StartUpReads) {z : State} (idle : AllIdle z) :
    Evaluated reads z (firstEvaluations reads (buildPosture z)) := by
  have built := built_buildPosture z
  generalize buildPosture z = w at built
  have still : AllIdle w := fun c => by
    have same : chanOf w c = chanOf z c := congrArg (fun p : PerCh ChanRec => p.get c) built.chans
    rw [same, idle c]
  have evaluates := evaluates_firstEvaluations reads still
  have lines := linesOf_firstEvaluations reads w
  generalize firstEvaluations reads w = u at evaluates lines
  refine ⟨evaluates.same.trans ?_, lines.trans ?_, built.reports.trans evaluates.reports, fun marker here calm => ?_⟩
  · simp only [standing, built.now, built.pending, built.chans, built.power, built.term, built.store, built.cause, built.awnIn,
      built.roomIn]
  · simp only [linesOf, built.mon, built.stowed]
  · obtain ⟨latch, joins⟩ := built.uncertain marker here calm
    exact ⟨evaluates.latch _ latch, fun a b => evaluates.reports _ (joins a b)⟩

theorem exec_startUpEnd (reads : StartUpReads) (s : State) :
    exec (.startUpEnd reads) s = .next (if s.power.startingUp then finishStartUp (startUp reads s) else s) := rfl

/-- Settles O31: start-up is its reads, the posture and the first evaluations, of which the later ones leave an idle part's
settings, levels and reports standing. -/
theorem startUpEnds : Obligations.StartUpEnds := by
  refine fun s reads => ⟨fun live => ?_, fun su idle => ?_⟩
  · rw [exec_startUpEnd, if_neg (by simp [live])]
  · obtain ⟨now, pending, chans, power, cause, alerts, waits⟩ := opened_keeps reads s
    obtain ⟨store, raw, deb, senseLines, awnIn, roomIn, stowed⟩ := opened_read reads s
    have still : AllIdle (opened reads s) := fun c => by
      have same : chanOf (opened reads s) c = chanOf s c := congrArg (fun p : PerCh ChanRec => p.get c) chans
      rw [same, idle c]
    have all := evaluated_posture reads still
    refine ⟨startUp reads s, by rw [exec_startUpEnd, if_pos su], ?_⟩
    rw [startUp_eq]
    generalize opened reads s = z at *
    generalize firstEvaluations reads (buildPosture z) = t at all
    obtain ⟨stands, lines, grows, uncertain⟩ := all
    have power' : t.power = { s.power with startingUp := false } := (congrArg Standing.power stands).trans power
    have kept : t.store = z.store := congrArg Standing.store stands
    have term' : t.term = z.term := congrArg Standing.term stands
    have chans' : t.chans = s.chans := (congrArg Standing.chans stands).trans chans
    have sense : t.mon.senseLines = reads.faultSense := (congrArg Lines.senseLines lines).trans senseLines
    have level : t.mon.faultSense = reads.faultSense := PerDriver_get_ext ((congrArg Lines.faultSense lines).trans
      (congrArg PerDriver.get senseLines))
    obtain ⟨loaded, missing, unread⟩ := readSettings_store reads.settingsAnswer s
    have posture : Source.posture ∈ t.link.reports := grows _ waits
    obtain ⟨line, waiting⟩ := finishStartUp_attention (s := modLink (fun l => { l with rx := .hunt }) t)
      (congrArg Power.startingUp power') posture
    refine ⟨power', rfl, posture, line, waiting, (congrArg Standing.cause stands).trans cause, fun c a e => ?_, fun a e => ?_,
      fun a => ?_, ?_, fun marker here calm => ?_, ?_, ?_, level, sense, congrArg Lines.currents lines,
      (congrArg Standing.awnIn stands).trans awnIn, fun r => (congrFun (congrArg Standing.roomIn stands) r).trans (roomIn r),
      fun j => (congrFun (congrArg Lines.stowed lines) j).trans (stowed j), fun c => ?_,
      (congrArg Standing.now stands).trans now, (congrArg Standing.pending stands).trans pending⟩
    · simp only [modLink_store, kept, store]
      exact loaded c a e
    · simp only [modLink_store, kept, store]
      exact missing a e
    · simp only [modLink_store, kept, store]
      exact unread a
    · simp only [modLink_store, kept, store]
    · have present : t.present = z.present := by
        funext d
        cases d <;> simp only [State.present, kept]
      have marker' : z.store.markerClean = false := kept ▸ marker
      have here' : z.present .awning = true ∨ ∃ r, z.present (.room r) = true := present ▸ here
      obtain ⟨latch, joins⟩ := uncertain marker' here' (alerts.symm ▸ calm)
      refine ⟨latch, fun a b => joins ?_ ?_⟩
      · exact kept ▸ a
      · exact kept ▸ b
    · exact (congrArg Terminals.raw term').trans raw
    · exact (congrArg Terminals.deb term').trans deb
    · have same : (chanOf t c).state = (chanOf s c).state := congrArg (fun p : PerCh ChanRec => (p.get c).state) chans'
      exact same.trans (idle c)

end Sys2Proof.Machine
end

section
/-! PROOF. The levelling engine's work jack by jack: what one command or mark does to its own jack's record and valve, and what
a run of them over several jacks leaves. -/

namespace Sys2Proof.Machine

/-! ### A jack and what is beside the jacks -/

/-- A jack as the engine works on it: its record and its valve. -/
structure Cell where
  jack : JackRec
  valve : Bool

def cell (s : State) (j : Jack) : Cell := ⟨jackOf s j, valveOpen s j⟩

/-- The state without what work on a jack writes: the jacks' records and valves, and the plan record with its step counts. -/
def bare (s : State) : State :=
  { s with
    lev := { s.lev with jacks := PerJack.all {}, plan := none }
    man := { s.man with jackValves := PerJack.all false } }

/-- What reads the same from a state and without its jacks is common to states that differ in their jacks alone. -/
theorem of_bare {β : Type} {s t : State} (p : State → β) (hp : ∀ x, p (bare x) = p x) (h : bare t = bare s) : p t = p s := by
  rw [← hp t, h, hp s]

theorem jackOf_of_cell {s : State} {j : Jack} {c : Cell} (h : cell s j = c) : jackOf s j = c.jack := congrArg Cell.jack h

theorem valveOpen_of_cell {s : State} {j : Jack} {c : Cell} (h : cell s j = c) : valveOpen s j = c.valve := congrArg Cell.valve h

theorem PerJack_get_ext {α : Type} {p q : PerJack α} (h : ∀ j, p.get j = q.get j) : p = q := by
  obtain ⟨a, b, c, d, e, f⟩ := p
  obtain ⟨a', b', c', d', e', f'⟩ := q
  have lf : a = a' := h .lf
  have rf : b = b' := h .rf
  have lr : c = c' := h .lr
  have rr : d = d' := h .rr
  have lm : e = e' := h .lm
  have rm : f = f' := h .rm
  rw [lf, rf, lr, rr, lm, rm]

/-! ### Work on one jack at a time -/

/-- `f` works on one jack: `g` gives the jack's new cell from its cell and from what is beside the jacks. -/
structure JackWise (f : State → Jack → State) (g : State → Jack → Cell → Cell) : Prop where
  bare : ∀ t j, bare (f t j) = bare t
  self : ∀ t j, cell (f t j) j = g (Machine.bare t) j (cell t j)
  other : ∀ t j k, k ≠ j → cell (f t j) k = cell t k

theorem JackWise.foldl {f : State → Jack → State} {g : State → Jack → Cell → Cell} (h : JackWise f g) {l : List Jack}
    (nodup : l.Nodup) (s : State) :
    Machine.bare (l.foldl f s) = Machine.bare s ∧
      ∀ k, cell (l.foldl f s) k = if k ∈ l then g (Machine.bare s) k (cell s k) else cell s k := by
  induction l generalizing s with
  | nil => exact ⟨rfl, fun k => by simp⟩
  | cons j l ih =>
    obtain ⟨fresh, rest⟩ := List.nodup_cons.1 nodup
    obtain ⟨beside, cells⟩ := ih rest (f s j)
    refine ⟨beside.trans (h.bare s j), fun k => ?_⟩
    rw [List.foldl_cons, cells k, h.bare]
    by_cases e : k = j
    · subst e
      simp [fresh, h.self]
    · simp [e, h.other s j k e]

/-- One piece of work after another on the same jack. -/
theorem JackWise.andThen {f f' : State → Jack → State} {g g' : State → Jack → Cell → Cell} (h : JackWise f g)
    (h' : JackWise f' g') : JackWise (fun t j => f' (f t j) j) (fun b j c => g' b j (g b j c)) where
  bare t j := (h'.bare _ j).trans (h.bare t j)
  self t j := by rw [h'.self, h.bare, h.self]
  other t j k n := by rw [h'.other _ j k n, h.other t j k n]

/-- Work on those jacks alone that meet a condition on their own record and valve. -/
theorem JackWise.when {f : State → Jack → State} {g : State → Jack → Cell → Cell} (h : JackWise f g)
    (p : State → Jack → Cell → Bool) (q : State → Jack → Bool) (hq : ∀ t j, q t j = p (Machine.bare t) j (cell t j)) :
    JackWise (fun t j => if q t j = true then f t j else t) (fun b j c => if p b j c = true then g b j c else c) where
  bare t j := by
    split
    · exact h.bare t j
    · rfl
  self t j := by
    rw [← hq]
    split
    · exact h.self t j
    · rfl
  other t j k n := by
    split
    · exact h.other t j k n
    · rfl

/-- A mark on a jack's record. -/
theorem jackWise_mark (f : Jack → JackRec → JackRec) :
    JackWise (fun t j => modJack j (f j) t) (fun _ j c => { c with jack := f j c.jack }) where
  bare _ _ := rfl
  self t j := by
    simp only [cell, jackOf_modJack_self]
    rfl
  other t j k n := by
    simp only [cell, jackOf_modJack_ne _ _ _ _ n]
    rfl

/-- Marks on several jacks leave everything but the jacks' records. -/
theorem marks_frame (f : Jack → JackRec → JackRec) (l : List Jack) (s : State) :
    l.foldl (fun t j => modJack j (f j) t) s =
      { s with lev := { s.lev with jacks := (l.foldl (fun t j => modJack j (f j) t) s).lev.jacks } } := by
  induction l generalizing s with
  | nil => rfl
  | cons j l ih =>
    rw [List.foldl_cons, ih]
    rfl

theorem jackOf_marks (f : Jack → JackRec → JackRec) {l : List Jack} (nodup : l.Nodup) (s : State) (k : Jack) :
    jackOf (l.foldl (fun t j => modJack j (f j) t) s) k = if k ∈ l then f k (jackOf s k) else jackOf s k := by
  rw [jackOf_of_cell (((jackWise_mark f).foldl nodup s).2 k)]
  split <;> rfl

/-- A note in the plan record, of whichever jack. -/
theorem jackWise_note (f : Jack → PlanRec → PlanRec) : JackWise (fun t j => modPlan (f j) t) (fun _ _ c => c) where
  bare _ _ := rfl
  self _ _ := rfl
  other _ _ _ _ := rfl

theorem cell_setJackValve_self (j : Jack) (v : Bool) (s : State) : cell (setJackValve j v s) j = ⟨jackOf s j, v⟩ := by
  simp only [cell, valveOpen_setJackValve, if_true]
  rfl

theorem cell_setJackValve_ne {j k : Jack} (n : k ≠ j) (v : Bool) (s : State) : cell (setJackValve j v s) k = cell s k := by
  simp only [cell, valveOpen_setJackValve, n, if_false]
  rfl

/-- Command to close the jack's valve (R44). -/
theorem jackWise_close : JackWise (fun t j => closeJack j t) (fun b _ c => { c with valve := c.valve && !commands b .level }) where
  bare t j := by
    unfold closeJack
    split <;> rfl
  self t j := by
    have same : commands (bare t) .level = commands t .level := rfl
    unfold closeJack
    rw [same]
    split
    next h =>
      rw [cell_setJackValve_self, h, Bool.not_true, Bool.and_false]
      rfl
    next h => rw [Bool.eq_false_of_not_eq_true h, Bool.not_false, Bool.and_true]
  other t j k n := by
    unfold closeJack
    split
    · exact cell_setJackValve_ne n false t
    · rfl

/-- The valve of a jack is opened on LEVEL's command (R42, R44, R46). -/
def opens (s : State) (j : Jack) : Bool :=
  commands s .level && s.jackPresent j && !(s.man.dirValve == .retract && someRoomOut s)

theorem openJack_eq (j : Jack) (s : State) : openJack j s = if opens s j = true then setJackValve j true s else s := rfl

theorem jackWise_open : JackWise (fun t j => openJack j t) (fun b j c => { c with valve := c.valve || opens b j }) where
  bare t j := by
    unfold openJack
    split <;> rfl
  self t j := by
    have same : opens (bare t) j = opens t j := rfl
    rw [openJack_eq, same]
    split
    next h =>
      rw [cell_setJackValve_self, h, Bool.or_true]
      rfl
    next h => rw [Bool.eq_false_of_not_eq_true h, Bool.or_false]
  other t j k n := by
    rw [openJack_eq]
    split
    · exact cell_setJackValve_ne n true t
    · rfl

/-! ### Reading the jacks -/

theorem nodup_allJacks : allJacks.Nodup := by decide

theorem nodup_presentJacks (s : State) : (presentJacks s).Nodup := nodup_allJacks.filter _

theorem mem_presentJacks (s : State) (j : Jack) : j ∈ presentJacks s ↔ s.jackPresent j = true := by
  simp [presentJacks, mem_allJacks]

theorem mem_openJacks (s : State) (j : Jack) : j ∈ openJacks s ↔ valveOpen s j = true := by
  simp [openJacks, mem_allJacks]

theorem openJacks_eq_nil (s : State) : openJacks s = [] ↔ ∀ j, valveOpen s j = false := by
  simp [List.eq_nil_iff_forall_not_mem, mem_openJacks]

theorem mem_jacksWith (s : State) (f : Contact → Bool) (j : Jack) :
    j ∈ jacksWith s f ↔ s.jackPresent j = true ∧ f (jackOf s j).contact = true := by
  simp [jacksWith, mem_presentJacks]

theorem nodup_jacksWith (s : State) (f : Contact → Bool) : (jacksWith s f).Nodup := (nodup_presentJacks s).filter _

theorem mem_faultedJacks (s : State) (j : Jack) :
    j ∈ faultedJacks s ↔ s.jackPresent j = true ∧ (jackOf s j).fault = true := by
  simp [faultedJacks, mem_presentJacks]

theorem allGround_iff (s : State) : allGround s = true ↔ ∀ j, s.jackPresent j = true → (jackOf s j).contact = .ground := by
  simp [allGround, mem_presentJacks]

theorem allStowed_iff (s : State) : allStowed s = true ↔ ∀ j, s.jackPresent j = true → (jackOf s j).contact = .stowed := by
  simp [allStowed, mem_presentJacks]

/-! ### Commands to several jacks -/

/-- Valve commands change the manifold alone. -/
theorem openJacksCmd_frame (l : List Jack) (s : State) : openJacksCmd l s = { s with man := (openJacksCmd l s).man } := by
  unfold openJacksCmd
  induction l generalizing s with
  | nil => rfl
  | cons j l ih => rw [List.foldl_cons, ih, openJack_frame]

/-- Valves are commanded open and the pump on: the manifold alone changes. -/
theorem openAndPump_frame (l : List Jack) (s : State) :
    pumpOnCmd .level (openJacksCmd l s) = { s with man := (pumpOnCmd .level (openJacksCmd l s)).man } := by
  rw [pumpOnCmd_frame, openJacksCmd_frame]

theorem openJacksCmd_cells {l : List Jack} (nodup : l.Nodup) (s : State) :
    bare (openJacksCmd l s) = bare s ∧
      ∀ k, cell (openJacksCmd l s) k = ⟨jackOf s k, valveOpen s k || (decide (k ∈ l) && opens s k)⟩ := by
  obtain ⟨beside, cells⟩ := jackWise_open.foldl nodup s
  refine ⟨beside, fun k => (cells k).trans ?_⟩
  have same : opens (bare s) k = opens s k := rfl
  split
  next h => simp [h, cell, same]
  next h => simp [h, cell]

theorem closeJacksCmd_cells {l : List Jack} (nodup : l.Nodup) {s : State} (obeyed : commands s .level = true) :
    bare (closeJacksCmd l s) = bare s ∧
      ∀ k, cell (closeJacksCmd l s) k = ⟨jackOf s k, valveOpen s k && !decide (k ∈ l)⟩ := by
  obtain ⟨beside, cells⟩ := jackWise_close.foldl nodup s
  refine ⟨beside, fun k => (cells k).trans ?_⟩
  have same : commands (bare s) .level = true := obeyed
  split
  next h => simp [h, cell, same]
  next h => simp [h, cell]

theorem commands_of_bare {s t : State} (h : bare t = bare s) : commands t .level = commands s .level :=
  of_bare (fun x => commands x .level) (fun _ => rfl) h

theorem pump_of_bare {s t : State} (h : bare t = bare s) : t.man.pump = s.man.pump :=
  of_bare (fun x => x.man.pump) (fun _ => rfl) h

theorem opens_of_bare {s t : State} (h : bare t = bare s) (j : Jack) : opens t j = opens s j :=
  of_bare (fun x => opens x j) (fun _ => rfl) h

end Sys2Proof.Machine
end

section
/-! PROOF. LEVEL's endings: what a termination leaves of the engine's part, its jacks and its valves; the levelling time limits
(O48). -/

namespace Sys2Proof.Machine

/-! ### The end of a phase (R16, R74, R81) -/

/-- A jack's record without what a phase has marked on it. -/
def JackRec.off (q : JackRec) : JackRec := { q with
  lift := none, target := none, close := none, closedHere := false, jogged := false, stepTarget := none }

theorem jackOf_levelOff (s : State) (j : Jack) : jackOf (levelOff s) j = (jackOf s j).off := by cases j <;> rfl

theorem jobOff_level_lev (t : Term) (s : State) : (jobOff .level t s).lev = (levelOff s).lev := by
  simp only [jobOff]
  split <;> rfl

/-- Of the engine's part a write of the level status changes the drift timer beside it (R63, R83). -/
theorem setLevelStatus_lev (v : LevelStatus) (s : State) :
    ∃ d, (setLevelStatus v s).lev = { s.lev with status := v, drift := d } := by
  unfold setLevelStatus
  split
  next h => exact ⟨s.lev.drift, by rw [← h]⟩
  next => exact ⟨if v = .levelled ∨ v = .limited then s.lev.drift else none, by rw [snapshotOnRest_frame, signal_frame]; rfl⟩

theorem restStatus_congr {s t : State} (present : presentJacks t = presentJacks s)
    (contact : ∀ j, (jackOf t j).contact = (jackOf s j).contact) : restStatus t = restStatus s := by
  simp only [restStatus, present, contact]

theorem levelEndStatus_jobOff (t w : Term) (s : State) :
    levelEndStatus (jobOff .level t (stop .level t s)) w = levelEndStatus s w := by
  have o := outside_of_scope (scope_jobOff .level t (stop .level t s))
  have op : (chanOf (jobOff .level t (stop .level t s)) .level).op = (chanOf s .level).op := by
    rw [chanOf_of_outside o, chanOf_stop_self]
    rfl
  have rest : restStatus (jobOff .level t (stop .level t s)) = restStatus s :=
    restStatus_congr ((of_outside presentJacks (fun _ => rfl) o).trans rfl) fun j => by
      have jacks : jackOf (jobOff .level t (stop .level t s)) j = jackOf (levelOff s) j :=
        congrArg (fun l : Levelling => l.jacks.get j) (jobOff_level_lev t (stop .level t s))
      rw [jacks, jackOf_levelOff]
      rfl
  unfold levelEndStatus
  rw [op, rest]

theorem pumpOffAndReport_keeps (c : Ch) (s : State) :
    (pumpOffAndReport c s).lev = s.lev ∧ (pumpOffAndReport c s).man.jackValves = s.man.jackValves := by
  unfold pumpOffAndReport
  rw [signal_frame]
  split
  · rw [pumpStop_frame]
    exact ⟨rfl, rfl⟩
  · exact ⟨rfl, rfl⟩

theorem terminate_level_eq {s : State} (h : isRunning s .level = true) (t : Term) :
    terminate .level t s = pumpOffAndReport .level (written .level t s) := terminate_of_running t h

theorem chanOf_terminate_level_ne {c : Ch} (n : c ≠ .level) (t : Term) (s : State) :
    chanOf (terminate .level t s) c = chanOf s c := (ends_terminate_level t s).other c fun _ e => absurd e n

section
variable {s : State} (h : isRunning s .level = true) (t : Term)
include h

/-- A termination of LEVEL ends the phase and writes the status of the ending (R63, R81). -/
theorem terminate_level_lev :
    ∃ d, (terminate .level t s).lev = { (levelOff s).lev with status := levelEndStatus s t, drift := d } := by
  obtain ⟨d, write⟩ := setLevelStatus_lev (levelEndStatus (jobOff .level t (stop .level t s)) t)
    (jobOff .level t (stop .level t s))
  refine ⟨d, ?_⟩
  rw [terminate_level_eq h, (pumpOffAndReport_keeps .level _).1]
  refine Eq.trans (b := _) write ?_
  rw [jobOff_level_lev, levelEndStatus_jobOff]
  rfl

/-- A jack after a termination of LEVEL. -/
theorem jackOf_terminate_level (j : Jack) : jackOf (terminate .level t s) j = (jackOf s j).off := by
  obtain ⟨d, e⟩ := terminate_level_lev h t
  rw [← jackOf_levelOff]
  simp only [jackOf, e]

/-- Only the loss of ALL_ROOMS_IN closes LEVEL's valves at once; any other ending leaves them to the end of STOPPING. -/
theorem valveOpen_terminate_level (n : t ≠ .aborted (.item .allRoomsIn)) (j : Jack) :
    valveOpen (terminate .level t s) j = valveOpen s j := by
  have job : (jobOff .level t (stop .level t s)).man = s.man := by
    simp only [jobOff, if_neg n]
    rfl
  have write : (written .level t s).man = s.man := by
    simp only [written, endWrite]
    rw [setLevelStatus_frame]
    exact job
  simp only [valveOpen, terminate_level_eq h, (pumpOffAndReport_keeps .level _).2, write]

theorem terminate_level_mon : (terminate .level t s).mon = s.mon :=
  terminate_mon_plain t h fun ⟨_, _, e, _⟩ => nomatch e

end

/-! ### The levelling limits (R69, R72, R73, R76, R79) -/

/-- A fault ending of LEVEL in full. -/
theorem level_fails {s : State} (run : isRunning s .level = true) (k : FaultKind) (l : List Jack) :
    s.Stopped (fail .level k (.jacks l) s) .level (.abnormal ⟨k, .jacks l⟩) ∧
      (fail .level k (.jacks l) s).lev.phase = .none ∧
      (∀ c, c ≠ .level → chanOf (fail .level k (.jacks l) s) c = chanOf s c) ∧
      (s.man.pump.holder = some .level → (fail .level k (.jacks l) s).man.pump.on = false) ∧
      (fail .level k (.jacks l) s).mon = s.mon ∧ (fail .level k (.jacks l) s).store.cfg = s.store.cfg :=
  ⟨stopped_terminate _ run, (terminate_drives _ run).2.2 rfl, fun _ n => chanOf_terminate_level_ne n _ _,
    fun holds => (terminate_pump _ run holds).1, terminate_level_mon run _, (ends_fail_level k (.jacks l) s).cfg⟩

theorem isRunning_iff (s : State) (c : Ch) : isRunning s c = true ↔ (chanOf s c).state = .running := by simp [isRunning]

theorem allGround_eq_false (s : State) :
    allGround s = false ↔ ∃ j, s.jackPresent j = true ∧ (jackOf s j).contact ≠ .ground := by
  rw [← Bool.not_eq_true, allGround_iff]
  simp

theorem allStowed_eq_false (s : State) :
    allStowed s = false ↔ ∃ j, s.jackPresent j = true ∧ (jackOf s j).contact ≠ .stowed := by
  rw [← Bool.not_eq_true, allStowed_iff]
  simp

theorem openJacks_isEmpty_eq_false (s : State) : (openJacks s).isEmpty = false ↔ ∃ j, valveOpen s j = true := by
  rw [List.isEmpty_eq_false_iff_exists_mem]
  simp [mem_openJacks]

theorem groundLimitDue_iff (s : State) :
    groundLimitDue s = true ↔ (chanOf s .level).state = .running ∧
      (∃ j, s.jackPresent j = true ∧ (jackOf s j).contact ≠ .ground) ∧
        (s.lev.phase = .ground ∧ s.lev.phaseSince + 60000 ≤ s.now ∨
          s.lev.phase = .measure ∧ s.lev.sub = .reground ∧ s.lev.stepSince + 60000 ≤ s.now) := by
  rw [← isRunning_iff, ← allGround_eq_false]
  simp [groundLimitDue, and_assoc]

theorem liftLimitDue_iff (s : State) :
    liftLimitDue s = true ↔ (chanOf s .level).state = .running ∧ s.lev.phase = .lift ∧ s.lev.phaseSince + 90000 ≤ s.now ∧
      ∃ j, valveOpen s j = true := by
  rw [← isRunning_iff, ← openJacks_isEmpty_eq_false]
  simp [liftLimitDue, and_assoc]

theorem trimLimitDue_iff (s : State) :
    trimLimitDue s = true ↔ (chanOf s .level).state = .running ∧ s.lev.phase = .trim ∧ s.lev.phaseSince + 90000 ≤ s.now ∧
      ∃ j, valveOpen s j = true := by
  rw [← isRunning_iff, ← openJacks_isEmpty_eq_false]
  simp [trimLimitDue, and_assoc]

theorem ran_iff (s : State) (n : Nat) (x : Option Nat) : ran s n x = true ↔ ∃ t, x = some t ∧ t + n ≤ s.now := by
  cases x <;> simp [ran]

theorem stallJudged_iff (s : State) :
    stallJudged s = true ↔ (chanOf s .level).state = .running ∧
      (s.lev.phase = .ground ∨ s.lev.phase = .lift ∨ s.lev.phase = .measure ∧ s.lev.sub = .reground ∨
        s.lev.phase = .trim ∧ s.lev.sub = .stepping) := by
  rw [← isRunning_iff]
  simp [stallJudged, or_assoc]

theorem stallDue_iff (s : State) :
    stallDue s = true ↔ (chanOf s .level).state = .running ∧
      (s.lev.phase = .ground ∨ s.lev.phase = .lift ∨ s.lev.phase = .measure ∧ s.lev.sub = .reground ∨
        s.lev.phase = .trim ∧ s.lev.sub = .stepping) ∧
      s.man.deadhead ≠ none ∧ ∃ q, s.lev.stall = some q ∧ q.since + 2000 ≤ s.now := by
  rw [← and_assoc, ← stallJudged_iff]
  simp [stallDue, ran_iff, and_assoc, Option.isSome_iff_ne_none]

theorem giveUpDue_iff (s : State) :
    giveUpDue s = true ↔ (chanOf s .level).state = .running ∧ s.lev.sub = .settling ∧ s.lev.settleSince + 5000 ≤ s.now := by
  rw [← isRunning_iff]
  simp [giveUpDue, and_assoc]

theorem trimWaitDue_iff (s : State) :
    trimWaitDue s = true ↔ (chanOf s .level).state = .running ∧ s.lev.phase = .trim ∧ s.lev.sub = .waiting ∧
      s.lev.trimUntil ≤ s.now := by
  rw [← isRunning_iff]
  simp [trimWaitDue, and_assoc]

theorem stowLimitDue_iff (s : State) :
    stowLimitDue s = true ↔ (chanOf s .level).state = .running ∧ s.lev.phase = .stow ∧
      (chanOf s .level).admitted + 120000 ≤ s.now ∧ ∃ j, s.jackPresent j = true ∧ (jackOf s j).contact ≠ .stowed := by
  rw [← isRunning_iff, ← allStowed_eq_false]
  simp [stowLimitDue, and_assoc]

theorem driftWatched_iff (s : State) :
    driftWatched s = true ↔ s.power.state = .run ∧ (chanOf s .level).state = .idle ∧
      (s.lev.status = .levelled ∨ s.lev.status = .limited) := by
  simp [driftWatched, and_assoc]

theorem driftDue_iff (s : State) :
    driftDue s = true ↔ s.power.state = .run ∧ (chanOf s .level).state = .idle ∧
      (s.lev.status = .levelled ∨ s.lev.status = .limited) ∧ ∃ t, s.lev.drift = some t ∧ t + 10000 ≤ s.now := by
  simp [driftDue, driftWatched_iff, ran_iff, and_assoc]

theorem exec_groundTimeLimit (s : State) : exec .groundTimeLimit s =
    .next (onDue (groundLimitDue s) (fun t => fail .level .noGround (.jacks (jacksWith t (· != .ground))) t) s) := rfl
theorem exec_liftTimeLimit (s : State) : exec .liftTimeLimit s =
    .next (onDue (liftLimitDue s) (fun t => fail .level .stall (.jacks (openJacks t)) t) s) := rfl
theorem exec_levelStall (s : State) : exec .levelStall s =
    .next (onDue (stallDue s) (fun t => fail .level .stall (.jacks (openJacks t)) t) s) := rfl
theorem exec_trimTimeLimit (s : State) : exec .trimTimeLimit s =
    .next (onDue (trimLimitDue s) (fun t => fail .level .stall (.jacks (openJacks t)) t) s) := rfl
theorem exec_stowTimeLimit (s : State) : exec .stowTimeLimit s =
    .next (onDue (stowLimitDue s) (fun t => fail .level .notStowed (.jacks (jacksWith t (· != .stowed))) t) s) := rfl
theorem exec_settleGiveUp (s : State) : exec .settleGiveUp s = .next (onDue (giveUpDue s) (settleEnd true) s) := rfl
theorem exec_trimWaitEnd (s : State) : exec .trimWaitEnd s = .next (onDue (trimWaitDue s) trimTest s) := rfl
theorem exec_driftTimerExpiry (s : State) :
    exec .driftTimerExpiry s = .next (onDue (driftDue s) (setLevelStatus .disturbed) s) := rfl

/-- Settles O48: each limit is the fault ending of a RUNNING LEVEL, and each timer is due as its definition reads. -/
theorem levelLimits : Obligations.LevelLimits := by
  refine ⟨fun s live => ?_, fun s live => ?_⟩
  · intro ends
    have taken : ∀ (i : Instr) (due : Bool) (k : FaultKind) (l : State → List Jack), due = true → isRunning s .level = true →
        exec i s = .next (onDue due (fun t => fail .level k (.jacks (l t)) t) s) → ends i k (l s) :=
      fun i due k l is_ run e => ⟨_, by rw [e, onDue_of_due _ is_ live], level_fails run k (l s)⟩
    have running : ∀ {q : Prop}, ((chanOf s .level).state = .running ∧ q) → isRunning s .level = true :=
      fun k => (isRunning_iff s .level).2 k.1
    exact ⟨fun due => taken _ _ _ _ due (running ((groundLimitDue_iff s).1 due)) (exec_groundTimeLimit s),
      fun due => taken _ _ _ _ due (running ((liftLimitDue_iff s).1 due)) (exec_liftTimeLimit s),
      fun due => taken _ _ _ _ due (running ((stallDue_iff s).1 due)) (exec_levelStall s),
      fun due => taken _ _ _ _ due (running ((trimLimitDue_iff s).1 due)) (exec_trimTimeLimit s),
      fun due => taken _ _ _ _ due (running ((stowLimitDue_iff s).1 due)) (exec_stowTimeLimit s)⟩
  · have quiet : ∀ {i : Instr} {due : Bool} {f : State → State}, exec i s = .next (onDue due f s) → due = false →
        exec i s = .next s := fun e h => by rw [e, onDue_of_not _ h]
    exact ⟨groundLimitDue_iff s, liftLimitDue_iff s, trimLimitDue_iff s, stallDue_iff s, giveUpDue_iff s, trimWaitDue_iff s,
      stowLimitDue_iff s, driftDue_iff s, quiet (exec_groundTimeLimit s), quiet (exec_liftTimeLimit s), quiet (exec_levelStall s),
      quiet (exec_trimTimeLimit s), quiet (exec_stowTimeLimit s), quiet (exec_settleGiveUp s), quiet (exec_trimWaitEnd s),
      quiet (exec_driftTimerExpiry s)⟩

end Sys2Proof.Machine
end

section
/-! PROOF. ENTER_WATCH and ENTER_SLEEP (O21): what entering the state leaves of the part. -/

namespace Sys2Proof.Machine

theorem serve_enterWatch (tag : Byte) (s : State) : serve tag .enterWatch s = serveRest tag 0x0C .watch s := by
  simp [serve, Req.encoded]

theorem serve_enterSleep (tag : Byte) (s : State) : serve tag .enterSleep s = serveRest tag 0x0D .sleep s := by
  simp [serve, Req.encoded]

/-- In-band timers are cancelled (R170). -/
theorem cancelBandTimers_frame (s : State) :
    ∃ jacks : PerJack JackRec, (∀ j, jacks.get j = { jackOf s j with bandSince := none }) ∧
      cancelBandTimers s = { s with lev := { s.lev with jacks := jacks }, man := { s.man with lineBandSince := none } } := by
  have frame := marks_frame (fun _ q => { q with bandSince := none }) allJacks s
  have marks := jackOf_marks (fun _ q => { q with bandSince := none }) nodup_allJacks s
  refine ⟨_, fun j => (marks j).trans (if_pos (mem_allJacks j)), ?_⟩
  unfold cancelBandTimers
  rw [frame]
  rfl

/-- A part that hunts for a frame enters WATCH or SLEEP and stays there (R83, R135, R146, R170, R171, R180, R190). -/
theorem enterRest_frame (p : PowerState) {s : State} (hunt : s.link.rx = .hunt) :
    ∃ jacks : PerJack JackRec, (∀ j, jacks.get j = { jackOf s j with bandSince := none }) ∧
      enterRest p s = { s with
        power := { s.power with state := p }
        link := { s.link with reports := s.link.reports.filter (fun x => x != .telemetry), telemetryAt := none }
        lev := { s.lev with drift := none, jacks := jacks }
        scan := { s.scan with grad := { s.scan.grad with stale := true } }
        man := { s.man with lineBandSince := none }
        wind := if p = .sleep then { s.wind with ring := [], bin := 0, binEnd := none, gust := 0, avg := 0 } else s.wind
        mon := if p = .sleep then { s.mon with samples := [], avg := none } else s.mon } := by
  have quiet : modLink (fun l => { l with telemetryAt := none, rx := if l.rx = .drain then .hunt else l.rx })
      (dropSource .telemetry s) = { s with link := { s.link with
        reports := s.link.reports.filter (fun x => x != .telemetry), telemetryAt := none } } := by
    simp only [modLink, dropSource, hunt, reduceCtorEq, if_false]
  obtain ⟨jacks, marks, frame⟩ := cancelBandTimers_frame { s with link := { s.link with
    reports := s.link.reports.filter (fun x => x != .telemetry), telemetryAt := none } }
  refine ⟨jacks, marks, ?_⟩
  unfold enterRest
  rw [quiet, frame]
  by_cases e : p = .sleep
  · simp [e, modWind, modMon, modScan, modLev, modPower, hunt]
  · simp [e, modScan, modLev, modPower, hunt]

/-- The part at rest enters the state that a request asks for. -/
theorem exec_rest {s : State} (L : s.Listening) {i : Instr} {tag kind k : Byte} {p : PowerState} {q : Req}
    (h : requestOf i = some (tag, q)) (e : serve tag q s = serveRest tag kind p s) (hk : replyKind kind = k)
    (free : restRefusal p s = none) :
    ∃ u, exec i s = .next (finish u) ∧ u.power = { s.power with state := p } ∧
      u.link = { s.link with
        replies := s.link.replies ++ [{ kind := k, tag := tag, payload := plainReply .ok }],
        reports := s.link.reports.filter (fun x => x != .telemetry), telemetryAt := none } ∧
      u.lev = { s.lev with drift := none, jacks := u.lev.jacks } ∧
      (∀ j, jackOf u j = { jackOf s j with bandSince := none }) ∧
      u.scan = { s.scan with grad := { s.scan.grad with stale := true } } ∧
      u.man = { s.man with lineBandSince := none } ∧
      (p = .watch → u.wind = s.wind ∧ u.mon = s.mon) ∧
      (p = .sleep → u.wind = { s.wind with ring := [], bin := 0, binEnd := none, gust := 0, avg := 0 } ∧
        u.mon = { s.mon with samples := [], avg := none }) ∧
      u = { s with
        power := u.power, link := u.link, lev := u.lev, scan := u.scan, man := u.man, wind := u.wind,
        mon := u.mon } := by
  obtain ⟨jacks, marks, frame⟩ := enterRest_frame p (s := pushReply tag kind (plainReply .ok) s) L.hunt
  refine ⟨enterRest p (pushReply tag kind (plainReply .ok) s), ?_, ?_⟩
  · rw [exec_request L h, e]
    simp only [serveRest, free]
  · rw [frame, ← hk]
    exact ⟨rfl, rfl, rfl, marks, rfl, rfl, fun w => by subst w; exact ⟨rfl, rfl⟩, fun w => by subst w; exact ⟨rfl, rfl⟩, rfl⟩

theorem restRefusal_of_rest {p : PowerState} {s : State} (h : (allAtRest s && s.sup.queue.isEmpty) = true) :
    restRefusal p s =
      if p = .sleep ∧ s.present .awning = true ∧ s.awn.status ≠ .pin then some (.refused .awningNotIn none) else none :=
  if_neg (by simp only [h, Bool.not_true, Bool.false_eq_true, not_false_eq_true])

/-- Settles O21: the refusals are quiet answers, and otherwise the state is entered. -/
theorem restEntered : Obligations.RestEntered := by
  intro s tag L rest out enters
  have atRest : (allAtRest s && s.sup.queue.isEmpty) = true ↔ rest := atRest_iff s
  have refuses : ∀ (i : Instr) (q : Req) (kind : Byte) (p : PowerState) (v : Verdict), requestOf i = some (tag, q) →
      serve tag q s = serveRest tag kind p s → restRefusal p s = some v →
      s.AnswersOnly i (replyKind kind) tag v.payload := fun i q kind p v h e r =>
    answersOnly L h (by rw [e]; simp only [serveRest, r]) rfl
  have busy : ¬ rest → ∀ p, restRefusal p s = some .busy := fun no p => by
    rw [← atRest] at no
    simp [restRefusal, no]
  refine ⟨fun no => ⟨refuses (.enterWatch tag) _ 0x0C _ _ rfl (serve_enterWatch tag s) (busy no .watch),
      refuses (.enterSleep tag) _ 0x0D _ _ rfl (serve_enterSleep tag s) (busy no .sleep)⟩,
    fun yes => ?_, fun yes away => ?_, fun yes home => ?_⟩
  · refine exec_rest L rfl (serve_enterWatch tag s) (by decide) ?_
    rw [restRefusal_of_rest (atRest.2 yes), if_neg (fun h => nomatch h.1)]
  · have no : restRefusal .sleep s = some (.refused .awningNotIn none) := by
      rw [restRefusal_of_rest (atRest.2 yes), if_pos ⟨rfl, away⟩]
    have k := refuses (.enterSleep tag) _ 0x0D _ _ rfl (serve_enterSleep tag s) no
    rwa [refused_payload] at k
  · refine exec_rest L rfl (serve_enterSleep tag s) (by decide) ?_
    rw [restRefusal_of_rest (atRest.2 yes), if_neg (fun h => home h.2)]

end Sys2Proof.Machine
end

section
/-! PROOF. The engine's run as a whole: what a SETTLE's end carries on through PLAN, LIFT, MEASURE and TRIM (O49, O50). -/

namespace Sys2Proof.Machine

/-! ### What the engine's steps carry on -/

/-- The run's gradients and count, and of the plan record its operation, its first gradients and its unsettled mark. -/
structure Digest where
  measured : Grad
  passes : Nat
  outcome : Option PlanOutcome
  plan : Option (Op × Option Grad × Bool)

def planKey (p : PlanRec) : Op × Option Grad × Bool := (p.op, p.first, p.unsettled)

def digest (s : State) : Digest := ⟨s.lev.measured, s.lev.passes, s.lev.outcome, s.lev.plan.map planKey⟩

theorem digest_of_lev {s t : State} (h : t.lev = s.lev) : digest t = digest s := by
  unfold digest
  rw [h]

theorem digest_modJack (j : Jack) (f : JackRec → JackRec) (s : State) : digest (modJack j f s) = digest s := rfl

theorem digest_marks {α : Type} (j : α → Jack) (f : α → JackRec → JackRec) (l : List α) (s : State) :
    digest (l.foldl (fun t a => modJack (j a) (f a) t) s) = digest s :=
  foldl_keeps _ digest l (fun t a _ => digest_modJack (j a) (f a) t) s

theorem digest_modPlan (f : PlanRec → PlanRec) (keeps : ∀ p, planKey (f p) = planKey p) (s : State) :
    digest (modPlan f s) = digest s := by
  have plan : (s.lev.plan.map f).map planKey = s.lev.plan.map planKey := by
    rw [Option.map_map]
    exact congrArg (fun g => s.lev.plan.map g) (funext keeps)
  exact congrArg (fun p => ({ digest s with plan := p } : Digest)) plan

theorem lev_signal (x : Source) (s : State) : (signal x s).lev = s.lev := by rw [signal_frame]

theorem lev_openJacksCmd (l : List Jack) (s : State) : (openJacksCmd l s).lev = s.lev :=
  foldl_keeps _ State.lev l (fun t j _ => by rw [openJack_frame]) s

theorem lev_closeJacksCmd (l : List Jack) (s : State) : (closeJacksCmd l s).lev = s.lev :=
  foldl_keeps _ State.lev l (fun t j _ => by rw [closeJack_frame]) s

theorem lev_pumpOnCmd (c : Ch) (s : State) : (pumpOnCmd c s).lev = s.lev := by rw [pumpOnCmd_frame]

theorem digest_terminate_level (t : Term) (s : State) : digest (terminate .level t s) = digest s := by
  cases h : isRunning s .level with
  | false => rw [terminate_of_not_running _ _ _ h]
  | true =>
    obtain ⟨d, e⟩ := terminate_level_lev h t
    simp only [digest, e]
    rfl

theorem digest_fail_level (k : FaultKind) (w : Subject) (s : State) : digest (fail .level k w s) = digest s :=
  digest_terminate_level _ s

theorem digest_levelSensorLoss (w : Subject) (s : State) : digest (levelSensorLoss w s) = digest s := by
  unfold levelSensorLoss
  split
  · rw [digest_fail_level, digest_of_lev (lev_closeJacksCmd _ s)]
  · rfl

/-! ### TRIM, MEASURE and LIFT -/

theorem digest_endTrim (s : State) : digest (endTrim s) = digest s := by
  unfold endTrim
  extract_lets air s1
  split
  · exact digest_fail_level _ _ s
  · rw [digest_terminate_level, digest_of_lev (lev_signal _ _), digest_modPlan]
    exact fun _ => rfl

theorem digest_startStep (l : List Jack) (s : State) : digest (startStep l s) = digest s := by
  have opened : (pumpOnCmd .level (openJacksCmd l (l.foldl (fun t j =>
      modJack j (fun q => { q with stepTarget := some (min (q.stroke + 2) (trimCap s j)) }) t) s))).lev =
      (l.foldl (fun t j => modJack j (fun q => { q with stepTarget := some (min (q.stroke + 2) (trimCap s j)) }) t) s).lev :=
    (lev_pumpOnCmd .level _).trans (lev_openJacksCmd l _)
  exact (digest_of_lev opened).trans (digest_marks id _ l s)

theorem digest_midTest (s : State) : digest (midTest s) = digest s := by
  unfold midTest
  extract_lets p l m
  split
  · exact digest_startStep m s
  · exact digest_endTrim s

theorem digest_trimTest (s : State) : digest (trimTest s) = digest s := by
  unfold trimTest
  extract_lets p l
  split
  · exact digest_startStep l s
  · exact digest_midTest _

theorem digest_enterTrim (o : PlanOutcome) (s : State) : digest (enterTrim o s) = { digest s with outcome := some o } := by
  unfold enterTrim
  rw [digest_trimTest, digest_modPlan]
  · rfl
  · exact fun _ => rfl

theorem digest_startSettle (s : State) : digest (startSettle s) = digest s := by
  unfold startSettle
  extract_lets s1
  split
  · rfl
  · exact digest_levelSensorLoss _ s1

theorem digest_enterMeasure (s : State) : digest (enterMeasure s) = digest s := by
  unfold enterMeasure
  extract_lets air s1 s2
  split
  · exact (digest_of_lev ((lev_pumpOnCmd _ _).trans (lev_openJacksCmd air s2))).trans
      (digest_marks id (fun _ q => { q with close := none }) air s1)
  · exact digest_startSettle s1

theorem digest_clearLifts (s : State) : digest (clearLifts s) = digest s :=
  digest_marks id (fun _ q => { q with lift := none, target := none }) allJacks s

theorem digest_enterLift (l : List PlanLift) (s : State) : digest (enterLift l s) = digest s := by
  unfold enterLift
  extract_lets s1 s2 m
  have marks : digest s2 = digest s1 := digest_marks PlanLift.jack _ l s1
  split
  · exact (digest_of_lev ((lev_pumpOnCmd _ _).trans (lev_openJacksCmd m s2))).trans marks
  · rw [digest_enterMeasure, digest_clearLifts, marks]
    rfl

/-- PLAN passes the plan record on, and takes the gradients that it is given (R71). -/
theorem digest_makePlan (g : Grad) (sat : Bool) (s : State) :
    (digest (makePlan g sat s)).measured = g ∧ (digest (makePlan g sat s)).plan = (digest s).plan := by
  unfold makePlan
  extract_lets c s0 inp k l s1
  have taken : (digest s0).measured = g ∧ (digest s0).plan = (digest s).plan := ⟨rfl, rfl⟩
  have scaled : digest s1 = digest s0 := digest_modPlan (fun p => { p with scale := some k, limited := p.limited || k < 1000 })
    (fun _ => rfl) s0
  clear_value s0 s1
  split
  · rwa [digest_fail_level]
  split
  · rwa [digest_fail_level]
  split
  · rwa [digest_fail_level]
  split
  · rwa [digest_enterTrim]
  split
  · rwa [digest_enterTrim, scaled]
  · rw [digest_enterLift, digest_modPlan]
    · rw [← scaled] at taken
      exact taken
    · exact fun _ => rfl

/-! ### PLAN (R71, R91) -/

theorem excessSlope_iff (limit : Int) (g : Grad) (sat : Bool) :
    excessSlope limit g sat = true ↔ sat = true ∨ limit < g.pitch.natAbs ∨ limit < g.roll.natAbs := by
  simp [excessSlope, or_assoc]

theorem withinTolerance_iff (tol : Int) (g : Grad) :
    withinTolerance tol g = true ↔ (g.pitch.natAbs : Int) ≤ tol ∧ (g.roll.natAbs : Int) ≤ tol := by
  simp [withinTolerance]

theorem faultedJacks_ne_nil (s : State) :
    faultedJacks s ≠ [] ↔ ∃ j, s.jackPresent j = true ∧ (jackOf s j).fault = true := by
  simp only [← mem_faultedJacks]
  exact ⟨List.exists_mem_of_ne_nil _, fun ⟨_, h⟩ => List.ne_nil_of_mem h⟩

/-- PLAN has begun with the settled gradients (R71). -/
def planning (g : Grad) (s : State) : State := modLev (fun l => { l with phase := .plan, sub := .none, measured := g }) s

/-- Settles O50: the tests in their order, each with the ending or the phase that it gives. -/
theorem planTests : Obligations.PlanTests := by
  intro s g sat running u beyond within faulty
  have run : isRunning (planning g s) .level = true := (isRunning_iff s .level).2 running
  have fails : ∀ (k : FaultKind) (w : Subject), s.Stopped (fail .level k w (planning g s)) .level (.abnormal ⟨k, w⟩) :=
    fun k w => stopped_of_same (z := planning g s) rfl rfl rfl (stopped_terminate (.abnormal ⟨k, w⟩) run)
  have slope : excessSlope s.store.cfg.excessLimit g sat = true ↔ beyond := excessSlope_iff _ g sat
  have flags : faultedJacks (planning g s) ≠ [] ↔ faulty := faultedJacks_ne_nil (planning g s)
  have flat : withinTolerance s.store.cfg.tolerance g = true ↔ within := withinTolerance_iff _ g
  refine ⟨fun steep => ?_, fun level sick => ?_, fun level sound lost => ?_, fun level sound valid fine => ?_⟩
  · have e : u = fail .level .excessSlope .none (planning g s) := if_pos (slope.2 steep)
    rw [e]
    exact ⟨fails _ _, PerJack_get_ext (valveOpen_terminate_level run _ (by decide))⟩
  · have e : u = fail .level .sensor (.jacks (faultedJacks (planning g s))) (planning g s) :=
      (if_neg (mt slope.1 level)).trans (if_pos (flags.2 sick))
    rw [e]
    exact fails _ _
  · have e : u = fail .level .sensor .none (planning g s) :=
      (if_neg (mt slope.1 level)).trans ((if_neg (mt flags.1 sound)).trans (if_pos (by simp [lost])))
    rw [e]
    exact fails _ _
  · have e : u = enterTrim .levelled (planning g s) :=
      (if_neg (mt slope.1 level)).trans ((if_neg (mt flags.1 sound)).trans
        ((if_neg (by simp [valid])).trans (if_pos (flat.2 fine))))
    have kept := digest_enterTrim .levelled (planning g s)
    rw [← e] at kept
    exact ⟨e, congrArg Digest.passes kept, congrArg Digest.outcome kept⟩

end Sys2Proof.Machine
end

section
/-! PROOF. The end of a SETTLE, the trim wait and the drift timer (O49), and the inclinometer's polls (O47). -/

namespace Sys2Proof.Machine

/-! ### The end of a SETTLE (R70, R74, R75, R78) -/

/-- Coast learning writes learned entries and the jacks' records (R74). -/
theorem learnJackCoasts_frame (s : State) :
    ∃ (jacks : PerJack JackRec) (cfg : Cfg), learnJackCoasts s =
      { s with lev := { s.lev with jacks := jacks }, store := { s.store with cfg := cfg } } := by
  unfold learnJackCoasts
  induction allJacks generalizing s with
  | nil => exact ⟨s.lev.jacks, s.store.cfg, rfl⟩
  | cons j l ih =>
    rw [List.foldl_cons]
    split
    · obtain ⟨jacks, cfg, e⟩ := ih (modJack j (fun q => { q with close := none }) (putCfg .learned (2 + j.idx)
        (learnCoast 8 (s.store.cfg.jackCoast j) ((jackOf s j).stroke - _ : Int) : Nat) s))
      exact ⟨jacks, cfg, e⟩
    · exact ih s

/-- The run as a SETTLE ends, before its gradients are judged. -/
def weighed (gaveUp : Bool) (s : State) : State :=
  modPlan (fun p => { p with unsettled := p.unsettled || gaveUp }) s |> learnJackCoasts
    |> modLev (fun l => { l with sub := .none, measured := settledGrad s })

theorem weighed_frame (gaveUp : Bool) (s : State) :
    ∃ (jacks : PerJack JackRec) (cfg : Cfg), weighed gaveUp s =
      { s with
        lev := { s.lev with
          jacks := jacks, sub := .none, measured := settledGrad s,
          plan := s.lev.plan.map (fun p => { p with unsettled := p.unsettled || gaveUp }) }
        store := { s.store with cfg := cfg } } := by
  obtain ⟨jacks, cfg, e⟩ := learnJackCoasts_frame (modPlan (fun p => { p with unsettled := p.unsettled || gaveUp }) s)
  exact ⟨jacks, cfg, by rw [weighed, e]; rfl⟩

/-- The settled gradients stand as the run's first (R67). -/
def firstTaken (gaveUp : Bool) (s : State) : State := modPlan (fun p => { p with first := some (settledGrad s) }) (weighed gaveUp s)

theorem settleEnd_measure {gaveUp : Bool} {s : State} (h : s.lev.phase = .measure) :
    settleEnd gaveUp s =
      if withinTolerance s.store.cfg.tolerance (settledGrad s) then enterTrim .levelled (weighed gaveUp s)
      else if s.lev.passes < s.store.cfg.passes then
        makePlan (settledGrad s) (s.lev.ring.any RingEntry.sat) (weighed gaveUp s)
      else enterTrim .limited (weighed gaveUp s) := if_pos h

theorem settleEnd_stabilise {gaveUp : Bool} {s : State} (h : s.lev.phase ≠ .measure)
    (op : (chanOf s .level).op = some .stabilise) :
    settleEnd gaveUp s = terminate .level .normal
      (modPlan (fun p => { p with final := some (settledGrad s), outcome := some .stabilised }) (firstTaken gaveUp s)) :=
  (if_neg h).trans (if_pos op)

theorem settleEnd_plan {gaveUp : Bool} {s : State} (h : s.lev.phase ≠ .measure) (op : (chanOf s .level).op ≠ some .stabilise) :
    settleEnd gaveUp s = makePlan (settledGrad s) (s.lev.ring.any RingEntry.sat) (firstTaken gaveUp s) :=
  (if_neg h).trans (if_neg op)

theorem ends_settleEnd (gaveUp : Bool) (s : State) : Ends (onlyChan .level) (weighed gaveUp s) (settleEnd gaveUp s) := by
  by_cases h : s.lev.phase = .measure
  · rw [settleEnd_measure h]
    split
    · exact ends_enterTrim _ _
    split
    · exact ends_makePlan _ _ _
    · exact ends_enterTrim _ _
  · by_cases op : (chanOf s .level).op = some .stabilise
    · rw [settleEnd_stabilise h op]
      exact Ends.after ((scope_modPlan _ _).trans (scope_modPlan _ _)) (ends_terminate_level _ _)
    · rw [settleEnd_plan h op]
      exact Ends.after (scope_modPlan _ _) (ends_makePlan _ _ _)

theorem settleEnd_scan (gaveUp : Bool) (s : State) : (settleEnd gaveUp s).scan = s.scan := by
  obtain ⟨jacks, cfg, e⟩ := weighed_frame gaveUp s
  have same : (settleEnd gaveUp s).scan = (weighed gaveUp s).scan :=
    of_fixed State.scan (fun _ => rfl) (ends_settleEnd gaveUp s).fixed
  rw [same, e]

theorem settleEnd_others (gaveUp : Bool) (s : State) {c : Ch} (n : c ≠ .level) : chanOf (settleEnd gaveUp s) c = chanOf s c := by
  obtain ⟨jacks, cfg, e⟩ := weighed_frame gaveUp s
  rw [(ends_settleEnd gaveUp s).other c fun _ h => absurd h n, e]
  rfl

theorem digest_weighed (gaveUp : Bool) (s : State) :
    digest (weighed gaveUp s) = { digest s with
      measured := settledGrad s, plan := s.lev.plan.map (fun p => (p.op, p.first, p.unsettled || gaveUp)) } := by
  obtain ⟨jacks, cfg, e⟩ := weighed_frame gaveUp s
  rw [e]
  simp only [digest, Option.map_map]
  rfl

theorem digest_firstTaken (gaveUp : Bool) (s : State) :
    digest (firstTaken gaveUp s) = { digest s with
      measured := settledGrad s
      plan := s.lev.plan.map (fun p => (p.op, some (settledGrad s), p.unsettled || gaveUp)) } := by
  obtain ⟨jacks, cfg, e⟩ := weighed_frame gaveUp s
  rw [firstTaken, e]
  simp only [digest, modPlan, modLev, Option.map_map]
  rfl

/-- The settled gradients stay the run's, in MEASURE beside the first ones and after GROUND as the first ones themselves. -/
theorem digest_settleEnd (gaveUp : Bool) (s : State) :
    (digest (settleEnd gaveUp s)).measured = settledGrad s ∧
      (digest (settleEnd gaveUp s)).plan = s.lev.plan.map (fun p =>
        (p.op, if s.lev.phase = .measure then p.first else some (settledGrad s), p.unsettled || gaveUp)) := by
  by_cases h : s.lev.phase = .measure
  · have key := digest_weighed gaveUp s
    simp only [settleEnd_measure h, h, if_true]
    split
    · rw [digest_enterTrim, key]
      exact ⟨rfl, rfl⟩
    split
    · rw [(digest_makePlan _ _ _).1, (digest_makePlan _ _ _).2, key]
      exact ⟨rfl, rfl⟩
    · rw [digest_enterTrim, key]
      exact ⟨rfl, rfl⟩
  · have key := digest_firstTaken gaveUp s
    simp only [h, if_false]
    by_cases op : (chanOf s .level).op = some .stabilise
    · rw [settleEnd_stabilise h op, digest_terminate_level, digest_modPlan, key]
      · exact ⟨rfl, rfl⟩
      · exact fun _ => rfl
    · rw [settleEnd_plan h op, (digest_makePlan _ _ _).1, (digest_makePlan _ _ _).2, key]
      exact ⟨rfl, rfl⟩

theorem meanGrad_cor (l : List RingEntry) :
    meanGrad (l.map RingEntry.cor) =
      ⟨Int.fdiv (l.map (fun e => e.cor.pitch)).sum l.length, Int.fdiv (l.map (fun e => e.cor.roll)).sum l.length⟩ := by
  simp only [meanGrad, floorMean, floorDiv, List.map_map, List.length_map]
  rfl

/-- STABILISE's SETTLE ends NORMAL with the gradients as its final ones (R78). -/
theorem stabilise_ends {gaveUp : Bool} {s : State} (run : isRunning s .level = true) (phase : s.lev.phase ≠ .measure)
    (op : (chanOf s .level).op = some .stabilise) :
    s.Stopped (settleEnd gaveUp s) .level .normal ∧ (settleEnd gaveUp s).lev.status = .stabilised ∧
      (settleEnd gaveUp s).lev.phase = .none ∧
      ∀ q, (settleEnd gaveUp s).lev.plan = some q → q.final = some (settledGrad s) ∧ q.outcome = some .stabilised := by
  obtain ⟨jacks, cfg, e⟩ := weighed_frame gaveUp s
  have chan : chanOf (weighed gaveUp s) .level = chanOf s .level := by rw [e]; rfl
  have now : (weighed gaveUp s).now = s.now := by rw [e]
  rw [settleEnd_stabilise phase op]
  clear e
  generalize hz : modPlan (fun p => { p with final := some (settledGrad s), outcome := some PlanOutcome.stabilised })
    (firstTaken gaveUp s) = z
  have chan' : chanOf z .level = chanOf s .level := by rw [← hz]; exact chan
  have now' : z.now = s.now := by rw [← hz]; exact now
  have run' : isRunning z .level = true := by rw [isRunning, chan']; exact run
  have status : levelEndStatus z .normal = .stabilised := by simp only [levelEndStatus, chan', op]
  obtain ⟨d, lev⟩ := terminate_level_lev run' .normal
  have stopped := stopped_terminate .normal run'
  simp only [State.Stopped, chan', now', stopInterval] at stopped
  refine ⟨stopped, by rw [lev, ← status], by rw [lev]; rfl, fun q h => ?_⟩
  have plan : z.lev.plan = some q := by
    rw [lev] at h
    exact h
  rw [← hz] at plan
  obtain ⟨p, -, rfl⟩ := Option.map_eq_some_iff.1 plan
  exact ⟨rfl, rfl⟩

/-! ### The trim wait (R76, R97) -/

/-- A trim step begins: each jack of the step has its target, and nothing but the engine's part and the manifold changes. -/
theorem startStep_spec {l : List Jack} (nodup : l.Nodup) (s : State) :
    (startStep l s).lev.phase = s.lev.phase ∧ (startStep l s).lev.sub = .stepping ∧
      (∀ j, (jackOf (startStep l s) j).stepTarget =
        if j ∈ l then some (min ((jackOf s j).stroke + 2) (trimCap s j)) else (jackOf s j).stepTarget) ∧
      startStep l s = { s with lev := (startStep l s).lev, man := (startStep l s).man } := by
  have frame := marks_frame (fun j q => { q with stepTarget := some (min (q.stroke + 2) (trimCap s j)) }) l s
  have marks := jackOf_marks (fun j q => { q with stepTarget := some (min (q.stroke + 2) (trimCap s j)) }) nodup s
  unfold startStep
  extract_lets s1
  have marked : s1 = { s with lev := { s.lev with jacks := s1.lev.jacks } } := frame
  have jacks : ∀ j, (jackOf s1 j).stepTarget =
      if j ∈ l then some (min ((jackOf s j).stroke + 2) (trimCap s j)) else (jackOf s j).stepTarget := fun j => by
    rw [show jackOf s1 j = _ from marks j]
    split <;> rfl
  clear_value s1
  have phase : s1.lev.phase = s.lev.phase := by rw [marked]
  rw [openAndPump_frame]
  exact ⟨phase, rfl, jacks, by rw [marked]; rfl⟩

theorem nodup_lighterDiagonal {a b c d : Nat} {l : List Jack} (h : lighterDiagonal a b c d = some l) : l.Nodup := by
  simp only [lighterDiagonal] at h
  split at h
  · cases h
  split at h
  · obtain rfl := Option.some.inj h
    split <;> decide
  · cases h

theorem trimTest_of_corner {s : State} {d : List Jack} (corner : s.lev.cornerDone = false)
    (light : lighterDiagonal (jackOf s .lf).pressure (jackOf s .rf).pressure (jackOf s .lr).pressure (jackOf s .rr).pressure = some d)
    (steps : d.filter (fun j => canStep s j) ≠ []) : trimTest s = startStep (d.filter (fun j => canStep s j)) s := by
  simp only [trimTest, corner, light, Bool.false_eq_true, if_false]
  exact if_pos steps

/-! ### The drift timer (R83, R84) -/

/-- The result of a levelling run is disturbed. -/
theorem setLevelStatus_disturbed {s : State} (h : s.lev.status = .levelled ∨ s.lev.status = .limited) :
    (setLevelStatus .disturbed s).lev = { s.lev with status := .disturbed, drift := none } ∧
      (s.store.cfg.sourceEnabled .posture = true → Source.posture ∈ (setLevelStatus .disturbed s).link.reports) ∧
      (setLevelStatus .disturbed s).store.cfg = s.store.cfg := by
  have other : s.lev.status ≠ .disturbed := by
    rcases h with e | e <;> simp [e]
  refine ⟨?_, fun enabled => ?_, cfg_of_outside (outside_of_scope (scope_setLevelStatus .disturbed s))⟩
  · unfold setLevelStatus
    rw [if_neg other, snapshotOnRest_frame]
    exact lev_signal _ _
  · unfold setLevelStatus
    rw [if_neg other, snapshotOnRest_link]
    exact mem_signal_self .posture _ enabled

/-- Settles O49: a SETTLE that gives up ends as one that is met, with the run marked; the trim wait ends in the next step; the
drift timer writes the level status. -/
theorem levelTimersAct : Obligations.LevelTimersAct := by
  refine ⟨fun s live due => ?_, fun s d live due corner light steps => ?_, fun s live due => ?_⟩
  · intro mean
    obtain ⟨running, -, -⟩ := (giveUpDue_iff s).1 due
    obtain ⟨measured, plan⟩ := digest_settleEnd true s
    refine ⟨settleEnd true s, settledGrad s, by rw [exec_settleGiveUp, onDue_of_due _ due live], measured, fun pairs => ?_,
      fun p h => ?_, fun phase q h => ?_, fun phase op => ?_, fun c n => settleEnd_others true s n⟩
    · rw [settledGrad_of_pairs s pairs, meanGrad_cor]
    · have key : (settleEnd true s).lev.plan.map planKey = some _ := plan.trans (congrArg (Option.map _) h)
      obtain ⟨q, hq, e⟩ := Option.map_eq_some_iff.1 key
      refine ⟨q, hq, ?_, congrArg Prod.fst e⟩
      have unsettled : q.unsettled = (p.unsettled || true) := congrArg (fun x => x.2.2) e
      rw [unsettled, Bool.or_true]
    · have key : (settleEnd true s).lev.plan.map planKey = _ := plan
      rw [h] at key
      obtain ⟨p, -, e⟩ := Option.map_eq_some_iff.1 key.symm
      have first : _ = q.first := congrArg (fun x => x.2.1) e
      rw [← first]
      simp [phase]
    · exact stabilise_ends ((isRunning_iff s .level).2 running) (by simp [phase]) op
  · obtain ⟨-, phase, -, -⟩ := (trimWaitDue_iff s).1 due
    obtain ⟨same, sub, targets, frame⟩ := startStep_spec ((nodup_lighterDiagonal light).filter (fun j => canStep s j)) s
    refine ⟨startStep (d.filter (fun j => canStep s j)) s, ?_, same.trans phase, sub, fun j mem steps => ?_, fun j no => ?_,
      by rw [frame], frame⟩
    · rw [exec_trimWaitEnd, onDue_of_due _ due live, trimTest_of_corner corner light steps]
    · rw [targets, if_pos (List.mem_filter.2 ⟨mem, steps⟩)]
    · rw [targets, if_neg (fun h => no (List.mem_filter.1 h))]
  · obtain ⟨-, -, status, -⟩ := (driftDue_iff s).1 due
    obtain ⟨lev, report, cfg⟩ := setLevelStatus_disturbed status
    exact ⟨setLevelStatus .disturbed s, by rw [exec_driftTimerExpiry, onDue_of_due _ due live], lev, report,
      setLevelStatus_frame .disturbed s, cfg⟩

/-! ### The inclinometer's polls (R70, R87, R171) -/

theorem exec_inclinometerPoll {s : State} (live : s.power.startingUp = false) (read : Option RawGrad) :
    exec (.inclinometerPoll read) s = .next (finish (inclinometerPoll read s)) := by
  simp only [exec, execInclinometerPoll, whenLive, live]
  rfl

theorem clampInt_eq (lo hi v : Int) (h : lo ≤ hi) : clampInt lo hi v = min hi (max lo v) := by
  unfold clampInt
  split
  · omega
  split <;> omega

theorem correctRead_cor (z : Grad) (r : RawGrad) :
    (correctRead z r).cor = ⟨min 1000 (max (-1000) (r.pitch - z.pitch)), min 1000 (max (-1000) (r.roll - z.roll))⟩ := by
  rw [← clampInt_eq _ _ _ (by decide), ← clampInt_eq _ _ _ (by decide)]
  rfl

/-- A read is saturated at a limit of the sensor or of the correction (R87). -/
theorem correctRead_sat (z : Grad) (r : RawGrad) :
    (correctRead z r).sat = true ↔ r.pitch = 1000 ∨ r.pitch = -1000 ∨ r.roll = 1000 ∨ r.roll = -1000 ∨
      (correctRead z r).cor.pitch ≠ r.pitch - z.pitch ∨ (correctRead z r).cor.roll ≠ r.roll - z.roll := by
  simp [correctRead, or_assoc]

theorem driftPoll_keeps (s : State) : (driftPoll s).scan = s.scan ∧ (driftPoll s).lev.ring = s.lev.ring := ⟨rfl, rfl⟩

theorem settleCheck_scan (s : State) : (settleCheck s).scan = s.scan := by
  unfold settleCheck
  split
  · exact settleEnd_scan false s
  · rfl

theorem levelSensorLoss_keeps (w : Subject) (s : State) :
    (levelSensorLoss w s).scan = s.scan ∧ (levelSensorLoss w s).lev.ring = s.lev.ring := by
  refine ⟨of_fixed State.scan (fun _ => rfl) (ends_levelSensorLoss w s).fixed, ?_⟩
  unfold levelSensorLoss
  split
  next running =>
    have closed : (closeJacksCmd (openJacks s) s).lev.ring = s.lev.ring := by rw [lev_closeJacksCmd]
    have run : isRunning (closeJacksCmd (openJacks s) s) .level = true := by
      rw [isRunning_of_outside (outside_of_scope (scope_closeJacksCmd _ s))]
      rcases running with h | h <;> exact (Bool.and_eq_true_iff.1 h).1
    obtain ⟨d, lev⟩ := terminate_level_lev run (.abnormal ⟨.sensor, w⟩)
    rw [fail, lev]
    exact closed
  · rfl

/-- Settles O47: the record of a good and of a failed read, which the engine's reaction to the poll does not write again. -/
theorem pollKeepsRecord : Obligations.PollKeepsRecord := by
  intro s live
  refine ⟨fun rest r => ?_, fun run => ⟨fun r pl ph rl rh => ?_, ?_⟩⟩
  · have poll : inclinometerPoll r s = s := if_pos rest
    rw [exec_inclinometerPoll live, poll]
  · have raw : (⟨clampInt (-1000) 1000 r.pitch, clampInt (-1000) 1000 r.roll⟩ : RawGrad) = r := by
      rw [clampInt_eq _ _ _ (by decide), clampInt_eq _ _ _ (by decide), max_eq_right pl, max_eq_right rl, min_eq_right ph,
        min_eq_right rh]
    generalize hq : correctRead ⟨s.store.cfg.pitchZero, s.store.cfg.rollZero⟩ r = q
    have record : (goodRead r s).scan.grad = { reading := some q, stale := false, valid := true, failures := 0 } := by
      rw [← hq]
      simp only [goodRead, raw, modScan_scan]
    have entries : readEntry (goodRead r s) = [⟨q.cor, q.raw, q.sat⟩] := by simp only [readEntry, record]
    have poll : inclinometerPoll (some r) s = driftPoll (settleCheck (pushRing ⟨q.cor, q.raw, q.sat⟩ (goodRead r s))) := by
      simp only [inclinometerPoll, run, entries]
      rfl
    refine ⟨_, exec_inclinometerPoll live (some r), q, ?_, by rw [← hq]; rfl, by rw [← hq]; exact correctRead_cor _ r,
      by rw [← hq]; exact correctRead_sat _ r, fun still => ?_⟩
    · rw [poll, (driftPoll_keeps _).1, settleCheck_scan]
      exact record
    · have check : settleCheck (pushRing ⟨q.cor, q.raw, q.sat⟩ (goodRead r s)) =
          pushRing ⟨q.cor, q.raw, q.sat⟩ (goodRead r s) :=
        if_neg fun h => still ((isRunning_iff s .level).1 h.1)
      rw [poll, (driftPoll_keeps _).2, check]
      rfl
  · have alerts : (refreshAlerts (failedRead s)).scan = (failedRead s).scan ∧ (refreshAlerts (failedRead s)).lev = s.lev := by
      rw [refreshAlerts_frame]
      exact ⟨rfl, rfl⟩
    obtain ⟨scan, lev⟩ := alerts
    have poll : inclinometerPoll none s = driftPoll (if s.scan.grad.failures = 3 then
        levelSensorLoss .none (refreshAlerts (failedRead s)) else refreshAlerts (failedRead s)) := by
      simp only [inclinometerPoll, run]
      rfl
    have kept : (inclinometerPoll none s).scan = (failedRead s).scan ∧ (inclinometerPoll none s).lev.ring = s.lev.ring := by
      rw [poll, (driftPoll_keeps _).1, (driftPoll_keeps _).2]
      split
      · rw [(levelSensorLoss_keeps _ _).1, (levelSensorLoss_keeps _ _).2, scan, lev]
        exact ⟨rfl, rfl⟩
      · rw [scan, lev]
        exact ⟨rfl, rfl⟩
    refine ⟨_, exec_inclinometerPoll live none, ?_, kept.2⟩
    rw [kept.1]
    simp [failedRead]

end Sys2Proof.Machine
end

section
/-! PROOF. What the engine's reactions have in common: valves and marks that change alone, sensor loss, the settle step, and a jack
in AIR at its max stroke. -/

namespace Sys2Proof.Machine

/-! ### Valves and marks -/

/-- From `s` to `t` jack valves, the engine's marks on jacks and the plan record have changed, and nothing else. -/
structure Marked (s t : State) : Prop where
  beside : bare t = bare s
  sensed : ∀ j, (jackOf t j).sensed = (jackOf s j).sensed

section
variable {s t : State} (m : Marked s t)
include m

theorem Marked.chans : t.chans = s.chans := of_bare State.chans (fun _ => rfl) m.beside
theorem Marked.now : t.now = s.now := of_bare State.now (fun _ => rfl) m.beside
theorem Marked.scan : t.scan = s.scan := of_bare State.scan (fun _ => rfl) m.beside
theorem Marked.cfg : t.store.cfg = s.store.cfg := of_bare (fun x => x.store.cfg) (fun _ => rfl) m.beside
theorem Marked.pump : t.man.pump = s.man.pump := of_bare (fun x => x.man.pump) (fun _ => rfl) m.beside
theorem Marked.phase : t.lev.phase = s.lev.phase := of_bare (fun x => x.lev.phase) (fun _ => rfl) m.beside
theorem Marked.sub : t.lev.sub = s.lev.sub := of_bare (fun x => x.lev.sub) (fun _ => rfl) m.beside
theorem Marked.presentJacks : presentJacks t = presentJacks s := of_bare Machine.presentJacks (fun _ => rfl) m.beside
theorem Marked.jackPresent (j : Jack) : t.jackPresent j = s.jackPresent j :=
  of_bare (fun x => x.jackPresent j) (fun _ => rfl) m.beside
theorem Marked.isRunning : isRunning t .level = isRunning s .level :=
  of_bare (fun x => Machine.isRunning x .level) (fun _ => rfl) m.beside
theorem Marked.commands : commands t .level = commands s .level :=
  of_bare (fun x => Machine.commands x .level) (fun _ => rfl) m.beside
theorem Marked.contact (j : Jack) : (jackOf t j).contact = (jackOf s j).contact :=
  (congrArg JackRec.contact (m.sensed j) :)
theorem Marked.stroke (j : Jack) : (jackOf t j).stroke = (jackOf s j).stroke :=
  (congrArg JackRec.stroke (m.sensed j) :)

theorem Marked.allGround : allGround t = allGround s := by
  simp only [Machine.allGround, m.presentJacks, m.contact]

theorem Marked.stopped {u : State} {w : Term} (h : t.Stopped u .level w) : s.Stopped u .level w :=
  stopped_of_same m.now m.cfg (congrArg (fun p : PerCh ChanRec => p.get .level) m.chans) h

end

theorem Marked.refl (s : State) : Marked s s := ⟨rfl, fun _ => rfl⟩

theorem Marked.trans {s t u : State} (h : Marked s t) (k : Marked t u) : Marked s u :=
  ⟨k.beside.trans h.beside, fun j => (k.sensed j).trans (h.sensed j)⟩

theorem Marked.of_cells {s t : State} (beside : bare t = bare s) (jacks : ∀ j, jackOf t j = jackOf s j) : Marked s t :=
  ⟨beside, fun j => by rw [jacks]⟩

section
variable {s : State} (run : isRunning s .level = true) (holds : s.man.pump.holder = some .level)
include run holds

theorem obeyed : commands s .level = true := by simp [commands, holds, run]

/-- With the direction valve away from RETRACT every present jack's valve opens on command (R44, R46). -/
theorem opens_iff (free : s.man.dirValve ≠ .retract) (j : Jack) : opens s j = s.jackPresent j := by
  simp [opens, obeyed run holds, free]

/-- The engine turns its pump off (R44, R50). -/
theorem levelPumpOff_spec :
    (levelPumpOff s).man.pump.on = false ∧ levelPumpOff s = { s with
      lev := { s.lev with stall := none },
      man := { s.man with pump := { (levelPumpOff s).man.pump with holder := s.man.pump.holder, dir := s.man.pump.dir },
                          deadhead := (levelPumpOff s).man.deadhead } } := by
  have e : levelPumpOff s = modLev (fun l => { l with stall := none }) (pumpStop false s) := by
    unfold levelPumpOff pumpOffCmd
    rw [if_pos (obeyed run holds)]
  obtain ⟨off, holder, dir⟩ := pumpStop_pump false s
  rw [e, ← holder, ← dir]
  refine ⟨off, ?_⟩
  conv_lhs => rw [pumpStop_frame]
  rfl

end

/-! ### Sensor loss and the settle step (R70, R82) -/

/-- AUTO_LEVEL or STABILISE with the gradient INVALID. -/
def Lossy (s : State) : Prop :=
  s.scan.grad.valid = false ∧ ((chanOf s .level).op = some .autoLevel ∨ (chanOf s .level).op = some .stabilise)

/-- The settle step has begun. -/
def SettleBegun (s u : State) : Prop :=
  u.lev.sub = .settling ∧ u.lev.settleSince = s.now ∧ u.lev.ring = [] ∧ u.man.pump.on = false ∧ u.chans = s.chans

/-- The run has ended SENSOR with the pump off. -/
def SensorLost (s u : State) : Prop :=
  s.Stopped u .level (.abnormal ⟨.sensor, .none⟩) ∧ u.lev.phase = .none ∧ u.man.pump.on = false

/-- Sensors fail under AUTO_LEVEL or STABILISE: every jack valve closes, then the run ends (R82). -/
theorem levelSensorLoss_spec {s : State} (run : isRunning s .level = true) (holds : s.man.pump.holder = some .level)
    (op : (chanOf s .level).op = some .autoLevel ∨ (chanOf s .level).op = some .stabilise) (w : Subject) :
    s.Stopped (levelSensorLoss w s) .level (.abnormal ⟨.sensor, w⟩) ∧ (levelSensorLoss w s).lev.phase = .none ∧
      (levelSensorLoss w s).man.pump.on = false ∧ (∀ j, valveOpen (levelSensorLoss w s) j = false) ∧
      ∀ j, jackOf (levelSensorLoss w s) j = (jackOf s j).off := by
  have runs : runs s .level .autoLevel = true ∨ runs s .level .stabilise = true := by
    have state := (isRunning_iff s .level).1 run
    simpa [Machine.runs, state] using op
  have e : levelSensorLoss w s = fail .level .sensor w (closeJacksCmd (openJacks s) s) := if_pos runs
  obtain ⟨beside, cells⟩ := closeJacksCmd_cells (l := openJacks s) (nodup_allJacks.filter _) (obeyed run holds)
  have m : Marked s (closeJacksCmd (openJacks s) s) := .of_cells beside fun j => jackOf_of_cell (cells j)
  have run' := m.isRunning.trans run
  rw [e]
  refine ⟨m.stopped (stopped_terminate _ run'), (terminate_drives _ run').2.2 rfl,
    (terminate_pump _ run' ((congrArg Pump.holder m.pump).trans holds)).1, fun j => ?_, fun j => ?_⟩
  · rw [fail, valveOpen_terminate_level run' _ (by simp), valveOpen_of_cell (cells j)]
    simp [mem_openJacks]
  · rw [fail, jackOf_terminate_level run', jackOf_of_cell (cells j)]

/-- A settle step that is entered with the pump off: it begins, or the run is lost (R70, R82). -/
theorem startSettle_spec {s z : State} (chans : z.chans = s.chans) (now : z.now = s.now) (scan : z.scan = s.scan)
    (run : isRunning s .level = true) (holds : z.man.pump.holder = some .level) (off : z.man.pump.on = false) :
    (¬ Lossy s → SettleBegun s (startSettle z) ∧ (startSettle z).lev.phase = z.lev.phase ∧
      (∀ j, valveOpen (startSettle z) j = valveOpen z j) ∧ ∀ j, jackOf (startSettle z) j = jackOf z j) ∧
    (Lossy s → SensorLost s (startSettle z) ∧ (∀ j, valveOpen (startSettle z) j = false) ∧
      ∀ j, jackOf (startSettle z) j = (jackOf z j).off) := by
  have chan : chanOf z .level = chanOf s .level := congrArg (fun p : PerCh ChanRec => p.get .level) chans
  have run' : isRunning z .level = true := by rwa [isRunning, chan]
  unfold startSettle
  extract_lets s1
  have begun : SettleBegun s s1 := ⟨rfl, now, rfl, off, chans⟩
  refine ⟨fun sound => ?_, fun lossy => ?_⟩
  · have same : (if z.scan.grad.valid = true then s1 else levelSensorLoss .none s1) = s1 := by
      split
      · rfl
      next invalid =>
        refine if_neg fun h => sound ⟨by rw [← scan]; simpa using invalid, ?_⟩
        rw [← chan]
        have ops : ∀ o, runs s1 .level o = true → (chanOf z .level).op = some o := fun o h =>
          eq_of_beq (Bool.and_eq_true_iff.1 h).2
        exact h.imp (ops .autoLevel) (ops .stabilise)
    rw [same]
    exact ⟨begun, rfl, fun _ => rfl, fun _ => rfl⟩
  · obtain ⟨invalid, op⟩ := lossy
    rw [← chan] at op
    obtain ⟨stopped, phase, off', valves, jacks⟩ := levelSensorLoss_spec (s := s1) run' holds op .none
    have stopped' : z.Stopped (levelSensorLoss .none s1) .level (.abnormal ⟨.sensor, .none⟩) := stopped
    rw [if_neg (by simp [scan, invalid])]
    refine ⟨⟨?_, phase, off'⟩, valves, jacks⟩
    simpa only [State.Stopped, chan, now, stopInterval] using stopped'

/-- A settle step that is entered as the pump goes off. -/
theorem settle_afterPump {s t : State} (m : Marked s t) (run : isRunning s .level = true)
    (holds : s.man.pump.holder = some .level) (f : Levelling → Levelling) :
    (¬ Lossy s → SettleBegun s (startSettle (modLev f (levelPumpOff t))) ∧
      (startSettle (modLev f (levelPumpOff t))).lev.phase = (f (levelPumpOff t).lev).phase ∧
      (∀ j, valveOpen (startSettle (modLev f (levelPumpOff t))) j = valveOpen t j)) ∧
    (Lossy s → SensorLost s (startSettle (modLev f (levelPumpOff t))) ∧
      ∀ j, valveOpen (startSettle (modLev f (levelPumpOff t))) j = false) := by
  obtain ⟨off, frame⟩ := levelPumpOff_spec (m.isRunning.trans run) ((congrArg Pump.holder m.pump).trans holds)
  have holder : (levelPumpOff t).man.pump.holder = some .level := by
    rw [frame]
    exact (congrArg Pump.holder m.pump).trans holds
  have valves : (levelPumpOff t).man.jackValves = t.man.jackValves := by rw [frame]
  obtain ⟨sound, lossy⟩ := startSettle_spec (s := s) (z := modLev f (levelPumpOff t))
    (by rw [frame]; exact m.chans) (by rw [frame]; exact m.now) (by rw [frame]; exact m.scan) run holder off
  refine ⟨fun h => ?_, fun h => ?_⟩
  · obtain ⟨begun, phase, same, -⟩ := sound h
    refine ⟨begun, phase, fun j => (same j).trans ?_⟩
    simp only [valveOpen, modLev_man, valves]
  · obtain ⟨lost, closed, -⟩ := lossy h
    exact ⟨lost, closed⟩

/-! ### A jack in AIR at its max stroke (R69) -/

def Maxed (s : State) (j : Jack) : Prop := (jackOf s j).contact = .air ∧ s.store.cfg.maxStroke j ≤ (jackOf s j).stroke

/-- The run has ended NO_GROUND, naming a jack whose valve is open in AIR at its max stroke. -/
def NoGround (s u : State) : Prop :=
  ∃ k, valveOpen u k = true ∧ Maxed s k ∧ s.Stopped u .level (.abnormal ⟨.noGround, .jacks [k]⟩)

theorem maxed_of_marked {s t : State} (m : Marked s t) {j : Jack} : Maxed t j ↔ Maxed s j := by
  simp only [Maxed, m.contact, m.stroke, m.cfg]

theorem maxedInAir_some {s : State} {k : Jack} (h : maxedInAir s = some k) :
    s.jackPresent k = true ∧ valveOpen s k = true ∧ Maxed s k := by
  have mem := List.mem_of_find?_eq_some h
  have test := List.find?_some h
  simp only [Bool.and_eq_true, beq_iff_eq, decide_eq_true_eq] at test
  exact ⟨(mem_presentJacks s k).1 mem, test.1.1, test.1.2, test.2⟩

theorem maxedInAir_none {s : State} (h : maxedInAir s = none) {j : Jack} (here : s.jackPresent j = true)
    (opened : valveOpen s j = true) : ¬ Maxed s j := fun ⟨air, full⟩ =>
  List.find?_eq_none.1 h j ((mem_presentJacks s j).2 here) (by simp [opened, air, full])

theorem noGround_of_maxed {s t : State} (m : Marked s t) (run : isRunning s .level = true) {k : Jack}
    (h : maxedInAir t = some k) :
    NoGround s (fail .level .noGround (.jacks [k]) t) ∧
      ∀ j, valveOpen (fail .level .noGround (.jacks [k]) t) j = valveOpen t j := by
  have run' := m.isRunning.trans run
  obtain ⟨-, opened, maxed⟩ := maxedInAir_some h
  have valves : ∀ j, valveOpen (fail .level .noGround (.jacks [k]) t) j = valveOpen t j :=
    valveOpen_terminate_level run' _ (by simp)
  exact ⟨⟨k, (valves k).trans opened, (maxed_of_marked m).1 maxed, m.stopped (stopped_terminate _ run')⟩, valves⟩

end Sys2Proof.Machine
end

section
/-! PROOF. GROUND, the reground step of MEASURE and LIFT on a change of a jack (O60). -/

namespace Sys2Proof.Machine

/-- Every present jack is in GROUND. -/
def Grounded (s : State) : Prop := ∀ j, s.jackPresent j = true → (jackOf s j).contact = .ground

/-- A present jack whose valve is open. -/
def Opened (s : State) (j : Jack) : Prop := s.jackPresent j = true ∧ valveOpen s j = true

/-! ### GROUND (R68, R69) -/

/-- A jack's cell once its valve has closed on reaching GROUND. -/
def groundedCell (s : State) (mark : Bool) (c : Cell) : Cell :=
  if c.valve && c.jack.contact == .ground then
    ⟨{ c.jack with closedHere := c.jack.closedHere || mark }, c.valve && !commands s .level⟩
  else c

theorem closeGrounded_cells (mark : Bool) (s : State) :
    bare (closeGrounded mark s) = bare s ∧
      ∀ j, cell (closeGrounded mark s) j = if s.jackPresent j = true then groundedCell s mark (cell s j) else cell s j := by
  obtain ⟨beside, cells⟩ := (((jackWise_close.andThen (jackWise_mark fun _ q =>
    { q with closedHere := q.closedHere || mark })).when (fun _ _ c => c.valve && c.jack.contact == .ground)
    (fun t j => valveOpen t j && (jackOf t j).contact == .ground) fun _ _ => rfl).foldl (nodup_presentJacks s) s)
  refine ⟨beside, fun j => (cells j).trans ?_⟩
  simp only [mem_presentJacks]
  rfl

theorem groundedCell_sensed (s : State) (mark : Bool) (c : Cell) : (groundedCell s mark c).jack.sensed = c.jack.sensed := by
  unfold groundedCell
  split <;> rfl

theorem closeGrounded_marked (mark : Bool) (s : State) : Marked s (closeGrounded mark s) := by
  obtain ⟨beside, cells⟩ := closeGrounded_cells mark s
  refine ⟨beside, fun j => ?_⟩
  rw [jackOf_of_cell (cells j)]
  split
  · exact groundedCell_sensed s mark _
  · rfl

theorem closeGrounded_valve (mark : Bool) {s : State} (h : commands s .level = true) (j : Jack) :
    valveOpen (closeGrounded mark s) j = (valveOpen s j && !(s.jackPresent j && (jackOf s j).contact == .ground)) := by
  rw [valveOpen_of_cell ((closeGrounded_cells mark s).2 j)]
  cases here : s.jackPresent j <;> cases opened : valveOpen s j <;> cases down : (jackOf s j).contact == .ground <;>
    simp [groundedCell, cell, opened, down, h]

/-- A jack that is not in GROUND keeps its record. -/
theorem closeGrounded_jack (mark : Bool) (s : State) {j : Jack} (up : (jackOf s j).contact ≠ .ground) :
    jackOf (closeGrounded mark s) j = jackOf s j := by
  rw [jackOf_of_cell ((closeGrounded_cells mark s).2 j)]
  split
  · simp [groundedCell, cell, up]
  · rfl

/-- The jacks that the engine closed in GROUND and that have returned to AIR. -/
def returned (s : State) : List Jack :=
  (presentJacks s).filter (fun j => (jackOf s j).closedHere && !valveOpen s j && (jackOf s j).contact == .air)

/-- The valves in GROUND have closed and opened again by the contact states. -/
def regrounding (s : State) : State := openJacksCmd (returned (closeGrounded true s)) (closeGrounded true s)

theorem groundReact_eq (s : State) :
    groundReact s = match maxedInAir (regrounding s) with
      | some j => fail .level .noGround (.jacks [j]) (regrounding s)
      | none => if allGround (regrounding s) ∧ openJacks (regrounding s) = [] then enterSettle (levelPumpOff (regrounding s))
        else regrounding s := rfl

theorem regrounding_cells (s : State) :
    bare (regrounding s) = bare (closeGrounded true s) ∧ ∀ j, cell (regrounding s) j =
      ⟨jackOf (closeGrounded true s) j, valveOpen (closeGrounded true s) j ||
        (decide (j ∈ returned (closeGrounded true s)) && opens (closeGrounded true s) j)⟩ :=
  openJacksCmd_cells ((nodup_presentJacks _).filter _) _

theorem regrounding_marked (s : State) : Marked s (regrounding s) := by
  obtain ⟨beside, cells⟩ := regrounding_cells s
  exact (closeGrounded_marked true s).trans (.of_cells beside fun j => jackOf_of_cell (cells j))

section
variable {s : State} (run : isRunning s .level = true) (holds : s.man.pump.holder = some .level)
include run holds

theorem regrounding_valve (free : s.man.dirValve ≠ .retract) (j : Jack) :
    (valveOpen (regrounding s) j = true ↔
      (valveOpen s j = true ∧ ¬ (s.jackPresent j = true ∧ (jackOf s j).contact = .ground)) ∨
      (s.jackPresent j = true ∧ (jackOf s j).closedHere = true ∧ (jackOf s j).contact = .air)) := by
  have m := closeGrounded_marked true s
  have obeys := obeyed run holds
  have opens' : opens (closeGrounded true s) j = s.jackPresent j :=
    (opens_of_bare m.beside j).trans (opens_iff run holds free j)
  rw [valveOpen_of_cell ((regrounding_cells s).2 j)]
  simp only [returned, closeGrounded_valve true obeys, opens', Bool.or_eq_true, Bool.and_eq_true, decide_eq_true_eq,
    List.mem_filter, m.presentJacks, mem_presentJacks, m.contact, beq_iff_eq, Bool.not_eq_true', Bool.and_eq_false_imp]
  by_cases air : (jackOf s j).contact = .air
  · rw [closeGrounded_jack true s (by simp [air])]
    cases valveOpen s j with
    | false => simp [air, and_comm]
    | true => simp [air]
  · simp [air]

/-- What GROUND does on a change of a jack (R68, R69). -/
theorem groundReact_spec (free : s.man.dirValve ≠ .retract) (phase : s.lev.phase = .ground) :
    (∀ j, Opened s j → (jackOf s j).contact = .ground → valveOpen (groundReact s) j = false) ∧
    (∀ j, s.jackPresent j = true → (jackOf s j).closedHere = true → (jackOf s j).contact = .air →
      valveOpen (groundReact s) j = true) ∧
    ((∃ j, Opened s j ∧ Maxed s j) → NoGround s (groundReact s)) ∧
    (Grounded s → (∀ j, valveOpen s j = true → s.jackPresent j = true) →
      (¬ Lossy s → (groundReact s).lev.phase = .settle ∧ SettleBegun s (groundReact s)) ∧
        (Lossy s → SensorLost s (groundReact s))) ∧
    (¬ Grounded s → (∀ j, s.jackPresent j = true → ¬ Maxed s j) →
      (groundReact s).lev.phase = .ground ∧ (groundReact s).chans = s.chans ∧ (groundReact s).man.pump = s.man.pump) := by
  have m := regrounding_marked s
  have valve := regrounding_valve run holds free
  have shut : ∀ j, Opened s j → (jackOf s j).contact = .ground → valveOpen (regrounding s) j = false := fun j o down => by
    rw [← Bool.not_eq_true, valve]
    simp [o.1, down]
  have again : ∀ j, s.jackPresent j = true → (jackOf s j).closedHere = true → (jackOf s j).contact = .air →
      valveOpen (regrounding s) j = true := fun j here closed air => (valve j).2 (.inr ⟨here, closed, air⟩)
  rw [groundReact_eq]
  generalize regrounding s = t at m valve shut again
  have ground : allGround t = true ↔ Grounded s := by rw [m.allGround, allGround_iff]; rfl
  cases found : maxedInAir t with
  | some k =>
    obtain ⟨noGround, same⟩ := noGround_of_maxed m run found
    obtain ⟨here, -, maxed⟩ := maxedInAir_some found
    have here' : s.jackPresent k = true := (m.jackPresent k).symm.trans here
    have maxed' := (maxed_of_marked m).1 maxed
    refine ⟨fun j o down => (same j).trans (shut j o down), fun j here closed air => (same j).trans (again j here closed air),
      fun _ => noGround, fun down => ?_, fun _ calm => absurd maxed' (calm k here')⟩
    exact absurd ((down k here').symm.trans maxed'.1) (by simp)
  | none =>
    have calm : ∀ j, Opened s j → ¬ Maxed s j := fun j o maxed => by
      have opened : valveOpen t j = true :=
        (valve j).2 (.inl ⟨o.2, fun h => by have air := maxed.1; rw [h.2] at air; exact absurd air (by simp)⟩)
      exact maxedInAir_none found ((m.jackPresent j).trans o.1) opened ((maxed_of_marked m).2 maxed)
    by_cases done : allGround t = true ∧ openJacks t = []
    · have down := ground.1 done.1
      have shutAll := (openJacks_eq_nil t).1 done.2
      obtain ⟨sound, lossy⟩ := settle_afterPump m run holds fun l => { l with phase := .settle, phaseSince := (levelPumpOff t).now }
      have valves : ∀ j, valveOpen (enterSettle (levelPumpOff t)) j = false := fun j => by
        by_cases h : Lossy s
        · exact (lossy h).2 j
        · exact ((sound h).2.2 j).trans (shutAll j)
      rw [if_pos done]
      refine ⟨fun j _ _ => valves j, fun j here closed air => ?_, fun ⟨j, o, maxed⟩ => absurd maxed (calm j o),
        fun _ _ => ⟨fun h => ⟨(sound h).2.1, (sound h).1⟩, fun h => (lossy h).1⟩, fun up => absurd down up⟩
      exact absurd ((down j here).symm.trans air) (by simp)
    · rw [if_neg done]
      refine ⟨shut, again, fun ⟨j, o, maxed⟩ => absurd maxed (calm j o), fun down owned => absurd ⟨ground.2 down, ?_⟩ done,
        fun _ _ => ⟨m.phase.trans phase, m.chans, m.pump⟩⟩
      refine (openJacks_eq_nil t).2 fun j => Bool.eq_false_of_not_eq_true fun opened => ?_
      obtain ⟨was, up⟩ | ⟨here, -, air⟩ := (valve j).1 opened
      · exact up ⟨owned j was, down j (owned j was)⟩
      · exact absurd ((down j here).symm.trans air) (by simp)
end

end Sys2Proof.Machine
end

section
/-! PROOF. The reground step of MEASURE and LIFT on a change of a jack (O60). -/

namespace Sys2Proof.Machine

section
variable {s : State} (run : isRunning s .level = true) (holds : s.man.pump.holder = some .level)
include run holds

/-- What the reground step of MEASURE does on a change of a jack (R69, R75). -/
theorem regroundReact_spec (phase : s.lev.phase = .measure) (sub : s.lev.sub = .reground) :
    (∀ j, Opened s j → (jackOf s j).contact = .ground → valveOpen (regroundReact s) j = false) ∧
    (∀ j, valveOpen s j = false → valveOpen (regroundReact s) j = false) ∧
    ((∃ j, Opened s j ∧ Maxed s j) → NoGround s (regroundReact s)) ∧
    (Grounded s →
      (¬ Lossy s → (regroundReact s).lev.phase = .measure ∧ SettleBegun s (regroundReact s)) ∧
        (Lossy s → SensorLost s (regroundReact s))) ∧
    (¬ Grounded s → (∀ j, Opened s j → ¬ Maxed s j) →
      (regroundReact s).lev.phase = .measure ∧ (regroundReact s).lev.sub = .reground ∧
        (regroundReact s).chans = s.chans ∧ (regroundReact s).man.pump = s.man.pump) := by
  have m := closeGrounded_marked false s
  have valve : ∀ j, valveOpen (closeGrounded false s) j = true ↔
      valveOpen s j = true ∧ ¬ (s.jackPresent j = true ∧ (jackOf s j).contact = .ground) := fun j => by
    rw [closeGrounded_valve false (obeyed run holds), Bool.and_eq_true, Bool.not_eq_true', ← Bool.not_eq_true, Bool.and_eq_true,
      beq_iff_eq]
  have shut : ∀ j, Opened s j → (jackOf s j).contact = .ground → valveOpen (closeGrounded false s) j = false :=
    fun j o down => Bool.eq_false_of_not_eq_true fun h => ((valve j).1 h).2 ⟨o.1, down⟩
  have stays : ∀ j, valveOpen s j = false → valveOpen (closeGrounded false s) j = false :=
    fun j off => Bool.eq_false_of_not_eq_true fun h => absurd ((valve j).1 h).1 (by simp [off])
  have e : regroundReact s = match maxedInAir (closeGrounded false s) with
    | some j => fail .level .noGround (.jacks [j]) (closeGrounded false s)
    | none => if allGround (closeGrounded false s) = true then startSettle (levelPumpOff (closeGrounded false s))
      else closeGrounded false s := rfl
  rw [e]
  generalize closeGrounded false s = t at m valve shut stays
  have ground : allGround t = true ↔ Grounded s := by rw [m.allGround, allGround_iff]; rfl
  cases found : maxedInAir t with
  | some k =>
    obtain ⟨noGround, same⟩ := noGround_of_maxed m run found
    obtain ⟨here, opened, maxed⟩ := maxedInAir_some found
    have here' : s.jackPresent k = true := (m.jackPresent k).symm.trans here
    have maxed' := (maxed_of_marked m).1 maxed
    refine ⟨fun j o down => (same j).trans (shut j o down), fun j off => (same j).trans (stays j off), fun _ => noGround,
      fun down => ?_, fun _ calm => absurd maxed' (calm k ⟨here', ((valve k).1 opened).1⟩)⟩
    exact absurd ((down k here').symm.trans maxed'.1) (by simp)
  | none =>
    have calm : ∀ j, Opened s j → ¬ Maxed s j := fun j o maxed => by
      have opened : valveOpen t j = true :=
        (valve j).2 ⟨o.2, fun h => by have air := maxed.1; rw [h.2] at air; exact absurd air (by simp)⟩
      exact maxedInAir_none found ((m.jackPresent j).trans o.1) opened ((maxed_of_marked m).2 maxed)
    by_cases done : allGround t = true
    · obtain ⟨sound, lossy⟩ := settle_afterPump m run holds id
      have valves : ∀ j, valveOpen t j = false → valveOpen (startSettle (levelPumpOff t)) j = false := fun j off => by
        by_cases h : Lossy s
        · exact (lossy h).2 j
        · exact ((sound h).2.2 j).trans off
      have kept : (levelPumpOff t).lev.phase = .measure := by
        obtain ⟨-, frame⟩ := levelPumpOff_spec (m.isRunning.trans run) ((congrArg Pump.holder m.pump).trans holds)
        rw [frame]
        exact m.phase.trans phase
      rw [if_pos done]
      exact ⟨fun j o down => valves j (shut j o down), fun j off => valves j (stays j off),
        fun ⟨j, o, maxed⟩ => absurd maxed (calm j o),
        fun _ => ⟨fun h => ⟨(sound h).2.1.trans kept, (sound h).1⟩, fun h => (lossy h).1⟩, fun up => absurd (ground.1 done) up⟩
    · rw [if_neg done]
      exact ⟨shut, stays, fun ⟨j, o, maxed⟩ => absurd maxed (calm j o), fun down => absurd (ground.2 down) done,
        fun _ _ => ⟨m.phase.trans phase, m.sub.trans sub, m.chans, m.pump⟩⟩

end

/-! ### LIFT (R72) -/

/-- The jack is short of its target by more than its coast. -/
def Below (s : State) (j : Jack) : Prop :=
  ∃ t, (jackOf s j).target = some t ∧ (jackOf s j).stroke + s.store.cfg.jackCoast j < t

theorem belowTarget_iff (s : State) (j : Jack) : belowTarget s j = true ↔ Below s j := by
  unfold belowTarget Below
  split
  next h => simp [h]
  next h => simp [h]

/-- Whether a jack with the record `q` is short of its target, by the coasts that are stored. -/
def shortOf (s : State) (j : Jack) (q : JackRec) : Bool :=
  match q.target with
  | some t => q.stroke + s.store.cfg.jackCoast j < t
  | none => false

/-- A jack's cell in LIFT: an open valve closes unless the jack is below its target, and the close stroke is recorded. -/
def liftedCell (s : State) (j : Jack) (c : Cell) : Cell :=
  if c.valve && !shortOf s j c.jack then ⟨{ c.jack with close := some c.jack.stroke }, c.valve && !commands s .level⟩ else c

/-- The valves of LIFT have closed by the strokes. -/
def lifting (s : State) : State :=
  (presentJacks s).foldl (fun t j =>
    if valveOpen t j && !belowTarget t j then
      closeJack j t |> modJack j (fun q => { q with close := some q.stroke })
    else t) s

theorem liftReact_eq (s : State) :
    liftReact s = if openJacks (lifting s) = [] then enterMeasure (clearLifts (levelPumpOff (lifting s))) else lifting s := rfl

theorem lifting_cells (s : State) :
    bare (lifting s) = bare s ∧
      ∀ j, cell (lifting s) j = if s.jackPresent j = true then liftedCell s j (cell s j) else cell s j := by
  obtain ⟨beside, cells⟩ := ((jackWise_close.andThen (jackWise_mark fun _ q => { q with close := some q.stroke })).when
    (fun b j c => c.valve && !shortOf b j c.jack) (fun t j => valveOpen t j && !belowTarget t j) fun _ _ => rfl).foldl
    (nodup_presentJacks s) s
  refine ⟨beside, fun j => (cells j).trans ?_⟩
  simp only [mem_presentJacks]
  rfl

theorem liftedCell_jack (s : State) (j : Jack) (c : Cell) :
    (liftedCell s j c).jack = { c.jack with
      close := if c.valve = true ∧ shortOf s j c.jack = false then some c.jack.stroke else c.jack.close } := by
  unfold liftedCell
  cases c.valve <;> cases shortOf s j c.jack <;> rfl

theorem lifting_marked (s : State) : Marked s (lifting s) := by
  obtain ⟨beside, cells⟩ := lifting_cells s
  refine ⟨beside, fun j => ?_⟩
  rw [jackOf_of_cell (cells j)]
  split
  · rw [liftedCell_jack]
    rfl
  · rfl

theorem lifting_close {s : State} {j : Jack} (o : Opened s j) :
    (Below s j → (jackOf (lifting s) j).close = (jackOf s j).close) ∧
      (¬ Below s j → (jackOf (lifting s) j).close = some (jackOf s j).stroke) := by
  have short : shortOf s j (jackOf s j) = belowTarget s j := rfl
  rw [jackOf_of_cell ((lifting_cells s).2 j), if_pos o.1, liftedCell_jack, ← belowTarget_iff]
  cases low : belowTarget s j <;> simp [cell, o.2, short, low]

theorem lifting_valve {s : State} (obeys : commands s .level = true) (j : Jack) :
    valveOpen (lifting s) j = true ↔ valveOpen s j = true ∧ (s.jackPresent j = false ∨ Below s j) := by
  have short : shortOf s j (jackOf s j) = belowTarget s j := rfl
  rw [valveOpen_of_cell ((lifting_cells s).2 j), ← belowTarget_iff]
  cases here : s.jackPresent j <;> cases opened : valveOpen s j <;> cases low : belowTarget s j <;>
    simp [liftedCell, cell, opened, short, low, obeys]

theorem clearLifts_spec (s : State) :
    clearLifts s = { s with lev := { s.lev with jacks := (clearLifts s).lev.jacks } } ∧
      ∀ j, jackOf (clearLifts s) j = { jackOf s j with lift := none, target := none } := by
  refine ⟨marks_frame _ _ s, fun j => ?_⟩
  exact (jackOf_marks (fun _ q => { q with lift := none, target := none }) nodup_allJacks s j).trans (if_pos (mem_allJacks j))

/-- The valves after commands to open and a pump on. -/
theorem valveOpen_openAndPump {l : List Jack} (nodup : l.Nodup) (s : State) (j : Jack) :
    valveOpen (pumpOnCmd .level (openJacksCmd l s)) j = (valveOpen s j || (decide (j ∈ l) && opens s j)) := by
  rw [pumpOnCmd_frame]
  exact valveOpen_of_cell ((openJacksCmd_cells nodup s).2 j)

/-- MEASURE is entered with no jack in AIR: it settles at once (R75). -/
theorem enterMeasure_settles {s : State} (ground : ∀ j, s.jackPresent j = true → (jackOf s j).contact ≠ .air) :
    enterMeasure s = startSettle (modLev (fun l => { l with
      phase := .measure, sub := .reground, phaseSince := s.now, stepSince := s.now, stall := none }) s) := by
  have none : jacksWith s (· == .air) = [] := List.eq_nil_iff_forall_not_mem.2 fun j h => by
    rw [mem_jacksWith, beq_iff_eq] at h
    exact ground j h.1 h.2
  simp [enterMeasure, none]

/-- MEASURE is entered with jacks in AIR: they are brought to GROUND again first (R75). -/
theorem enterMeasure_regrounds {s : State} (lifted : ∃ j, s.jackPresent j = true ∧ (jackOf s j).contact = .air) :
    (enterMeasure s).chans = s.chans ∧ (enterMeasure s).lev.phase = .measure ∧ (enterMeasure s).lev.sub = .reground ∧
      (enterMeasure s).lev.stepSince = s.now ∧
      (∀ j, (jackOf (enterMeasure s) j).lift = (jackOf s j).lift ∧ (jackOf (enterMeasure s) j).target = (jackOf s j).target) ∧
      ∀ j, s.jackPresent j = true → (jackOf s j).contact = .air → opens s j = true → valveOpen (enterMeasure s) j = true := by
  obtain ⟨k, here, up⟩ := lifted
  unfold enterMeasure
  extract_lets air s1 s2
  have mem : ∀ j, j ∈ air ↔ s.jackPresent j = true ∧ (jackOf s j).contact = .air := fun j => by
    rw [mem_jacksWith, beq_iff_eq]
  have nodup : air.Nodup := nodup_jacksWith s _
  have some : air ≠ [] := List.ne_nil_of_mem ((mem k).2 ⟨here, up⟩)
  have marked : s2 = { s1 with lev := { s1.lev with jacks := s2.lev.jacks } } := marks_frame _ _ s1
  have jacks : ∀ j, jackOf s2 j = if j ∈ air then { jackOf s1 j with close := none } else jackOf s1 j :=
    jackOf_marks _ nodup s1
  rw [if_pos some]
  have valves := valveOpen_openAndPump nodup s2
  rw [openAndPump_frame] at valves ⊢
  clear_value air s2
  have parts : s2.chans = s.chans ∧ s2.lev.phase = .measure ∧ s2.lev.sub = .reground ∧ s2.lev.stepSince = s.now := by
    rw [marked]
    exact ⟨rfl, rfl, rfl, rfl⟩
  obtain ⟨chans, phase, sub, since⟩ := parts
  refine ⟨chans, phase, sub, since, fun j => ?_, fun j here up opens' => ?_⟩
  · have same : (jackOf s2 j).lift = (jackOf s j).lift ∧ (jackOf s2 j).target = (jackOf s j).target := by
      rw [jacks]
      split <;> exact ⟨rfl, rfl⟩
    exact same
  · have obeys : opens s2 j = true := by
      rw [marked]
      exact opens'
    rw [valves]
    simp [(mem j).2 ⟨here, up⟩, obeys]

section
variable {s : State} (run : isRunning s .level = true) (holds : s.man.pump.holder = some .level)
include run holds

/-- In LIFT some valve stays open (R72). -/
def LiftLasts (s : State) : Prop := ∃ j, valveOpen s j = true ∧ (s.jackPresent j = false ∨ Below s j)

theorem lifting_shut : openJacks (lifting s) = [] ↔ ¬ LiftLasts s := by
  simp only [openJacks_eq_nil, ← Bool.not_eq_true, lifting_valve (obeyed run holds), LiftLasts, not_exists]

/-- LIFT goes on: the valves close one by one (R72). -/
theorem liftReact_lasts (phase : s.lev.phase = .lift) (lasts : LiftLasts s) :
    (liftReact s).chans = s.chans ∧ (liftReact s).lev.phase = .lift ∧ (liftReact s).man.pump = s.man.pump ∧
      ∀ j, Opened s j →
        (Below s j → valveOpen (liftReact s) j = true ∧ (jackOf (liftReact s) j).close = (jackOf s j).close) ∧
        (¬ Below s j → valveOpen (liftReact s) j = false ∧ (jackOf (liftReact s) j).close = some (jackOf s j).stroke) := by
  have m := lifting_marked s
  have valve := lifting_valve (obeyed run holds)
  rw [liftReact_eq, if_neg fun h => (lifting_shut run holds).1 h lasts]
  refine ⟨m.chans, m.phase.trans phase, m.pump, fun j o => ⟨fun low => ⟨(valve j).2 ⟨o.2, .inr low⟩, (lifting_close o).1 low⟩,
    fun high => ⟨Bool.eq_false_of_not_eq_true fun h => ?_, (lifting_close o).2 high⟩⟩⟩
  obtain ⟨-, gone | low⟩ := (valve j).1 h
  · exact absurd (o.1.symm.trans gone) (by simp)
  · exact high low

/-- All of LIFT's valves are closed: MEASURE is entered (R72, R75). -/
theorem liftReact_ends (free : s.man.dirValve ≠ .retract) (done : ¬ LiftLasts s) :
    (∀ j, (jackOf (liftReact s) j).lift = none ∧ (jackOf (liftReact s) j).target = none) ∧
      ((∀ j, s.jackPresent j = true → (jackOf s j).contact ≠ .air) →
        (∀ j, valveOpen (liftReact s) j = false) ∧ (Lossy s → SensorLost s (liftReact s)) ∧
        (¬ Lossy s → (liftReact s).lev.phase = .measure ∧ SettleBegun s (liftReact s) ∧
          ∀ j, Opened s j → (jackOf (liftReact s) j).close = some (jackOf s j).stroke)) ∧
      ∀ j, s.jackPresent j = true → (jackOf s j).contact = .air →
        (liftReact s).lev.phase = .measure ∧ (liftReact s).chans = s.chans ∧ (liftReact s).lev.sub = .reground ∧
          valveOpen (liftReact s) j = true ∧ (liftReact s).lev.stepSince = s.now := by
  have m := lifting_marked s
  have close := fun j => lifting_close (s := s) (j := j)
  have dir : (lifting s).man.dirValve = s.man.dirValve := of_bare (fun x => x.man.dirValve) (fun _ => rfl) m.beside
  have closed := (lifting_shut run holds).2 done
  rw [liftReact_eq, if_pos closed]
  generalize lifting s = t at m close dir closed
  have run' := m.isRunning.trans run
  have holds' : t.man.pump.holder = some .level := (congrArg Pump.holder m.pump).trans holds
  obtain ⟨off, frame⟩ := levelPumpOff_spec run' holds'
  obtain ⟨cleared, records⟩ := clearLifts_spec (levelPumpOff t)
  generalize clearLifts (levelPumpOff t) = z at cleared records
  have beside : z.chans = t.chans ∧ z.now = t.now ∧ z.scan = t.scan ∧ z.man.jackValves = t.man.jackValves ∧
      (∀ j, z.jackPresent j = t.jackPresent j) ∧ (∀ j, opens z j = opens t j) ∧ z.man.pump.holder = t.man.pump.holder ∧
      z.man.pump.on = false := by
    rw [cleared, frame]
    exact ⟨rfl, rfl, rfl, rfl, fun _ => rfl, fun _ => rfl, rfl, off⟩
  obtain ⟨chans, now, scan, valves, present, opened, holder, off'⟩ := beside
  have same : ∀ j, jackOf z j = { jackOf t j with lift := none, target := none } := fun j => by
    rw [records, frame]
    rfl
  have contact : ∀ j, (jackOf z j).contact = (jackOf s j).contact := fun j => by
    rw [same]
    exact m.contact j
  have here : ∀ j, z.jackPresent j = s.jackPresent j := fun j => (present j).trans (m.jackPresent j)
  by_cases lifted : ∃ j, z.jackPresent j = true ∧ (jackOf z j).contact = .air
  · obtain ⟨chans', phase', sub, since, lifts, valves'⟩ := enterMeasure_regrounds lifted
    refine ⟨fun j => ?_, fun none => ?_, fun j present' air => ?_⟩
    · rw [(lifts j).1, (lifts j).2, same]
      exact ⟨rfl, rfl⟩
    · obtain ⟨j, h, air⟩ := lifted
      exact absurd ((contact j).symm.trans air) (none j ((here j).symm.trans h))
    · refine ⟨phase', chans'.trans (chans.trans m.chans), sub, valves' j ((here j).trans present') ((contact j).trans air) ?_,
        since.trans (now.trans m.now)⟩
      rw [opened, opens_iff run' holds' (by rw [dir]; exact free), m.jackPresent]
      exact present'
  · rw [enterMeasure_settles fun j h air => lifted ⟨j, h, air⟩]
    obtain ⟨sound, lossy⟩ := startSettle_spec (s := s) (z := modLev (fun l => { l with
      phase := .measure, sub := .reground, phaseSince := z.now, stepSince := z.now, stall := none }) z)
      (chans.trans m.chans) (now.trans m.now) (scan.trans m.scan) run (holder.trans holds') off'
    have closed' : ∀ j, valveOpen z j = false := fun j => by
      simp only [valveOpen, valves]
      exact (openJacks_eq_nil t).1 closed j
    refine ⟨fun j => ?_, fun _ => ⟨fun j => ?_, fun h => (lossy h).1, fun h => ?_⟩, fun j present' air => ?_⟩
    · by_cases h : Lossy s
      · rw [(lossy h).2.2 j]
        exact ⟨rfl, rfl⟩
      · rw [(sound h).2.2.2 j]
        exact ⟨(congrArg JackRec.lift (same j) :), (congrArg JackRec.target (same j) :)⟩
    · by_cases h : Lossy s
      · exact (lossy h).2.1 j
      · exact ((sound h).2.2.1 j).trans (closed' j)
    · obtain ⟨begun, phase', -, jacks⟩ := sound h
      refine ⟨phase', begun, fun j o => ?_⟩
      rw [jacks]
      exact (congrArg JackRec.close (same j) :).trans ((close j o).2 fun low => done ⟨j, o.2, .inr low⟩)
    · exact absurd ⟨j, (here j).trans present', (contact j).trans air⟩ lifted
end

end Sys2Proof.Machine
end

section
/-! PROOF. A step of TRIM, STOW and JOG on a change of a jack (O60). -/

namespace Sys2Proof.Machine

/-! ### A step of TRIM (R76) -/

/-- The jack is at its step target. -/
def Reached (s : State) (j : Jack) : Prop := ∃ g, (jackOf s j).stepTarget = some g ∧ g ≤ (jackOf s j).stroke

def reachedBy (q : JackRec) : Bool := q.stepTarget.any (· ≤ q.stroke)

theorem reachedBy_iff (s : State) (j : Jack) : reachedBy (jackOf s j) = true ↔ Reached s j := by
  simp [reachedBy, Reached, Option.any_eq_true]

/-- In the step some valve stays open (R76). -/
def StepLasts (s : State) : Prop := ∃ j, valveOpen s j = true ∧ ¬ (s.jackPresent j = true ∧ Reached s j)

/-- A valve of the step closes at its jack's target. -/
def closeReached (t : State) (j : Jack) : State := if valveOpen t j && reachedBy (jackOf t j) then closeJack j t else t

/-- The valves of the step have closed by the strokes. -/
def stepping (s : State) : State := (presentJacks s).foldl closeReached s

/-- The step of a jack is counted in the plan record, and its target goes. -/
def countStep (t : State) (j : Jack) : State :=
  modPlan (fun p => { p with trim := p.trim.map (fun c => c.set j (c.get j + 1)) }) t
    |> modJack j (fun q => { q with stepTarget := none })

/-- The jacks that have a step target. -/
def stepped (s : State) : List Jack := allJacks.filter (fun j => (jackOf s j).stepTarget.isSome)

theorem trimReact_eq (s : State) :
    trimReact s = if openJacks (stepping s) = [] then
      modLev (fun l => { l with sub := .waiting, trimUntil := s.now + 500 })
        ((stepped (stepping s)).foldl countStep (levelPumpOff (stepping s)))
      else stepping s := by
  have close : ∀ (t : State) (j : Jack), closeReached t j = match (jackOf t j).stepTarget with
      | some g => if valveOpen t j && g ≤ (jackOf t j).stroke then closeJack j t else t
      | none => t := fun t j => by
    unfold closeReached reachedBy
    cases (jackOf t j).stepTarget with
    | none => simp
    | some g => rfl
  have folds : (presentJacks s).foldl closeReached s = (presentJacks s).foldl (fun t j =>
      match (jackOf t j).stepTarget with
      | some g => if valveOpen t j && g ≤ (jackOf t j).stroke then closeJack j t else t
      | none => t) s :=
    congrArg (fun f => (presentJacks s).foldl f s) (funext fun t => funext fun j => close t j)
  unfold stepping
  rw [folds]
  rfl

theorem stepping_lev (s : State) : (stepping s).lev = s.lev :=
  foldl_keeps closeReached State.lev _ (fun t j _ => by
    unfold closeReached
    split
    · rw [closeJack_frame]
    · rfl) s

theorem stepping_cells (s : State) :
    bare (stepping s) = bare s ∧ ∀ j, cell (stepping s) j =
      if s.jackPresent j = true ∧ (valveOpen s j && reachedBy (jackOf s j)) = true then
        ⟨jackOf s j, valveOpen s j && !commands s .level⟩ else cell s j := by
  obtain ⟨beside, cells⟩ := (jackWise_close.when (fun _ _ c => c.valve && reachedBy c.jack)
    (fun t j => valveOpen t j && reachedBy (jackOf t j)) fun _ _ => rfl).foldl (nodup_presentJacks s) s
  refine ⟨beside, fun j => (cells j).trans ?_⟩
  simp only [mem_presentJacks, ite_and]
  rfl

theorem stepping_marked (s : State) : Marked s (stepping s) :=
  .of_cells (stepping_cells s).1 fun j => congrArg (fun l : Levelling => l.jacks.get j) (stepping_lev s)

theorem stepping_valve {s : State} (obeys : commands s .level = true) (j : Jack) :
    valveOpen (stepping s) j = true ↔ valveOpen s j = true ∧ ¬ (s.jackPresent j = true ∧ Reached s j) := by
  rw [valveOpen_of_cell ((stepping_cells s).2 j), ← reachedBy_iff]
  cases s.jackPresent j <;> cases opened : valveOpen s j <;> cases reachedBy (jackOf s j) <;> simp [cell, opened, obeys]

/-- The plan record after steps of several jacks have been counted. -/
theorem counted_plan {l : List Jack} (nodup : l.Nodup) {s : State} {p : PlanRec} {c : PerJack Nat} (plan : s.lev.plan = some p)
    (trim : p.trim = some c) :
    ∃ q n, (l.foldl countStep s).lev.plan = some q ∧ q.trim = some n ∧ ∀ j, n.get j = c.get j + if j ∈ l then 1 else 0 := by
  induction l generalizing s p c with
  | nil => exact ⟨p, c, plan, trim, fun j => by simp⟩
  | cons i l ih =>
    obtain ⟨fresh, rest⟩ := List.nodup_cons.1 nodup
    have counted : (countStep s i).lev.plan = some { p with trim := some (c.set i (c.get i + 1)) } := by
      have e : (countStep s i).lev.plan =
        s.lev.plan.map fun p => { p with trim := p.trim.map (fun c => c.set i (c.get i + 1)) } := rfl
      rw [e, plan, Option.map_some, trim, Option.map_some]
    obtain ⟨q, n, plan', trim', counts⟩ := ih rest counted rfl
    refine ⟨q, n, plan', trim', fun j => ?_⟩
    rw [counts]
    by_cases e : j = i
    · subst e
      simp [fresh]
    · simp [e, PerJack_get_set_ne _ _ _ _ e]

theorem counted_cells {l : List Jack} (nodup : l.Nodup) (s : State) :
    bare (l.foldl countStep s) = bare s ∧ ∀ j, cell (l.foldl countStep s) j =
      if j ∈ l then ⟨{ jackOf s j with stepTarget := none }, valveOpen s j⟩ else cell s j :=
  ((jackWise_note fun j p => { p with trim := p.trim.map (fun c => c.set j (c.get j + 1)) }).andThen
    (jackWise_mark fun _ q => { q with stepTarget := none })).foldl nodup s

section
variable {s : State} (run : isRunning s .level = true) (holds : s.man.pump.holder = some .level)
include run holds

theorem stepping_shut : openJacks (stepping s) = [] ↔ ¬ StepLasts s := by
  simp only [openJacks_eq_nil, ← Bool.not_eq_true, stepping_valve (obeyed run holds), StepLasts, not_exists]

/-- The step goes on: the valves close one by one (R76). -/
theorem trimReact_lasts (lasts : StepLasts s) :
    (trimReact s).lev = s.lev ∧ (trimReact s).man.pump = s.man.pump ∧
      ∀ j, Opened s j → (valveOpen (trimReact s) j = false ↔ Reached s j) := by
  rw [trimReact_eq, if_neg fun h => (stepping_shut run holds).1 h lasts]
  refine ⟨stepping_lev s, (stepping_marked s).pump, fun j o => ?_⟩
  rw [← Bool.not_eq_true, stepping_valve (obeyed run holds)]
  simp [o.1, o.2]

/-- All valves of the step are closed: the steps are counted and the wait begins (R76). -/
theorem trimReact_ends (done : ¬ StepLasts s) :
    (trimReact s).lev.sub = .waiting ∧ (trimReact s).lev.trimUntil = s.now + 500 ∧ (trimReact s).man.pump.on = false ∧
      (∀ j, valveOpen (trimReact s) j = false ∧ (jackOf (trimReact s) j).stepTarget = none) ∧
      ∀ p c, s.lev.plan = some p → p.trim = some c →
        ∃ q n, (trimReact s).lev.plan = some q ∧ q.trim = some n ∧
          ∀ j, n.get j = c.get j + if (jackOf s j).stepTarget = none then 0 else 1 := by
  have m := stepping_marked s
  have lev := stepping_lev s
  have closed := (stepping_shut run holds).2 done
  rw [trimReact_eq, if_pos closed]
  generalize stepping s = t at m lev closed
  obtain ⟨off, frame⟩ := levelPumpOff_spec (m.isRunning.trans run) ((congrArg Pump.holder m.pump).trans holds)
  have valves : ∀ j, valveOpen (levelPumpOff t) j = false := fun j => by
    rw [frame]
    exact (openJacks_eq_nil t).1 closed j
  have records : ∀ j, jackOf (levelPumpOff t) j = jackOf s j := fun j => by
    rw [frame]
    exact (congrArg (fun l : Levelling => l.jacks.get j) lev :)
  have plans : (levelPumpOff t).lev.plan = s.lev.plan := by
    rw [frame]
    exact (congrArg Levelling.plan lev :)
  have mem : ∀ j, j ∈ stepped t ↔ (jackOf s j).stepTarget ≠ none := fun j => by
    have same : jackOf t j = jackOf s j := congrArg (fun l : Levelling => l.jacks.get j) lev
    simp [stepped, mem_allJacks, same, Option.isSome_iff_ne_none]
  have nodup : (stepped t).Nodup := nodup_allJacks.filter _
  generalize stepped t = l at mem nodup
  obtain ⟨beside, cells⟩ := counted_cells nodup (levelPumpOff t)
  have pump := pump_of_bare beside
  refine ⟨rfl, rfl, (congrArg Pump.on pump).trans off, fun j => ⟨?_, ?_⟩, fun p c plan trim => ?_⟩
  · refine (valveOpen_of_cell (cells j) :).trans ?_
    split <;> exact valves j
  · refine (congrArg JackRec.stepTarget (jackOf_of_cell (cells j)) :).trans ?_
    split
    · rfl
    next h => exact (congrArg JackRec.stepTarget (records j)).trans (by simpa [mem] using h)
  · obtain ⟨q, n, plan', trim', counts⟩ := counted_plan nodup (plans.trans plan) trim
    refine ⟨q, n, plan', trim', fun j => (counts j).trans ?_⟩
    by_cases h : (jackOf s j).stepTarget = none <;> simp [mem, h]

end

end Sys2Proof.Machine
end

section
/-! PROOF. STOW, JOG and the entry to GROUND; what each phase does on a change of a jack (O60). -/

namespace Sys2Proof.Machine

/-! ### STOW and JOG (R79, R80) -/

section
variable {s : State} (run : isRunning s .level = true) (holds : s.man.pump.holder = some .level)
include run holds

/-- A motion that ends NORMAL once its valves have closed and its pump is off. -/
theorem normal_afterPump {t : State} (m : Marked s t) :
    s.Stopped (terminate .level .normal (levelPumpOff t)) .level .normal ∧
      (terminate .level .normal (levelPumpOff t)).man.pump.on = false ∧
      (∀ j, valveOpen (terminate .level .normal (levelPumpOff t)) j = valveOpen t j) ∧
      (terminate .level .normal (levelPumpOff t)).lev.status = levelEndStatus s .normal := by
  have holds' : t.man.pump.holder = some .level := (congrArg Pump.holder m.pump).trans holds
  obtain ⟨-, frame⟩ := levelPumpOff_spec (m.isRunning.trans run) holds'
  have beside : (levelPumpOff t).now = t.now ∧ (levelPumpOff t).store.cfg = t.store.cfg ∧
      (levelPumpOff t).chans = t.chans ∧ (levelPumpOff t).man.jackValves = t.man.jackValves ∧
      (levelPumpOff t).man.pump.holder = some .level ∧ presentJacks (levelPumpOff t) = presentJacks t ∧
      ∀ j, (jackOf (levelPumpOff t) j).contact = (jackOf t j).contact := by
    rw [frame]
    exact ⟨rfl, rfl, rfl, rfl, holds', rfl, fun _ => rfl⟩
  obtain ⟨now, cfg, chans, valves, holder, present, contact⟩ := beside
  generalize levelPumpOff t = z at now cfg chans valves holder present contact
  have chan : chanOf z .level = chanOf t .level := congrArg (fun p : PerCh ChanRec => p.get .level) chans
  have chan' : chanOf t .level = chanOf s .level := congrArg (fun p : PerCh ChanRec => p.get .level) m.chans
  have run' : isRunning z .level = true := by rwa [isRunning, chan, chan']
  refine ⟨m.stopped (stopped_of_same now cfg chan (stopped_terminate .normal run')), (terminate_pump _ run' holder).1,
    fun j => (valveOpen_terminate_level run' .normal (by simp) j).trans ?_, ?_⟩
  · simp only [valveOpen, valves]
  · obtain ⟨d, e⟩ := terminate_level_lev run' .normal
    have rest : restStatus z = restStatus s :=
      restStatus_congr (present.trans m.presentJacks) fun j => (contact j).trans (m.contact j)
    rw [e]
    simp only [levelEndStatus, chan, chan', rest]

/-- What STOW does on a change of a jack (R79). -/
theorem stowReact_spec :
    (∀ j, s.jackPresent j = true → (jackOf s j).contact = .stowed → valveOpen (stowReact s) j = false) ∧
    (∀ j, s.jackPresent j = true → (jackOf s j).contact ≠ .stowed → valveOpen (stowReact s) j = valveOpen s j) ∧
    ((∀ j, s.jackPresent j = true → (jackOf s j).contact = .stowed) →
      s.Stopped (stowReact s) .level .normal ∧ (stowReact s).man.pump.on = false ∧
        ((chanOf s .level).op = some .stow → (stowReact s).lev.status = .unlevelled)) ∧
    ((∃ j, s.jackPresent j = true ∧ (jackOf s j).contact ≠ .stowed) →
      (stowReact s).chans = s.chans ∧ (stowReact s).man.pump = s.man.pump) := by
  unfold stowReact
  extract_lets t
  obtain ⟨beside, cells⟩ := closeJacksCmd_cells ((nodup_jacksWith s (· == .stowed)).filter (fun j => valveOpen s j))
    (obeyed run holds)
  have m : Marked s t := .of_cells beside fun j => jackOf_of_cell (cells j)
  have valve : ∀ j, s.jackPresent j = true →
      valveOpen t j = (valveOpen s j && !decide ((jackOf s j).contact = .stowed)) := fun j here => by
    refine (valveOpen_of_cell (cells j)).trans ?_
    cases opened : valveOpen s j <;> simp [mem_jacksWith, here, opened]
  clear_value t
  have all : allStowed t = allStowed s := by simp only [allStowed, m.presentJacks, m.contact]
  have shut : ∀ j, s.jackPresent j = true → (jackOf s j).contact = .stowed → valveOpen t j = false := fun j here down => by
    simp [valve j here, down]
  have stays : ∀ j, s.jackPresent j = true → (jackOf s j).contact ≠ .stowed → valveOpen t j = valveOpen s j :=
    fun j here up => by simp [valve j here, up]
  rw [all]
  by_cases stowed : allStowed s = true
  · obtain ⟨stopped, off, same, status⟩ := normal_afterPump run holds m
    rw [if_pos stowed]
    refine ⟨fun j here down => (same j).trans (shut j here down), fun j here up => (same j).trans (stays j here up),
      fun _ => ⟨stopped, off, fun op => status.trans ?_⟩, fun ⟨j, here, up⟩ => absurd ((allStowed_iff s).1 stowed j here) up⟩
    simp only [levelEndStatus, op, restStatus]
    exact if_pos stowed
  · rw [if_neg stowed]
    exact ⟨shut, stays, fun down => absurd ((allStowed_iff s).2 down) stowed, fun _ => ⟨m.chans, m.pump⟩⟩

/-- The end of a jack of a JOG (R80). -/
def JogEnds (s : State) (j : Jack) : Prop :=
  if jogDir (chanOf s .level).operand = .extend then s.store.cfg.maxStroke j ≤ (jackOf s j).stroke ∨ (jackOf s j).fault = true
  else (jackOf s j).stowed = true

omit run holds in
theorem jogEnds_iff (j : Jack) : jogEnds s j = true ↔ JogEnds s j := by
  unfold jogEnds JogEnds jogging
  cases jogDir (chanOf s .level).operand <;> simp

/-- In JOG some valve stays open (R80). -/
def JogLasts (s : State) : Prop := ∃ j, valveOpen s j = true ∧ ¬ (s.jackPresent j = true ∧ JogEnds s j)

/-- What JOG does on a change of a jack (R80). -/
theorem jogReact_spec :
    (∀ j, Opened s j → (valveOpen (jogReact s) j = false ↔ JogEnds s j)) ∧
    (∀ j, valveOpen s j = false → valveOpen (jogReact s) j = false) ∧
    (JogLasts s → (jogReact s).chans = s.chans ∧ (jogReact s).man.pump = s.man.pump) ∧
    (¬ JogLasts s → (∃ j, (jackOf s j).jogged = true) →
      s.Stopped (jogReact s) .level .normal ∧ (jogReact s).man.pump.on = false) := by
  unfold jogReact
  extract_lets t
  obtain ⟨beside, cells⟩ := closeJacksCmd_cells ((nodup_presentJacks s).filter (fun j => valveOpen s j && jogEnds s j))
    (obeyed run holds)
  have records : ∀ j, jackOf t j = jackOf s j := fun j => jackOf_of_cell (cells j)
  have m : Marked s t := .of_cells beside records
  have valve : ∀ j, valveOpen t j = true ↔ valveOpen s j = true ∧ ¬ (s.jackPresent j = true ∧ JogEnds s j) := fun j => by
    rw [← jogEnds_iff, (valveOpen_of_cell (cells j) :)]
    cases here : s.jackPresent j <;> cases opened : valveOpen s j <;> simp [mem_presentJacks, here, opened]
  clear_value t
  have shut : openJacks t = [] ↔ ¬ JogLasts s := by
    simp only [openJacks_eq_nil, ← Bool.not_eq_true, valve, JogLasts, not_exists]
  have jogged : allJacks.any (fun j => (jackOf t j).jogged) = true ↔ ∃ j, (jackOf s j).jogged = true := by
    simp [records, mem_allJacks]
  have ended : ∀ j, Opened s j → (valveOpen t j = false ↔ JogEnds s j) := fun j o => by
    rw [← Bool.not_eq_true, valve]
    simp [o.1, o.2]
  have stays : ∀ j, valveOpen s j = false → valveOpen t j = false := fun j off =>
    Bool.eq_false_of_not_eq_true fun h => absurd ((valve j).1 h).1 (by simp [off])
  split
  next done =>
    obtain ⟨stopped, off, same, -⟩ := normal_afterPump run holds m
    exact ⟨fun j o => by rw [same, ended j o], fun j off => (same j).trans (stays j off),
      fun lasts => absurd lasts (shut.1 done.2), fun _ _ => ⟨stopped, off⟩⟩
  next goes =>
    exact ⟨ended, stays, fun _ => ⟨m.chans, m.pump⟩, fun done jog => absurd ⟨jogged.2 jog, shut.2 done⟩ goes⟩

/-! ### The entry to GROUND (R67, R68) -/

/-- A flag that is set at the entry ends the run. -/
theorem enterGround_faulted (op : (chanOf s .level).op = some .autoLevel ∨ (chanOf s .level).op = some .stabilise) {j : Jack}
    {l : List Jack} (faulted : faultedJacks s = j :: l) :
    s.Stopped (enterGround s) .level (.abnormal ⟨.sensor, .jacks [j]⟩) ∧ (enterGround s).lev.phase = .none ∧
      (enterGround s).man.pump.on = false ∧ ∀ k, valveOpen (enterGround s) k = false := by
  unfold enterGround
  extract_lets z
  have faulted' : faultedJacks z = j :: l := faulted
  rw [faulted']
  obtain ⟨stopped, phase, off, valves, -⟩ := levelSensorLoss_spec (s := z) run holds op (.jacks [j])
  exact ⟨stopped_of_same rfl rfl rfl stopped, phase, off, valves⟩

/-- Jacks that are not in GROUND are driven there. -/
theorem enterGround_drives (free : s.man.dirValve ≠ .retract) (sound : faultedJacks s = []) (up : ¬ Grounded s) :
    (enterGround s).lev.phase = .ground ∧ (enterGround s).lev.phaseSince = s.now ∧ (enterGround s).chans = s.chans ∧
      (s.mon.latches.pump.isSet = false → (enterGround s).man.pump.on = true) ∧
      ∀ j, s.jackPresent j = true →
        ((jackOf s j).contact ≠ .ground →
          valveOpen (enterGround s) j = true ∧ (jackOf (enterGround s) j).ground = (jackOf s j).ground) ∧
        ((jackOf s j).contact = .ground → valveOpen (enterGround s) j = valveOpen s j ∧
          (jackOf (enterGround s) j).ground = some ((jackOf s j).ground.getD (jackOf s j).stroke)) := by
  unfold enterGround
  extract_lets x z l
  have sound' : faultedJacks x = [] := sound
  rw [sound']
  have marked : z = { x with lev := { x.lev with jacks := z.lev.jacks } } := marks_frame _ _ x
  have jacks : ∀ j, s.jackPresent j = true → jackOf z j = { jackOf s j with
      closedHere := false,
      ground := if (jackOf s j).contact = .ground ∧ (jackOf s j).ground = none then some (jackOf s j).stroke
        else (jackOf s j).ground } := fun j here =>
    (jackOf_marks _ (nodup_presentJacks x) x j).trans (if_pos ((mem_presentJacks x j).2 here))
  clear_value z
  have contact : ∀ j, s.jackPresent j = true → (jackOf z j).contact = (jackOf s j).contact := fun j here => by rw [jacks j here]
  have beside : z.chans = s.chans ∧ z.man = s.man ∧ z.mon = s.mon ∧ z.lev.phase = .ground ∧ z.lev.phaseSince = s.now ∧
      (∀ j, z.jackPresent j = s.jackPresent j) ∧ (∀ j, opens z j = opens s j) ∧ commands z .level = commands s .level := by
    rw [marked]
    exact ⟨rfl, rfl, rfl, rfl, rfl, fun _ => rfl, fun _ => rfl, rfl⟩
  obtain ⟨chans, man, mon, phase, since, present, opened, obeys⟩ := beside
  have mem : ∀ j, s.jackPresent j = true → (j ∈ l ↔ (jackOf s j).contact ≠ .ground) := fun j here => by
    simp [l, mem_jacksWith, present, here, contact j here]
  have nodup : l.Nodup := nodup_jacksWith z _
  have some : l ≠ [] := fun h => up fun j here => Classical.not_not.1 fun n => by simpa [h] using (mem j here).2 n
  clear_value l
  have valves := valveOpen_openAndPump nodup z
  have on : s.mon.latches.pump.isSet = false → (pumpOnCmd .level (openJacksCmd l z)).man.pump.on = true := fun clear =>
    pumpOnCmd_on ((commands_of_bare (openJacksCmd_cells nodup z).1).trans (obeys.trans (obeyed run holds)))
      (by rw [openJacksCmd_frame]; exact (congrArg (fun q => q.latches.pump.isSet) mon).trans clear)
  simp only [if_neg some]
  rw [openAndPump_frame] at valves on ⊢
  refine ⟨phase, since, chans, on, fun j here => ⟨fun high => ⟨?_, ?_⟩, fun down => ⟨?_, ?_⟩⟩⟩
  · rw [valves, opened, opens_iff run holds free]
    simp [(mem j here).2 high, here]
  · refine (congrArg JackRec.ground (jacks j here)).trans ?_
    simp [high]
  · have out : j ∉ l := fun h => (mem j here).1 h down
    rw [valves]
    simp [out, valveOpen, man]
  · refine (congrArg JackRec.ground (jacks j here)).trans ?_
    cases g : (jackOf s j).ground <;> simp [down]

end

/-- AUTO_LEVEL and STABILISE begin with the entry to GROUND, from a state that differs in the status and the run's records. -/
theorem levelBegin_grounds {o : Op} (op : o = .autoLevel ∨ o = .stabilise) (v : Nat) (s : State) :
    ∃ z, levelBegin o v s = enterGround z ∧ z.chans = s.chans ∧ z.now = s.now ∧ z.man = s.man ∧ z.mon = s.mon ∧
      z.store.cfg = s.store.cfg ∧ (∀ j, z.jackPresent j = s.jackPresent j) ∧ ∀ j, jackOf z j = jackOf s j := by
  have out := outside_of_scope (scope_setLevelStatus (restStatus s) s)
  have frame := setLevelStatus_frame (restStatus s) s
  obtain ⟨d, lev⟩ := setLevelStatus_lev (restStatus s) s
  have man : (setLevelStatus (restStatus s) s).man = s.man := by rw [frame]
  have mon : (setLevelStatus (restStatus s) s).mon = s.mon := by rw [frame]
  have jacks : ∀ j, jackOf (setLevelStatus (restStatus s) s) j = jackOf s j := fun j => by simp only [jackOf, lev]
  have present : ∀ j, (setLevelStatus (restStatus s) s).jackPresent j = s.jackPresent j := fun j =>
    of_outside (fun x => x.jackPresent j) (fun _ => rfl) out
  have chans := chans_of_outside out
  have now := now_of_outside out
  have cfg := cfg_of_outside out
  have begins : ∃ f : Levelling → Levelling, (∀ l, (f l).jacks = l.jacks) ∧
      levelBegin o v s = enterGround (modLev f (setLevelStatus (restStatus s) s)) := by
    obtain rfl | rfl := op
    · exact ⟨fun l => { l with plan := some { op := .autoLevel }, passes := 0, outcome := none, cornerDone := false },
        fun _ => rfl, rfl⟩
    · exact ⟨fun l => { l with plan := some { op := .stabilise }, passes := 0, outcome := none, cornerDone := false },
        fun _ => rfl, rfl⟩
  obtain ⟨f, keeps, e⟩ := begins
  refine ⟨_, e, ?_⟩
  generalize setLevelStatus (restStatus s) s = w at chans now man mon cfg present jacks
  refine ⟨chans, now, man, mon, cfg, present, fun j => ?_⟩
  rw [← jacks, jackOf, modLev_lev, keeps]
  rfl

/-- A run that is to begin with a flag set ends there, and one whose jacks are not all in GROUND drives them there. -/
theorem levelBegin_spec {s : State} {o : Op} (v : Nat) (op : o = .autoLevel ∨ o = .stabilise) (carried : runs s .level o = true)
    (holds : s.man.pump.holder = some .level) (free : s.man.dirValve ≠ .retract) :
    (∀ j l, faultedJacks s = j :: l →
      s.Stopped (levelBegin o v s) .level (.abnormal ⟨.sensor, .jacks [j]⟩) ∧ (levelBegin o v s).lev.phase = .none ∧
        (levelBegin o v s).man.pump.on = false ∧ ∀ k, s.jackPresent k = true → valveOpen (levelBegin o v s) k = false) ∧
    (faultedJacks s = [] → ¬ Grounded s →
      (levelBegin o v s).lev.phase = .ground ∧ (levelBegin o v s).lev.phaseSince = s.now ∧
        (levelBegin o v s).chans = s.chans ∧
        (s.mon.latches.pump.isSet = false → (levelBegin o v s).man.pump.on = true) ∧
        ∀ j, s.jackPresent j = true →
          ((jackOf s j).contact ≠ .ground → valveOpen (levelBegin o v s) j = true ∧
            (jackOf (levelBegin o v s) j).ground = (jackOf s j).ground) ∧
          ((jackOf s j).contact = .ground → valveOpen (levelBegin o v s) j = valveOpen s j ∧
            (jackOf (levelBegin o v s) j).ground = some ((jackOf s j).ground.getD (jackOf s j).stroke))) := by
  obtain ⟨z, e, chans, now, man, mon, cfg, present, jacks⟩ := levelBegin_grounds op v s
  have chan : chanOf z .level = chanOf s .level := congrArg (fun p : PerCh ChanRec => p.get .level) chans
  obtain ⟨state, isOp⟩ := Bool.and_eq_true_iff.1 carried
  have run : isRunning z .level = true := by rwa [isRunning, chan]
  have op' : (chanOf z .level).op = some .autoLevel ∨ (chanOf z .level).op = some .stabilise := by
    rw [chan, eq_of_beq isOp]
    exact op.imp (congrArg some) (congrArg some)
  have list : presentJacks z = presentJacks s := by simp only [presentJacks, present]
  have faulted : faultedJacks z = faultedJacks s := by simp only [faultedJacks, list, jacks]
  have grounded : Grounded z ↔ Grounded s := by simp only [Grounded, present, jacks]
  have valve : ∀ j, valveOpen z j = valveOpen s j := fun j => by simp only [valveOpen, man]
  rw [← man] at holds free
  rw [e]
  refine ⟨fun j l flagged => ?_, fun sound up => ?_⟩
  · obtain ⟨stopped, phase, off, valves⟩ := enterGround_faulted run holds op' (faulted.trans flagged)
    exact ⟨stopped_of_same now cfg chan stopped, phase, off, fun k _ => valves k⟩
  · have driven := enterGround_drives run holds free (faulted.trans sound) fun h => up (grounded.1 h)
    simpa only [now, chans, mon, present, jacks, valve] using driven

/-! ### The obligation -/

theorem levelReact_of_running {s : State} (run : isRunning s .level = true) : levelReact s = match s.lev.phase with
    | .ground => groundReact s
    | .lift => liftReact s
    | .measure => if s.lev.sub = .reground then regroundReact s else s
    | .trim => if s.lev.sub = .stepping then trimReact s else s
    | .stow => stowReact s
    | .jog => jogReact s
    | _ => s := if_pos run

/-- A change of a jack does nothing where no phase drives jacks. -/
theorem levelReact_quiet {s : State} (h : (chanOf s .level).state ≠ .running ∨ s.lev.phase = .settle ∨
    s.lev.sub = .settling ∧ s.lev.phase = .measure) : levelReact s = s := by
  unfold levelReact
  split
  next run =>
    obtain idle | phase | ⟨sub, phase⟩ := h
    · exact absurd ((isRunning_iff s .level).1 run) idle
    · rw [phase]
    · rw [phase]
      exact if_neg (by simp [sub])
  next => rfl

/-- Settles O60: each phase's reaction, by its own lemma, and the entry to GROUND. -/
theorem phasesReact : Obligations.PhasesReact := by
  intro s
  refine ⟨levelReact_quiet, fun state holds free => ?_, fun state holds => ?_, fun o v op carried holds free =>
    levelBegin_spec v op carried holds free⟩
  · have run := (isRunning_iff s .level).2 state
    have reacts := levelReact_of_running run
    refine ⟨fun phase => ?_, fun phase sub => ?_, fun phase => ?_, fun phase sub => ?_⟩
    · simp only [phase] at reacts
      rw [reacts]
      exact groundReact_spec run holds free phase
    · simp only [phase, sub, if_true] at reacts
      rw [reacts]
      exact regroundReact_spec run holds phase sub
    · simp only [phase] at reacts
      rw [reacts]
      exact ⟨liftReact_lasts run holds phase, liftReact_ends run holds free⟩
    · simp only [phase, sub, if_true] at reacts
      rw [reacts]
      exact ⟨chans_of_outside (outside_of_scope (scope_trimReact s)), trimReact_lasts run holds, trimReact_ends run holds⟩
  · have run := (isRunning_iff s .level).2 state
    have reacts := levelReact_of_running run
    refine ⟨fun phase => ?_, fun phase => ?_⟩
    · simp only [phase] at reacts
      rw [reacts]
      exact stowReact_spec run holds
    · simp only [phase] at reacts
      rw [reacts]
      exact jogReact_spec run holds

end Sys2Proof.Machine
end

section
/-! PROOF. A stowed switch's change: what the engine's reaction leaves, and the contact state it derives (O43). -/

namespace Sys2Proof.Machine

/-! ### Ground strokes and monitoring -/

/-- The monitoring records and the jacks' ground strokes. -/
def struck (s : State) : Monitor × (Jack → Option Nat) := (s.mon, fun j => (jackOf s j).ground)

theorem struck_modJack (j : Jack) (f : JackRec → JackRec) (keeps : ∀ q, (f q).ground = q.ground) (s : State) :
    struck (modJack j f s) = struck s := by
  have grounds : ∀ k, (jackOf (modJack j f s) k).ground = (jackOf s k).ground := fun k => by
    by_cases e : k = j
    · rw [e, jackOf_modJack_self, keeps]
    · rw [jackOf_modJack_ne _ _ _ _ e]
  simp only [struck, grounds, modJack_mon]

theorem struck_marks (f : Jack → JackRec → JackRec) (keeps : ∀ j q, (f j q).ground = q.ground) (l : List Jack) (s : State) :
    struck (l.foldl (fun t j => modJack j (f j) t) s) = struck s :=
  foldl_keeps _ struck l (fun t j _ => struck_modJack j (f j) (keeps j) t) s

theorem struck_closeJack (j : Jack) (s : State) : struck (closeJack j s) = struck s := by rw [closeJack_frame]; rfl

theorem struck_closeJacksCmd (l : List Jack) (s : State) : struck (closeJacksCmd l s) = struck s :=
  foldl_keeps _ struck l (fun t j _ => struck_closeJack j t) s

theorem struck_openJacksCmd (l : List Jack) (s : State) : struck (openJacksCmd l s) = struck s := by
  rw [openJacksCmd_frame]; rfl

theorem struck_levelPumpOff (s : State) : struck (levelPumpOff s) = struck s := by
  unfold levelPumpOff
  rw [pumpOffCmd_frame]
  rfl

theorem struck_terminate_level (t : Term) (s : State) : struck (terminate .level t s) = struck s := by
  cases h : isRunning s .level with
  | false => rw [terminate_of_not_running _ _ _ h]
  | true =>
    have grounds : ∀ j, (jackOf (terminate .level t s) j).ground = (jackOf s j).ground := fun j => by
      rw [jackOf_terminate_level h]
      rfl
    simp only [struck, grounds, terminate_level_mon h]

theorem struck_fail_level (k : FaultKind) (w : Subject) (s : State) : struck (fail .level k w s) = struck s :=
  struck_terminate_level _ s

theorem struck_levelSensorLoss (w : Subject) (s : State) : struck (levelSensorLoss w s) = struck s := by
  unfold levelSensorLoss
  split
  · rw [struck_fail_level, struck_closeJacksCmd]
  · rfl

theorem struck_startSettle (s : State) : struck (startSettle s) = struck s := by
  unfold startSettle
  extract_lets s1
  have begun : struck s1 = struck s := rfl
  split
  · exact begun
  · rw [struck_levelSensorLoss, begun]

theorem struck_enterSettle (s : State) : struck (enterSettle s) = struck s := struck_startSettle _

theorem struck_enterMeasure (s : State) : struck (enterMeasure s) = struck s := by
  unfold enterMeasure
  extract_lets air s1 s2
  have entered : struck s1 = struck s := rfl
  split
  · rw [openAndPump_frame]
    exact (struck_marks _ (by intros; rfl) air s1).trans entered
  · rw [struck_startSettle, entered]

theorem struck_clearLifts (s : State) : struck (clearLifts s) = struck s := struck_marks _ (by intros; rfl) _ s

theorem struck_closeGrounded (mark : Bool) (s : State) : struck (closeGrounded mark s) = struck s :=
  foldl_keeps _ struck _ (fun t j _ => by
    split
    · exact (struck_modJack j _ (by intro; rfl) _).trans (struck_closeJack j t)
    · rfl) s

theorem struck_groundReact (s : State) : struck (groundReact s) = struck s := by
  have moved : struck (regrounding s) = struck s := (struck_openJacksCmd _ _).trans (struck_closeGrounded true s)
  rw [groundReact_eq]
  split
  · rw [struck_fail_level, moved]
  · split
    · rw [struck_enterSettle, struck_levelPumpOff, moved]
    · exact moved

theorem struck_regroundReact (s : State) : struck (regroundReact s) = struck s := by
  have moved := struck_closeGrounded false s
  unfold regroundReact
  extract_lets t
  split
  · rw [struck_fail_level, moved]
  · split
    · rw [struck_startSettle, struck_levelPumpOff, moved]
    · exact moved

theorem struck_liftReact (s : State) : struck (liftReact s) = struck s := by
  have moved : struck (lifting s) = struck s := foldl_keeps _ struck _ (fun t j _ => by
    split
    · exact (struck_modJack j _ (by intro; rfl) _).trans (struck_closeJack j t)
    · rfl) s
  rw [liftReact_eq]
  split
  · rw [struck_enterMeasure, struck_clearLifts, struck_levelPumpOff, moved]
  · exact moved

theorem struck_trimReact (s : State) : struck (trimReact s) = struck s := by
  have moved : struck (stepping s) = struck s := foldl_keeps closeReached struck _ (fun t j _ => by
    unfold closeReached
    split
    · exact struck_closeJack j t
    · rfl) s
  rw [trimReact_eq]
  split
  · exact (foldl_keeps countStep struck _ (fun t j _ => struck_modJack j _ (by intro; rfl) _) _).trans
      ((struck_levelPumpOff _).trans moved)
  · exact moved

theorem struck_stowReact (s : State) : struck (stowReact s) = struck s := by
  unfold stowReact
  extract_lets t
  have moved : struck t = struck s := struck_closeJacksCmd _ s
  split
  · rw [struck_terminate_level, struck_levelPumpOff, moved]
  · exact moved

theorem struck_jogReact (s : State) : struck (jogReact s) = struck s := by
  unfold jogReact
  extract_lets t
  have moved : struck t = struck s := struck_closeJacksCmd _ s
  split
  · rw [struck_terminate_level, struck_levelPumpOff, moved]
  · exact moved

/-- The engine's reaction to a change of a jack leaves every ground stroke and the monitoring. -/
theorem struck_levelReact (s : State) : struck (levelReact s) = struck s := by
  cases run : isRunning s .level with
  | false => rw [levelReact_quiet (.inl fun h => by simp [isRunning, h] at run)]
  | true =>
    rw [levelReact_of_running run]
    split
    · exact struck_groundReact s
    · exact struck_liftReact s
    · split
      · exact struck_regroundReact s
      · rfl
    · split
      · exact struck_trimReact s
      · rfl
    · exact struck_stowReact s
    · exact struck_jogReact s
    · rfl

/-! ### The derivation (R61, R62) -/

/-- A write of a contact state leaves the monitoring, and STOWED removes the ground stroke of a jack that was not STOWED. -/
theorem setContact_struck (j : Jack) (v : Contact) (s : State) :
    (setContact j v s).mon = s.mon ∧
      (v = .stowed → (jackOf s j).contact ≠ .stowed → (jackOf (setContact j v s) j).ground = none) := by
  unfold setContact
  extract_lets q g t
  have moved : t.mon = s.mon ∧ (jackOf t j).ground = g := by
    refine ⟨by simp only [t]; rw [signal_frame]; rfl, ?_⟩
    have lev : t.lev = (modJack j (fun q => { q with contact := v, ground := g }) s).lev := lev_signal _ _
    rw [jackOf, lev]
    exact congrArg JackRec.ground (jackOf_modJack_self j _ s)
  have struck : t.mon = s.mon ∧ (v = .stowed → (jackOf s j).contact ≠ .stowed → (jackOf t j).ground = none) :=
    ⟨moved.1, fun stowed _ => moved.2.trans (if_pos stowed)⟩
  clear_value t
  split
  next same => exact ⟨rfl, fun stowed n => absurd (same.trans stowed) n⟩
  next =>
    split
    · obtain ⟨d, lev⟩ := setLevelStatus_lev .disturbed t
      refine ⟨?_, fun stowed n => ?_⟩
      · rw [setLevelStatus_frame]
        exact struck.1
      · rw [jackOf, lev]
        exact struck.2 stowed n
    · exact struck

theorem exec_stowedSwitchChange {s : State} (live : s.power.startingUp = false) (j : Jack) (active : Bool) :
    exec (.stowedSwitchChange j active) s = .next (finish (stowedSwitch j active s)) := by
  simp only [exec, execStowedSwitchChange, whenLive, live]
  rfl

/-- The jacks after a stowed switch's change: its own contact state is derived afresh. -/
theorem stowedSwitch_jacks (j : Jack) (active : Bool) (s : State) :
    (s.jackPresent j = true →
      (jackOf (stowedSwitch j active s) j).sensed = ({ jackOf s j with stowed := active } : JackRec).derived) ∧
    (s.jackPresent j = false →
      (jackOf (stowedSwitch j active s) j).sensed = ({ jackOf s j with stowed := active } : JackRec).sensed) ∧
    ∀ k, k ≠ j → (jackOf (stowedSwitch j active s) k).sensed = (jackOf s k).sensed := by
  have read : sensed (stowedSwitch j active s) = _ := (works_levelReact (.refl _)).sensed.trans (sensed_deriveContact j _)
  have self := jackOf_modJack_self j (fun q => { q with stowed := active }) s
  have jacks : ∀ k, (jackOf (stowedSwitch j active s) k).sensed = if k = j ∧ s.jackPresent j = true then
      ({ jackOf s j with stowed := active } : JackRec).derived
      else (jackOf (modJack j (fun q => { q with stowed := active }) s) k).sensed := fun k => by
    rw [← self]
    exact (congrArg (fun q : Sensed => q.jack k) read :)
  refine ⟨fun here => ?_, fun away => ?_, fun k n => ?_⟩
  · rw [jacks, if_pos ⟨rfl, here⟩]
  · rw [jacks, if_neg (by simp [away]), self]
  · rw [jacks, if_neg (by simp [n]), jackOf_modJack_ne _ _ _ _ n]

/-- A stowed switch's change leaves the monitoring, and a jack that becomes STOWED loses its ground stroke. -/
theorem stowedSwitch_struck (j : Jack) (active : Bool) (s : State) :
    (stowedSwitch j active s).mon = s.mon ∧ (s.jackPresent j = true → active = true → (jackOf s j).contact ≠ .stowed →
      (jackOf (stowedSwitch j active s) j).ground = none) := by
  have kept : struck (stowedSwitch j active s) = struck (deriveContact j (modJack j (fun q => { q with stowed := active }) s)) :=
    struck_levelReact _
  have self := jackOf_modJack_self j (fun q => { q with stowed := active }) s
  have mon := congrArg Prod.fst kept
  have grounds := fun k => congrFun (congrArg Prod.snd kept) k
  have present : (modJack j (fun q => { q with stowed := active }) s).jackPresent j = s.jackPresent j := rfl
  simp only [struck, deriveContact, self, present] at mon grounds
  refine ⟨mon.trans ?_, fun here on up => (grounds j).trans ?_⟩
  · split
    · exact (setContact_struck _ _ _).1
    · rfl
  · rw [if_pos here]
    refine (setContact_struck _ _ _).2 ?_ ?_
    · rw [on]
      rfl
    · rw [self]
      exact up

theorem stowedSwitch_keeps (j : Jack) (active : Bool) (s : State) :
    (stowedSwitch j active s).store.cfg = s.store.cfg ∧ (stowedSwitch j active s).scan = s.scan := by
  have reacts := ends_levelReact (deriveContact j (modJack j (fun q => { q with stowed := active }) s))
  have derives := outside_of_scope (scope_deriveContact j (modJack j (fun q => { q with stowed := active }) s))
  exact ⟨reacts.cfg.trans (cfg_of_outside derives), (of_fixed State.scan (fun _ => rfl) reacts.fixed).trans (scan_of_outside derives)⟩

/-- Settles O43: the jack's record is the derived one, and the engine's reaction leaves what the sensors give. -/
theorem stowedSwitchDerives : Obligations.StowedSwitchDerives := by
  intro s j active live
  obtain ⟨derived, frozen, others⟩ := stowedSwitch_jacks j active s
  obtain ⟨mon, removed⟩ := stowedSwitch_struck j active s
  obtain ⟨cfg, scan⟩ := stowedSwitch_keeps j active s
  have read : (jackOf (stowedSwitch j active s) j).stowed = active ∧
      (jackOf (stowedSwitch j active s) j).stroke = (jackOf s j).stroke ∧
      (jackOf (stowedSwitch j active s) j).pressure = (jackOf s j).pressure := by
    cases here : s.jackPresent j with
    | true => exact ⟨(congrArg JackRec.stowed (derived here) :), (congrArg JackRec.stroke (derived here) :),
        (congrArg JackRec.pressure (derived here) :)⟩
    | false => exact ⟨(congrArg JackRec.stowed (frozen here) :), (congrArg JackRec.stroke (frozen here) :),
        (congrArg JackRec.pressure (frozen here) :)⟩
  obtain ⟨stowed, stroke, pressure⟩ := read
  refine ⟨_, exec_stowedSwitchChange live j active, stowed, fun here => ?_, fun away => (congrArg JackRec.contact (frozen away) :),
    fun k n => ⟨(congrArg JackRec.contact (others k n) :), (congrArg JackRec.stowed (others k n) :)⟩, fun k => ?_, mon, cfg, scan⟩
  · have contact : (jackOf (stowedSwitch j active s) j).contact = derivedContact { jackOf s j with stowed := active } :=
      (congrArg JackRec.contact (derived here) :)
    rw [contact]
    refine ⟨fun on => ⟨?_, removed here on⟩, fun off sound => ?_, fun off fault => ?_⟩
    · simp [derivedContact, on]
    · simp [derivedContact, off, sound]
    · simp [derivedContact, off, fault]
  · by_cases e : k = j
    · rw [e]
      exact ⟨stroke, pressure⟩
    · exact ⟨(congrArg JackRec.stroke (others k e) :), (congrArg JackRec.pressure (others k e) :)⟩

end Sys2Proof.Machine
end
